-- ==== Sys2Proof/Word.lean ====
section
/-! DEFINITION. The words of the EC-416: octets, frame numbers, serials, and the numbers of trees and links
(spec/00 Units and Terms, spec/11 R202). -/

namespace Sys2Proof

/-- One octet. -/
abbrev Byte := BitVec 8

/-- A frame number, 0 to 16,777,215, then 0 again (R1). -/
abbrev FrameNo := BitVec 24

/-- The 8-octet identity of a home, its first octet the most significant (R202). -/
abbrev Serial := BitVec 64

/-- A tree, 0 to 3. -/
abbrev Tree := Fin 4

/-- A management link, 0 to 2. -/
abbrev LinkId := Fin 3

end Sys2Proof
end

