-- ==== Sys2Proof/Syntax.lean ====
section
/-! DEFINITION. The commands of the EC-416: one constructor per row of spec/opcode_table.json, in the table's order.
A command is one whole step of spec/95_what_each_step_holds.md. Trees and links that an event of the part names are
numbers that exist (`Tree`, `LinkId`); the parameters of a request are the numbers its frame carries (R205), in range or
not. -/

namespace Sys2Proof

/-- The values a SET_TREE names, in the order of the parameter table of spec/01 (R8, R205). -/
structure TreeValues where
  tTarget : Option Nat := none
  z : Option Nat := none
  g : Option Nat := none
  p : Option Nat := none
  k : Option Nat := none
  d : Option Nat := none
  wr : Option Nat := none
  wd : Option Nat := none
  driftTol : Option Nat := none
  driftLim : Option Nat := none
  tailTol : Option Nat := none
  strikeLim : Option Nat := none
  autoHunt : Option Nat := none
  cutPol : Option Nat := none
deriving DecidableEq, Repr

/-- The values a SET_PROFILE names, in the order of the profile table of spec/03 (R53, R205). -/
structure ProfileValues where
  f : Option Nat := none
  a : Option Nat := none
  m : Option Nat := none
  w : Option Nat := none
  mt : Option Nat := none
  q : Option Nat := none
deriving DecidableEq, Repr

/-- The five octets of an attention mask (R199, R205). -/
structure MaskValues where
  observation : Nat
  roster : Nat
  tree : Nat
  stranger : Nat
  allowance : Nat
deriving DecidableEq, Repr

/-- The blocks that offer directives to a tree's lanes (spec/01 1.5). -/
inductive Producer where
  | enrolment
  | tracker
  | roster
  | lightWatch
  | hunt
deriving DecidableEq, Repr

/-- The levels of the two strap pins of a link, true for high (R186, R206). -/
structure Straps where
  role1 : Bool
  role0 : Bool
deriving DecidableEq, Repr

/-- The commands, one per row of the table. An `at` operand is the step offset in the frame at which the event happens
(log entry 4); an index names which of the reports in flight of its kind is taken (log entry 3). -/
inductive Instr where
  | powerOnReset
  | resetN
  /-- The levels of the straps of each link, and whether its chip select is asserted, at release (R206). -/
  | release (straps : Vector Straps 3) (selected : Vector Bool 3)
  | frameBoundary
  | compileReadRecord (tree : Tree)
  | compileEnd (tree : Tree)
  | offerDelivered (tag : Nat)
  | settleMarkSettled (tag : Nat)
  | departureClears (tag : Nat)
  | rxResetPulse (tree : Tree) (offset : Nat)
  /-- Sample number 0 to 2,499 of the frame, at grain 4 × sample, with the raw levels of LIGHT and CUT_IN (R19). -/
  | inputSample (tree : Tree) (sample : Nat) (light : Bool) (cutIn : Bool)
  | cutInAssertion (tree : Tree)
  | cutInDeassertion (tree : Tree)
  | autoHuntTrigger (tree : Tree)
  | lockCapture (tree : Tree) (offset : Nat) (phase : Fin 8)
  /-- The 12 octets of the burst header (R204) and the payload octets that follow them. -/
  | headerReceipt (tree : Tree) (header : List Byte) (payload : List Byte)
  | announcePayloadEnd (tree : Tree) (payload : List Byte)
  | planLeavesList (tree : Tree) (offset : Nat)
  | validBurstReport (index : Nat)
  | missReport (index : Nat)
  | delaySample (index : Nat)
  | stateChangeReport (index : Nat)
  | lightWatchReport (index : Nat)
  | strike (index : Nat)
  | cleanRun (index : Nat)
  | discoveryReport (tree : Tree)
  | discoveryWindowEnd (tree : Tree)
  | rangingAttemptReport (tree : Tree)
  | darkWindowEnd (tree : Tree)
  | directiveRetry (tree : Tree) (producer : Producer)
  /-- The number in the 4-octet tag prefix, and the octets of the packet after it (R39, R204). -/
  | downstreamPacketArrival (tagPrefix : Nat) (octets : List Byte)
  | tallyUpOctets (index : Nat)
  | tallyDownOctets (index : Nat)
  | tallyDispatch (index : Nat)
  | attentionLatch (index : Nat)
  | writeDiscarded (link : LinkId)
  /-- A read that clocks the given number of octets after the command octet (R190, R205). -/
  | readTransaction (link : LinkId) (clocked : Nat)
  | disregardedTransaction (link : LinkId) (command : Nat)
  /-- A write transaction given by the octets after its command octet (R188, R191, R205). -/
  | malformedRequest (link : LinkId) (octets : List Byte)
  | enableTree (link : LinkId) (seq : Nat) (tree : Nat)
  | disableTree (link : LinkId) (seq : Nat) (tree : Nat)
  | setTree (link : LinkId) (seq : Nat) (tree : Nat) (values : TreeValues)
  | readTree (link : LinkId) (seq : Nat) (tree : Nat)
  | readPlan (link : LinkId) (seq : Nat) (tree : Nat)
  | provision (link : LinkId) (seq : Nat) (serial : Serial) (tree : Nat) (profile : Nat)
  | assignProfile (link : LinkId) (seq : Nat) (tag : Nat) (profile : Nat)
  | retire (link : LinkId) (seq : Nat) (tag : Nat)
  | rerange (link : LinkId) (seq : Nat) (tag : Nat)
  | restore (link : LinkId) (seq : Nat) (tag : Nat)
  | setProfile (link : LinkId) (seq : Nat) (profile : Nat) (values : ProfileValues)
  | readRecord (link : LinkId) (seq : Nat) (tag : Nat)
  | findSerial (link : LinkId) (seq : Nat) (serial : Serial)
  | readProfile (link : LinkId) (seq : Nat) (profile : Nat)
  | setEnrolment (link : LinkId) (seq : Nat) (tree : Nat) (mode : Nat)
  | readEnrolment (link : LinkId) (seq : Nat) (tree : Nat)
  | dismissStranger (link : LinkId) (seq : Nat) (index : Nat)
  | readStranger (link : LinkId) (seq : Nat)
  | readTracking (link : LinkId) (seq : Nat) (tag : Nat)
  | readLight (link : LinkId) (seq : Nat) (tree : Nat)
  | readLogStatus (link : LinkId) (seq : Nat)
  | readObservation (link : LinkId) (seq : Nat) (index : Nat)
  | clearObservation (link : LinkId) (seq : Nat) (index : Nat)
  | clearOverflow (link : LinkId) (seq : Nat)
  | hunt (link : LinkId) (seq : Nat) (tree : Nat)
  | abortHunt (link : LinkId) (seq : Nat) (tree : Nat)
  | resumeTree (link : LinkId) (seq : Nat) (tree : Nat)
  | readHunt (link : LinkId) (seq : Nat) (tree : Nat)
  | closePeriod (link : LinkId) (seq : Nat)
  | collect (link : LinkId) (seq : Nat) (tag : Nat)
  | readLive (link : LinkId) (seq : Nat) (tag : Nat)
  | readPeriod (link : LinkId) (seq : Nat)
  | readAttention (link : LinkId) (seq : Nat)
  | setAttentionMask (link : LinkId) (seq : Nat) (mask : MaskValues)
  | readLinks (link : LinkId) (seq : Nat)
deriving DecidableEq, Repr

end Sys2Proof
end

