-- ==== Sys2Proof/WellFormed.lean ====
section
/-! DEFINITION. Which commands the part can meet: an operand lies in the range its field, pin or frame can hold
(spec/01, R204, R205). The machine runs every command; a command that fails a check names no event of the part. -/

namespace Sys2Proof

/-- A number that fits a field of the given number of octets (R202). -/
def fitsOctets (octets n : Nat) : Bool := decide (n < 256 ^ octets)

/-- An optional value that, where named, fits its field. -/
def optFits (octets : Nat) : Option Nat → Bool
  | none => true
  | some n => fitsOctets octets n

/-- The fourteen values of a SET_TREE, in the order of the parameter table (R205). -/
def TreeValues.toList (v : TreeValues) : List (Option Nat) :=
  [v.tTarget, v.z, v.g, v.p, v.k, v.d, v.wr, v.wd, v.driftTol, v.driftLim, v.tailTol, v.strikeLim, v.autoHunt, v.cutPol]

/-- The six values of a SET_PROFILE, in the order of the profile table (R205). -/
def ProfileValues.toList (v : ProfileValues) : List (Option Nat) :=
  [v.f, v.a, v.m, v.w, v.mt, v.q]

/-- The five octets of a mask, in the order of R205. -/
def MaskValues.toList (v : MaskValues) : List Nat :=
  [v.observation, v.roster, v.tree, v.stranger, v.allowance]

/-- A step offset inside a frame (R1). -/
def offsetOk (offset : Nat) : Bool := decide (offset < 80000)

/-- A drop tag (spec/00 Terms). -/
def tagOk (tag : Nat) : Bool := decide (1 ≤ tag) && decide (tag ≤ 256)

/-- Whether a command's operands are ones the part can meet. -/
def Instr.wellFormed : Instr → Bool
  | .powerOnReset | .resetN | .release _ _ | .frameBoundary => true
  | .compileReadRecord _ | .compileEnd _ => true
  | .offerDelivered tag | .settleMarkSettled tag | .departureClears tag => tagOk tag
  | .rxResetPulse _ offset | .lockCapture _ offset _ | .planLeavesList _ offset => offsetOk offset
  | .inputSample _ sample _ _ => decide (sample < 2500)
  | .cutInAssertion _ | .cutInDeassertion _ | .autoHuntTrigger _ => true
  | .headerReceipt _ header payload => decide (header.length = 12) && decide (payload.length ≤ 32000)
  | .announcePayloadEnd _ payload => decide (payload.length = 16)
  | .validBurstReport _ | .missReport _ | .delaySample _ | .stateChangeReport _ | .lightWatchReport _ | .strike _
  | .cleanRun _ | .tallyUpOctets _ | .tallyDownOctets _ | .tallyDispatch _ | .attentionLatch _ => true
  | .discoveryReport _ | .discoveryWindowEnd _ | .rangingAttemptReport _ | .darkWindowEnd _ => true
  | .directiveRetry _ _ => true
  | .downstreamPacketArrival tagPrefix _ => fitsOctets 4 tagPrefix
  | .writeDiscarded _ | .readTransaction _ _ | .malformedRequest _ _ => true
  | .disregardedTransaction _ command => fitsOctets 1 command && decide (command ≠ 16) && decide (command ≠ 32)
  | .enableTree _ seq tree | .disableTree _ seq tree | .readTree _ seq tree | .readPlan _ seq tree
  | .readEnrolment _ seq tree | .readLight _ seq tree | .hunt _ seq tree | .abortHunt _ seq tree
  | .resumeTree _ seq tree | .readHunt _ seq tree => fitsOctets 1 seq && fitsOctets 1 tree
  | .setTree _ seq tree values => fitsOctets 1 seq && fitsOctets 1 tree && values.toList.all (optFits 4)
  | .provision _ seq _ tree profile => fitsOctets 1 seq && fitsOctets 1 tree && fitsOctets 1 profile
  | .assignProfile _ seq tag profile => fitsOctets 1 seq && fitsOctets 2 tag && fitsOctets 1 profile
  | .retire _ seq tag | .rerange _ seq tag | .restore _ seq tag | .readRecord _ seq tag | .readTracking _ seq tag
  | .collect _ seq tag | .readLive _ seq tag => fitsOctets 1 seq && fitsOctets 2 tag
  | .setProfile _ seq profile values => fitsOctets 1 seq && fitsOctets 1 profile && values.toList.all (optFits 2)
  | .findSerial _ seq _ => fitsOctets 1 seq
  | .readProfile _ seq profile => fitsOctets 1 seq && fitsOctets 1 profile
  | .setEnrolment _ seq tree mode => fitsOctets 1 seq && fitsOctets 1 tree && fitsOctets 1 mode
  | .dismissStranger _ seq index | .readObservation _ seq index | .clearObservation _ seq index =>
    fitsOctets 1 seq && fitsOctets 1 index
  | .readStranger _ seq | .readLogStatus _ seq | .clearOverflow _ seq | .closePeriod _ seq | .readPeriod _ seq
  | .readAttention _ seq | .readLinks _ seq => fitsOctets 1 seq
  | .setAttentionMask _ seq mask => fitsOctets 1 seq && mask.toList.all (fitsOctets 1)

end Sys2Proof
end

