-- ==== Sys2Proof/Decode.lean ====
section
/-! DEFINITION. What a word of the opcode table spells (no row has bits, so nothing), and beside it the layout of the
request frames of the management links (R205): the octets of a request, and the request that octets spell. -/

namespace Sys2Proof

/-- The command that a word of spec/opcode_table.json spells. No row of the table gives bits, so no word spells one. -/
def decodeTableWord (_nbits _w : Nat) : Option Instr := none

/-! ## Octets and numbers (R202: most significant octet first) -/

/-- The low `width` octets of a number, most significant first. -/
def natOctets : Nat → Nat → List Byte
  | 0, _ => []
  | width + 1, n => BitVec.ofNat 8 (n / 256 ^ width) :: natOctets width n

/-- The number that octets spell, most significant first. -/
def octetsNat (octets : List Byte) : Nat := octets.foldl (fun acc o => acc * 256 + o.toNat) 0

/-! ## Selections of values (R205) -/

/-- The selection bits of named values, bit 0 for the first. -/
def selectionOf : List (Option Nat) → Nat
  | [] => 0
  | v :: rest => (if v.isSome then 1 else 0) + 2 * selectionOf rest

/-- The octets of the named values, each in `width` octets. -/
def selectedOctets (width : Nat) (values : List (Option Nat)) : List Byte :=
  values.flatMap fun v => (v.map (natOctets width)).getD []

/-- `count` optional values read by a selection from octets, none where the octets do not match it exactly. -/
def readSelected (width : Nat) : (count selection : Nat) → List Byte → Option (List (Option Nat))
  | 0, selection, rest => if selection = 0 ∧ rest = [] then some [] else none
  | count + 1, selection, rest =>
    if selection % 2 = 1 then
      if rest.length < width then none
      else (readSelected width count (selection / 2) (rest.drop width)).map (some (octetsNat (rest.take width)) :: ·)
    else (readSelected width count (selection / 2) rest).map (none :: ·)

/-- Fourteen optional values as the values of a SET_TREE. -/
def TreeValues.ofList : List (Option Nat) → Option TreeValues
  | [tTarget, z, g, p, k, d, wr, wd, driftTol, driftLim, tailTol, strikeLim, autoHunt, cutPol] =>
    some { tTarget, z, g, p, k, d, wr, wd, driftTol, driftLim, tailTol, strikeLim, autoHunt, cutPol }
  | _ => none

/-- Six optional values as the values of a SET_PROFILE. -/
def ProfileValues.ofList : List (Option Nat) → Option ProfileValues
  | [f, a, m, w, mt, q] => some { f, a, m, w, mt, q }
  | _ => none

/-! ## Request frames (R205) -/

/-- The request code of a request, 1 to 35 in the order of the catalogue of spec/10; 0 for a command that is no
request. -/
def Instr.requestCode : Instr → Nat
  | .enableTree .. => 1
  | .disableTree .. => 2
  | .setTree .. => 3
  | .readTree .. => 4
  | .readPlan .. => 5
  | .provision .. => 6
  | .assignProfile .. => 7
  | .retire .. => 8
  | .rerange .. => 9
  | .restore .. => 10
  | .setProfile .. => 11
  | .readRecord .. => 12
  | .findSerial .. => 13
  | .readProfile .. => 14
  | .setEnrolment .. => 15
  | .readEnrolment .. => 16
  | .dismissStranger .. => 17
  | .readStranger .. => 18
  | .readTracking .. => 19
  | .readLight .. => 20
  | .readLogStatus .. => 21
  | .readObservation .. => 22
  | .clearObservation .. => 23
  | .clearOverflow .. => 24
  | .hunt .. => 25
  | .abortHunt .. => 26
  | .resumeTree .. => 27
  | .readHunt .. => 28
  | .closePeriod .. => 29
  | .collect .. => 30
  | .readLive .. => 31
  | .readPeriod .. => 32
  | .readAttention .. => 33
  | .setAttentionMask .. => 34
  | .readLinks .. => 35
  | .powerOnReset | .resetN | .release .. | .frameBoundary | .compileReadRecord .. | .compileEnd .. | .offerDelivered ..
  | .settleMarkSettled .. | .departureClears .. | .rxResetPulse .. | .inputSample .. | .cutInAssertion ..
  | .cutInDeassertion .. | .autoHuntTrigger .. | .lockCapture .. | .headerReceipt .. | .announcePayloadEnd ..
  | .planLeavesList .. | .validBurstReport .. | .missReport .. | .delaySample .. | .stateChangeReport ..
  | .lightWatchReport .. | .strike .. | .cleanRun .. | .discoveryReport .. | .discoveryWindowEnd ..
  | .rangingAttemptReport .. | .darkWindowEnd .. | .directiveRetry .. | .downstreamPacketArrival .. | .tallyUpOctets ..
  | .tallyDownOctets .. | .tallyDispatch .. | .attentionLatch .. | .writeDiscarded .. | .readTransaction ..
  | .disregardedTransaction .. | .malformedRequest .. => 0

/-- The link and the sequence number of a request. -/
def Instr.requestSource : Instr → Option (LinkId × Nat)
  | .enableTree link seq .. | .disableTree link seq .. | .setTree link seq .. | .readTree link seq ..
  | .readPlan link seq .. | .provision link seq .. | .assignProfile link seq .. | .retire link seq ..
  | .rerange link seq .. | .restore link seq .. | .setProfile link seq .. | .readRecord link seq ..
  | .findSerial link seq .. | .readProfile link seq .. | .setEnrolment link seq .. | .readEnrolment link seq ..
  | .dismissStranger link seq .. | .readStranger link seq | .readTracking link seq .. | .readLight link seq ..
  | .readLogStatus link seq | .readObservation link seq .. | .clearObservation link seq .. | .clearOverflow link seq
  | .hunt link seq .. | .abortHunt link seq .. | .resumeTree link seq .. | .readHunt link seq .. | .closePeriod link seq
  | .collect link seq .. | .readLive link seq .. | .readPeriod link seq | .readAttention link seq
  | .setAttentionMask link seq .. | .readLinks link seq => some (link, seq)
  | .powerOnReset | .resetN | .release .. | .frameBoundary | .compileReadRecord .. | .compileEnd .. | .offerDelivered ..
  | .settleMarkSettled .. | .departureClears .. | .rxResetPulse .. | .inputSample .. | .cutInAssertion ..
  | .cutInDeassertion .. | .autoHuntTrigger .. | .lockCapture .. | .headerReceipt .. | .announcePayloadEnd ..
  | .planLeavesList .. | .validBurstReport .. | .missReport .. | .delaySample .. | .stateChangeReport ..
  | .lightWatchReport .. | .strike .. | .cleanRun .. | .discoveryReport .. | .discoveryWindowEnd ..
  | .rangingAttemptReport .. | .darkWindowEnd .. | .directiveRetry .. | .downstreamPacketArrival .. | .tallyUpOctets ..
  | .tallyDownOctets .. | .tallyDispatch .. | .attentionLatch .. | .writeDiscarded .. | .readTransaction ..
  | .disregardedTransaction .. | .malformedRequest .. => none

/-- The parameter octets of a request, in the order of its name in the catalogue (R205). -/
def Instr.requestParameters : Instr → List Byte
  | .enableTree _ _ tree | .disableTree _ _ tree | .readTree _ _ tree | .readPlan _ _ tree | .readEnrolment _ _ tree
  | .readLight _ _ tree | .hunt _ _ tree | .abortHunt _ _ tree | .resumeTree _ _ tree | .readHunt _ _ tree =>
    natOctets 1 tree
  | .setTree _ _ tree values =>
    natOctets 1 tree ++ (natOctets 2 (selectionOf values.toList) ++ selectedOctets 4 values.toList)
  | .provision _ _ serial tree profile => natOctets 8 serial.toNat ++ (natOctets 1 tree ++ natOctets 1 profile)
  | .assignProfile _ _ tag profile => natOctets 2 tag ++ natOctets 1 profile
  | .retire _ _ tag | .rerange _ _ tag | .restore _ _ tag | .readRecord _ _ tag | .readTracking _ _ tag
  | .collect _ _ tag | .readLive _ _ tag => natOctets 2 tag
  | .setProfile _ _ profile values =>
    natOctets 1 profile ++ (natOctets 1 (selectionOf values.toList) ++ selectedOctets 2 values.toList)
  | .findSerial _ _ serial => natOctets 8 serial.toNat
  | .readProfile _ _ profile => natOctets 1 profile
  | .setEnrolment _ _ tree mode => natOctets 1 tree ++ natOctets 1 mode
  | .dismissStranger _ _ index | .readObservation _ _ index | .clearObservation _ _ index => natOctets 1 index
  | .setAttentionMask _ _ mask => mask.toList.flatMap (natOctets 1)
  | .readStranger .. | .readLogStatus .. | .clearOverflow .. | .closePeriod .. | .readPeriod .. | .readAttention ..
  | .readLinks .. => []
  | .powerOnReset | .resetN | .release .. | .frameBoundary | .compileReadRecord .. | .compileEnd .. | .offerDelivered ..
  | .settleMarkSettled .. | .departureClears .. | .rxResetPulse .. | .inputSample .. | .cutInAssertion ..
  | .cutInDeassertion .. | .autoHuntTrigger .. | .lockCapture .. | .headerReceipt .. | .announcePayloadEnd ..
  | .planLeavesList .. | .validBurstReport .. | .missReport .. | .delaySample .. | .stateChangeReport ..
  | .lightWatchReport .. | .strike .. | .cleanRun .. | .discoveryReport .. | .discoveryWindowEnd ..
  | .rangingAttemptReport .. | .darkWindowEnd .. | .directiveRetry .. | .downstreamPacketArrival .. | .tallyUpOctets ..
  | .tallyDownOctets .. | .tallyDispatch .. | .attentionLatch .. | .writeDiscarded .. | .readTransaction ..
  | .disregardedTransaction .. | .malformedRequest .. => []

/-- The sequence number of a request; 0 for a command that is no request. -/
def Instr.requestSeq (i : Instr) : Nat := (i.requestSource.map (·.2)).getD 0

/-- The request frame of a request: the octets of its write transaction after the command octet (R205). -/
def Instr.requestFrame (i : Instr) : List Byte :=
  natOctets 1 i.requestCode ++ (natOctets 1 i.requestSeq ++
    (natOctets 2 i.requestParameters.length ++ i.requestParameters))

/-- The request that a code and its parameter octets spell; none for a code outside the catalogue or a length the code
or its selection does not require (R191, R205). -/
def parseParameters (link : LinkId) (code seq : Nat) (params : List Byte) : Option Instr :=
  match code, params with
  | 1, [t] => some (.enableTree link seq t.toNat)
  | 2, [t] => some (.disableTree link seq t.toNat)
  | 3, t :: s1 :: s0 :: rest =>
    ((readSelected 4 14 (octetsNat [s1, s0]) rest).bind TreeValues.ofList).map (.setTree link seq t.toNat)
  | 4, [t] => some (.readTree link seq t.toNat)
  | 5, [t] => some (.readPlan link seq t.toNat)
  | 6, [a, b, c, d, e, f, g, h, t, p] =>
    some (.provision link seq (BitVec.ofNat 64 (octetsNat [a, b, c, d, e, f, g, h])) t.toNat p.toNat)
  | 7, [k1, k0, p] => some (.assignProfile link seq (octetsNat [k1, k0]) p.toNat)
  | 8, [k1, k0] => some (.retire link seq (octetsNat [k1, k0]))
  | 9, [k1, k0] => some (.rerange link seq (octetsNat [k1, k0]))
  | 10, [k1, k0] => some (.restore link seq (octetsNat [k1, k0]))
  | 11, p :: s :: rest =>
    ((readSelected 2 6 s.toNat rest).bind ProfileValues.ofList).map (.setProfile link seq p.toNat)
  | 12, [k1, k0] => some (.readRecord link seq (octetsNat [k1, k0]))
  | 13, [a, b, c, d, e, f, g, h] =>
    some (.findSerial link seq (BitVec.ofNat 64 (octetsNat [a, b, c, d, e, f, g, h])))
  | 14, [p] => some (.readProfile link seq p.toNat)
  | 15, [t, m] => some (.setEnrolment link seq t.toNat m.toNat)
  | 16, [t] => some (.readEnrolment link seq t.toNat)
  | 17, [x] => some (.dismissStranger link seq x.toNat)
  | 18, [] => some (.readStranger link seq)
  | 19, [k1, k0] => some (.readTracking link seq (octetsNat [k1, k0]))
  | 20, [t] => some (.readLight link seq t.toNat)
  | 21, [] => some (.readLogStatus link seq)
  | 22, [x] => some (.readObservation link seq x.toNat)
  | 23, [x] => some (.clearObservation link seq x.toNat)
  | 24, [] => some (.clearOverflow link seq)
  | 25, [t] => some (.hunt link seq t.toNat)
  | 26, [t] => some (.abortHunt link seq t.toNat)
  | 27, [t] => some (.resumeTree link seq t.toNat)
  | 28, [t] => some (.readHunt link seq t.toNat)
  | 29, [] => some (.closePeriod link seq)
  | 30, [k1, k0] => some (.collect link seq (octetsNat [k1, k0]))
  | 31, [k1, k0] => some (.readLive link seq (octetsNat [k1, k0]))
  | 32, [] => some (.readPeriod link seq)
  | 33, [] => some (.readAttention link seq)
  | 34, [o, r, t, s, a] => some (.setAttentionMask link seq ⟨o.toNat, r.toNat, t.toNat, s.toNat, a.toNat⟩)
  | 35, [] => some (.readLinks link seq)
  | _, _ => none

/-- The request that the octets of a write transaction, after the command octet, spell; none where the frame is of the
wrong length or its code names no request (R191, R205). The longest request has 63 octets, so the 64-octet bound of
R205 asks nothing more. -/
def parseRequest (link : LinkId) (octets : List Byte) : Option Instr :=
  match octets with
  | code :: seq :: l1 :: l0 :: params =>
    if params.length = octetsNat [l1, l0] then parseParameters link code.toNat seq.toNat params else none
  | _ => none

end Sys2Proof
end

