-- ==== Sys2Proof/Config.lean ====
section
/-! DEFINITION. What the spec leaves open as a value: two free values, with no body, so that nothing can be proved of them
but their widths. -/

namespace Sys2Proof

/-- FREE VALUE (log entry 7). A write transaction may be cut short after its request-code octet; it is answered
BAD_REQUEST (R188, R191), and every response carries a sequence number (R194), but no rule says which one where the
transaction carried none. The argument is the number of free values drawn before. -/
opaque Config.sequenceOfCutShort : Nat → Byte

/-- FREE VALUE (log entry 33). READ_LIVE returns the threshold Q × 1,048,576 (R184) as a number of 4 octets (R202), and for
Q from 4,096 up the threshold is more than 4 octets hold: no rule says which octets then stand there. The argument is the
threshold. -/
opaque Config.octetsOfWideThreshold : Nat → BitVec 32

end Sys2Proof
end

