-- ==== Sys2Proof/Machine/State.lean ====
section
/-! DEFINITION. The state of the EC-416: plain data, every piece of state the spec gives the part, block by block, with
the reports that one block has sent and another has not yet taken, the queue of commands that wait, and the state right
after reset. Each type cites the rule or table that names it. -/

namespace Sys2Proof.Machine

/-! ## Tree parameters and tree states (spec/01 1.2, 1.3) -/

inductive TreeState where
  | disabled
  | running
  | cut
deriving DecidableEq, Repr

/-- Cut polarity (R17). -/
inductive CutPolarity where
  | highWhenCut
  | lowWhenCut
deriving DecidableEq, Repr

/-- The parameter set of a tree engine (spec/01 1.3), in the order of its table. -/
structure TreeParams where
  tTarget : Nat
  z : Nat
  g : Nat
  p : Nat
  k : Nat
  d : Nat
  wr : Nat
  wd : Nat
  driftTol : Nat
  driftLim : Nat
  tailTol : Nat
  strikeLim : Nat
  autoHunt : Bool
  cutPol : CutPolarity
deriving DecidableEq, Repr

/-- The reset column of the parameter table (R10). -/
def TreeParams.reset : TreeParams where
  tTarget := 150000
  z := 50000
  g := 8
  p := 4
  k := 6000
  d := 16
  wr := 128
  wd := 256
  driftTol := 4
  driftLim := 32
  tailTol := 2
  strikeLim := 4
  autoHunt := true
  cutPol := .highWhenCut

/-! ## Directives, lanes and places (spec/01 1.5, spec/02 2.3) -/

inductive Directive where
  | enrolOffer (serial : Serial) (tag : Nat) (delay : Nat)
  | setDelay (tag : Nat) (delay : Nat)
  | laserHold (first : Nat) (last : Nat)
  | laserRelease (first : Nat) (last : Nat)
  | laserShut (tag : Nat)
  | shutLift (tag : Nat)
  | depart (tag : Nat)
deriving DecidableEq, Repr

/-- What a directive was offered for: it fixes the producer (R14), what its acceptance writes, and who hears of its
placement (R15). -/
inductive Origin where
  /-- ENROL_OFFER of the enrolment unit (R76). -/
  | offer
  /-- Ranging SET_DELAY of the enrolment unit (R85). -/
  | ranged
  /-- Correcting SET_DELAY of the delay tracker (R97). -/
  | corrected
  /-- DEPART of a RETIRE (R62). -/
  | departRetire
  /-- DEPART of a suspension or a RESTORE (R103). -/
  | departSuspend
  /-- SHUT_LIFT of a RESTORE, with the link that waits for it (R63). -/
  | restore (link : LinkId)
  /-- LASER_SHUT of the light watch (R138). -/
  | strikeShut
  /-- A directive of the current hunt round (R154). -/
  | huntRound
  /-- A round directive in its lane whose hunt has ended (R161). -/
  | huntOver
  /-- LASER_SHUT of an ISOLATED ending: the serial recorded at the count and the verification test frame (R159). -/
  | huntShut (serial : Option Serial) (test : FrameNo)
  /-- LASER_RELEASE of an ending (R161). -/
  | huntRelease
deriving DecidableEq, Repr

structure LaneEntry where
  dir : Directive
  origin : Origin
deriving DecidableEq, Repr

/-- A directive in a place, with its carriage frame (R15). -/
structure Place where
  entry : LaneEntry
  carriage : FrameNo
deriving DecidableEq, Repr

/-- A directive that a full lane refused, kept by its producer (R16). `due`: its offer after the last boundary is still
to be made, on its own account or behind one that is still to be offered again. -/
structure Kept where
  tree : Tree
  entry : LaneEntry
  due : Bool
deriving DecidableEq, Repr

/-! ## Plans (spec/06 6.1) -/

inductive PlanKind where
  | empty
  | discovery
  | darkTest
  | ranging
  | ordinary
deriving DecidableEq, Repr

/-- A reserved window: DARK(W_d), RANGE(tag, E) within W_r grains, or DISCOVER (R22, R108). -/
inductive Window where
  | dark (width : Nat)
  | range (tag : Nat) (expected : Nat) (width : Nat)
  | discover
deriving DecidableEq, Repr

/-- A BURST entry with the base and extra of its payload (spec/06 6.1). -/
structure Burst where
  tag : Nat
  preamble : Nat
  payload : Nat
  base : Nat
  extra : Nat
deriving DecidableEq, Repr

/-- The compile summary of a DARK TEST, RANGING or ORDINARY plan (R115 to R119). -/
structure Summary where
  u : Nat
  surplus : Nat
  residualTotal : Nat
  wsum : Option Nat
  leftover : Option Nat
  pointerBefore : Nat
  pointerAfter : Nat
  fitted : Bool
deriving DecidableEq, Repr

structure Plan where
  frame : FrameNo
  kind : PlanKind
  cutMark : Bool
  window : Option Window
  entries : List Burst
  withheld : List Nat
  overList : List Nat
  summary : Option Summary
deriving DecidableEq, Repr

/-- What a compile read of an eligible record: the effective values of R112, and the fields R113 uses. -/
structure Candidate where
  tag : Nat
  f : Nat
  a : Nat
  m : Nat
  w : Nat
  backlog : Nat
  outstanding : Nat
deriving DecidableEq, Repr

/-- A compile in progress (R106): the records with tags from `cursor` on are still to be read. -/
structure Compile where
  frame : FrameNo
  kind : PlanKind
  window : Option Window
  cursor : Nat
  eligible : List Candidate
  withheld : List Nat
  overList : List Nat
deriving DecidableEq, Repr

/-- A plan of the expectation list (R26): the tags whose slot has had its arrival (R28), whether its ranging window has
had a capture (R37), and the grains of its RX_RESET pulses not yet driven (R18). -/
structure Awaited where
  plan : Plan
  arrived : List Nat
  windowHit : Bool
  pulses : List Nat
deriving DecidableEq, Repr

/-! ## Captures, inputs and downstream data (spec/01 1.7, spec/02) -/

/-- A filtered input: its qualified level and its last two samples, latest first (R19). -/
structure Filter where
  level : Bool
  recent : List Bool
deriving DecidableEq, Repr

inductive Stage where
  | header
  | payload (overlapping : Bool)
deriving DecidableEq, Repr

/-- A captured lock whose header, or whose announce payload, is still being received (R26, R27, R37). -/
structure Reception where
  frame : FrameNo
  s : Nat
  stage : Stage
deriving DecidableEq, Repr

structure Packet where
  tag : Nat
  octets : List Byte
deriving DecidableEq, Repr

/-- A downstream frame: the header fields of R20 and R203, each place with its copy number, and the packets of its
payload space (R40). -/
structure DownFrame where
  frame : FrameNo
  g : Nat
  p : Nat
  z : Nat
  window : Option Window
  entries : List Burst
  places : List (Option (Directive × Nat))
  packets : List Packet
deriving DecidableEq, Repr

structure Engine where
  state : TreeState
  enableWaiters : List LinkId
  disableWaiters : List LinkId
  resumePending : Bool
  params : TreeParams
  planForce : Option Plan
  planPrep : Option Plan
  compile : Option Compile
  surplusPtr : Nat
  expect : List Awaited
  urgent : List LaneEntry
  normal : List LaneEntry
  places : Vector (Option Place) 4
  queue : List Packet
  down : Option DownFrame
  light : Filter
  cutIn : Filter
  receptions : List Reception
  lastAnnounce : Option (FrameNo × Nat)
  rxPulse : Option (FrameNo × Nat)
deriving DecidableEq, Repr

/-- A tree engine after reset (R10, R119). -/
def Engine.reset : Engine where
  state := .disabled
  enableWaiters := []
  disableWaiters := []
  resumePending := false
  params := .reset
  planForce := none
  planPrep := none
  compile := none
  surplusPtr := 1
  expect := []
  urgent := []
  normal := []
  places := Vector.replicate 4 none
  queue := []
  down := none
  light := ⟨false, []⟩
  cutIn := ⟨false, []⟩
  receptions := []
  lastAnnounce := none
  rxPulse := none

/-! ## The roster (spec/03) -/

/-- Record states, in the order of the table of spec/03 3.1. -/
inductive RecState where
  | vacant
  | expected
  | announced
  | ranging
  | active
  | parked
  | suspended
  | rogue
  | retired
deriving DecidableEq, Repr

inductive OfferState where
  | none
  | waiting
  | sent (frame : FrameNo)
  | delivered
deriving DecidableEq, Repr

/-- The departure field as a reader of the record sees it (R62). -/
inductive Departure where
  | none
  | pending
  | carried (frame : FrameNo)
deriving DecidableEq, Repr

/-- A drop record (spec/03 3.1). `departed` is the carriage frame of the last DEPART placed for the tag, until the
departure has ended; the departure field follows from it and from the DEPARTs kept or waiting (R62). -/
structure DropRecord where
  state : RecState
  serial : Option Serial
  tree : Option Tree
  profile : Nat
  delay : Nat
  held : Bool
  isOver : Bool
  backlog : Nat
  outstanding : Nat
  missRun : Nat
  strikes : Nat
  cleanRun : Nat
  rangeAttempts : Nat
  offer : OfferState
  provisioned : Bool
  departed : Option FrameNo
deriving DecidableEq, Repr

/-- The values of a VACANT record, departure none (R41). -/
def DropRecord.vacant : DropRecord where
  state := .vacant
  serial := none
  tree := none
  profile := 0
  delay := 0
  held := false
  isOver := false
  backlog := 0
  outstanding := 0
  missRun := 0
  strikes := 0
  cleanRun := 0
  rangeAttempts := 0
  offer := .none
  provisioned := false
  departed := none

/-- The six values of a profile (spec/03 3.5). -/
structure Profile where
  f : Nat
  a : Nat
  m : Nat
  w : Nat
  mt : Nat
  q : Nat
deriving DecidableEq, Repr

/-- The reset column of the profile table (R52). -/
def Profile.reset : Profile where
  f := 0
  a := 64
  m := 2000
  w := 1
  mt := 100
  q := 0

/-- Committed load, release pending, and whether a promotion scan is due (spec/03 3.6). -/
structure Load where
  committed : Nat
  release : Nat
  scanDue : Bool
deriving DecidableEq, Repr

def Load.reset : Load := ⟨0, 0, false⟩

/-! ## Enrolment unit and delay tracker (spec/04, spec/05) -/

inductive EnrolMode where
  | closed
  | opened
  | auto
deriving DecidableEq, Repr

/-- What a discovery window has held so far (R70). -/
structure WindowNote where
  frame : FrameNo
  collision : Bool
  announced : Bool
deriving DecidableEq, Repr

structure Enrol where
  mode : EnrolMode
  d : Nat
  count : Nat
  seqNo : Nat
  lastDiscovery : Option FrameNo
  queue : List Nat
  attempt : Option FrameNo
  notes : List WindowNote
deriving DecidableEq, Repr

def Enrol.reset : Enrol where
  mode := .closed
  d := 16
  count := 0
  seqNo := 0
  lastDiscovery := none
  queue := []
  attempt := none
  notes := []

inductive StrangerReason where
  | outOfZone
  | unknown
  | treeFull
  | poolFull
deriving DecidableEq, Repr

/-- An entry of the stranger list (spec/04 4.4). -/
structure Stranger where
  serial : Serial
  tree : Tree
  reason : StrangerReason
  firstSeen : FrameNo
  lastSeen : FrameNo
  seenInDiscovery : Nat
  times : Nat
  lastDelta : Int
deriving DecidableEq, Repr

inductive SettleMark where
  | none
  | pending
  | carried (frame : FrameNo)
  | settled
deriving DecidableEq, Repr

inductive SettleCause where
  | offer
  | ranged
  | corrected
deriving DecidableEq, Repr

/-- The delay tracker's items of one record (spec/05 5.1); its kept correction stands among the kept directives. -/
structure Tracker where
  samples : List Int
  mark : SettleMark
  cause : SettleCause
  unplaced : Nat
deriving DecidableEq, Repr

def Tracker.reset : Tracker := ⟨[], .none, .offer, 0⟩

/-! ## Light watch (spec/07) -/

/-- A burst interval of the interval table, in grains of its plan's upstream frame (R130). -/
structure BurstSpan where
  tag : Nat
  first : Int
  past : Int
deriving DecidableEq, Repr

structure TableEntry where
  frame : FrameNo
  bursts : List BurstSpan
  window : Option Window
deriving DecidableEq, Repr

inductive Attribution where
  | tag (tag : Nat)
  | window
  | gap
deriving DecidableEq, Repr

/-- The run in progress (R132): where it began, its attribution, and the latest upstream frame in which it has raised an
event (R133). -/
structure Run where
  frame : FrameNo
  grain : Nat
  attribution : Attribution
  raised : Option FrameNo
deriving DecidableEq, Repr

structure HistEntry where
  frame : FrameNo
  lit : Bool
deriving DecidableEq, Repr

structure LightWatch where
  table : List TableEntry
  run : Option Run
  closed : List HistEntry
  current : Option HistEntry
deriving DecidableEq, Repr

def LightWatch.reset : LightWatch := ⟨[], none, [], none⟩

/-- Observation kinds, in the order of the field table of spec/07 7.6. -/
inductive ObsKind where
  | stray
  | longTail
  | wrongSlot
  | duplicateSerial
  | huntCleared
  | huntIsolated
  | huntUnresolved
  | externalCut
deriving DecidableEq, Repr

inductive ObsCause where
  | tail
  | hunt
deriving DecidableEq, Repr

/-- A pending record of the observation log (spec/07 7.6). -/
structure Observation where
  kind : ObsKind
  tree : Tree
  tag : Option Nat
  serial : Option Serial
  cause : Option ObsCause
  firstFrame : FrameNo
  lastFrame : FrameNo
  repeats : Nat
deriving DecidableEq, Repr

/-! ## Hunt controller (spec/08) -/

inductive HuntState where
  | idle
  | confirming
  | splitting
  | verifying
deriving DecidableEq, Repr

inductive PendingTest where
  | absent
  | atOnce
  | frame (frame : FrameNo)
deriving DecidableEq, Repr

/-- A test in flight with its verdict so far (R151). -/
structure DarkTest where
  frame : FrameNo
  lit : Bool
deriving DecidableEq, Repr

/-- A round directive waits in its lane, is kept, or has been placed with its carriage frame (R155, R169). -/
inductive RoundStatus where
  | waiting
  | kept
  | placed (frame : FrameNo)
deriving DecidableEq, Repr

structure RoundDir where
  dir : Directive
  status : RoundStatus
deriving DecidableEq, Repr

/-- How a hunt ended, in the order of the table of spec/08 8.1. -/
inductive HuntOutcome where
  | cleared
  | isolated
  | unresolved
  | aborted
  | external
  | disabled
deriving DecidableEq, Repr

structure Hunt where
  state : HuntState
  suspects : Option (Nat × Nat)
  hold : Option (Nat × Nat)
  round : Nat
  count : Nat
  verified : Option (Nat × Option Serial)
  tests : List DarkTest
  requested : Nat
  firstLit : Bool
  pendingTest : PendingTest
  roundDirs : List RoundDir
  cutPending : Bool
  outcome : Option (HuntOutcome × FrameNo)
deriving DecidableEq, Repr

/-- A hunt controller after reset (R147). -/
def Hunt.reset : Hunt where
  state := .idle
  suspects := none
  hold := none
  round := 0
  count := 0
  verified := none
  tests := []
  requested := 0
  firstLit := false
  pendingTest := .absent
  roundDirs := []
  cutPending := false
  outcome := none

/-! ## Tally unit (spec/09) -/

structure TallySet where
  up : Nat
  down : Nat
  granted : Nat
  withheld : Nat
  overFrames : Nat
  saturated : Bool
  clamped : Bool
deriving DecidableEq, Repr

def TallySet.zero : TallySet := ⟨0, 0, 0, 0, 0, false, false⟩

structure ClosedSet where
  set : TallySet
  period : Option Nat
  closeFrame : Option FrameNo
  collected : Bool
deriving DecidableEq, Repr

/-- The live and the closed set of one record (spec/09 9.1). -/
structure Tally where
  live : TallySet
  closed : ClosedSet
deriving DecidableEq, Repr

/-- The sets after reset and after an entry into VACANT (R170). -/
def Tally.reset : Tally := ⟨.zero, ⟨.zero, none, none, true⟩⟩

/-! ## Responses (spec/10 10.4) -/

/-- Status codes, in the order of the status table without PENDING (R194, R205). -/
inductive Status where
  | ok
  | okAdjusted
  | badRequest
  | denied
  | noRecord
  | state
  | duplicate
  | poolFull
  | treeFull
  | overBudget
  | treeRunning
  | uncollected
  | noData
  | lightPresent
  | cutActive
deriving DecidableEq, Repr

inductive Role where
  | control
  | tally
  | off
deriving DecidableEq, Repr

inductive LinkState where
  | idle
  | busy
  | ready
deriving DecidableEq, Repr

/-- An attention flag of a link with its event count, and whether the mask shows it (spec/10 10.5). -/
structure Flag where
  latched : Bool
  count : Nat
  shown : Bool
deriving DecidableEq, Repr

def Flag.reset : Flag := ⟨false, 0, false⟩

/-- The five flags of a link, in the order of the table of spec/10 10.5. -/
structure Flags where
  observation : Flag
  roster : Flag
  tree : Flag
  stranger : Flag
  allowance : Flag
deriving DecidableEq, Repr

def Flags.reset : Flags := ⟨.reset, .reset, .reset, .reset, .reset⟩

/-- The kinds of latching event (R196). -/
inductive FlagKind where
  | observation
  | roster
  | tree
  | stranger
  | allowance
deriving DecidableEq, Repr

/-- What READ_TREE returns (R9). -/
structure TreeView where
  state : TreeState
  enablePending : Bool
  disablePending : Bool
  params : TreeParams
  mode : EnrolMode
  frame : FrameNo
  urgent : Nat
  normal : Nat
  places : List (Option (Directive × FrameNo))
  awaited : Nat
  queued : Nat
  light : Bool
  cutIn : Bool
deriving DecidableEq, Repr

/-- A record of the ranging queue as READ_ENROLMENT returns it (R89). -/
structure QueueView where
  tag : Nat
  state : RecState
  rangeAttempts : Nat
  offer : OfferState
deriving DecidableEq, Repr

/-- What READ_ENROLMENT returns (R89). `inProgress`: the frame of the unresolved attempt and whether a ranging SET_DELAY
is kept. -/
structure EnrolView where
  mode : EnrolMode
  dMax : Nat
  d : Nat
  count : Nat
  seqNo : Nat
  lastDiscovery : Option FrameNo
  queue : List QueueView
  inProgress : Option (Option FrameNo × Bool)
  strangers : Nat
deriving DecidableEq, Repr

/-- What READ_TRACKING returns (R104). -/
structure TrackingView where
  state : RecState
  delay : Nat
  missRun : Nat
  tree : Option Tree
  driftTol : Nat
  driftLim : Nat
  samples : List Int
  mark : SettleMark
  cause : SettleCause
  kept : Option Nat
deriving DecidableEq, Repr

/-- What READ_LIGHT returns (R146). -/
structure LightView where
  tailTol : Nat
  strikeLim : Nat
  autoHunt : Bool
  table : List FrameNo
  run : Option (FrameNo × Nat × Attribution)
  closed : List HistEntry
  current : Option HistEntry
  lit : Nat
  shuts : List Nat
deriving DecidableEq, Repr

/-- What READ_HUNT returns (R169). -/
structure HuntView where
  hunt : Hunt
  ending : List Directive
  resumePending : Bool
  cutIn : Bool
deriving DecidableEq, Repr

/-- What COLLECT returns with OK (R181); `left` is the state the record was left in. -/
structure CollectView where
  set : TallySet
  period : Option Nat
  closeFrame : Option FrameNo
  tag : Nat
  tree : Option Tree
  serial : Option Serial
  state : RecState
  left : RecState
deriving DecidableEq, Repr

/-- What READ_LIVE returns (R184). -/
structure LiveView where
  state : RecState
  tree : Option Tree
  profile : Nat
  q : Nat
  threshold : Option Nat
  live : TallySet
  period : Nat
  isOver : Bool
  closed : ClosedSet
deriving DecidableEq, Repr

/-- What READ_PERIOD returns (R185). -/
structure PeriodView where
  period : Nat
  lastClose : Option FrameNo
  uncollected : Nat
  lowest : Option Nat
  retired : Nat
  wouldTake : Bool
deriving DecidableEq, Repr

/-- What READ_LINKS returns of one link (R200). `served`: request code and sequence number of the request being served,
and whether it waits for a boundary and for a lane. -/
structure LinkView where
  role : Role
  state : LinkState
  served : Option (Nat × Byte × Bool × Bool)
  shown : List Bool
  attn : Bool
deriving DecidableEq, Repr

/-- The data of a response (R194): the items the owning rule names, in its order. -/
inductive ResponseData where
  | none
  /-- SET_TREE (R8). -/
  | params (params : TreeParams)
  /-- READ_TREE (R9). -/
  | tree (view : TreeView)
  /-- READ_PLAN (R127). -/
  | plan (pointer : Nat) (plan : Option Plan)
  /-- PROVISION, taken or DUPLICATE (R57). -/
  | tag (tag : Nat)
  /-- OVER_BUDGET (R53, R59). -/
  | budget (tree : Tree) (committed : Nat) (release : Nat) (k : Nat)
  /-- RETIRE (R60). -/
  | recState (state : RecState)
  /-- SET_PROFILE (R53). -/
  | profile (profile : Profile)
  /-- READ_RECORD (R64). -/
  | record (record : DropRecord) (departure : Departure)
  /-- FIND_SERIAL (R64). -/
  | found (tag : Nat) (tree : Option Tree) (state : RecState)
  /-- READ_PROFILE (R64): the profile, and committed load, release pending and K of each tree. -/
  | loads (profile : Profile) (loads : List (Nat × Nat × Nat))
  /-- SET_ENROLMENT (R66). -/
  | mode (mode : EnrolMode)
  /-- READ_ENROLMENT (R89). -/
  | enrolment (view : EnrolView)
  /-- DISMISS_STRANGER (R79). -/
  | stranger (entry : Stranger)
  /-- READ_STRANGER (R80). -/
  | strangers (entries : List (Nat × Stranger)) (empty : Nat)
  /-- READ_TRACKING (R104). -/
  | tracking (view : TrackingView)
  /-- READ_LIGHT (R146). -/
  | light (view : LightView)
  /-- READ_LOG_STATUS (R143). -/
  | logStatus (pending : Nat) (lowest : Option Nat) (overflow : Bool)
  /-- READ_OBSERVATION, CLEAR_OBSERVATION (R143, R144). -/
  | observation (observation : Observation)
  /-- CLEAR_OVERFLOW (R145). -/
  | flag (value : Bool)
  /-- ABORT_HUNT (R162). -/
  | aborted (state : HuntState) (suspects : Option (Nat × Nat))
  /-- READ_HUNT (R169). -/
  | hunt (view : HuntView)
  /-- UNCOLLECTED (R178). -/
  | uncollected (sets : Nat) (lowest : Nat)
  /-- CLOSE_PERIOD (R178). -/
  | closed (period : Nat) (next : Nat) (frame : FrameNo) (uncollected : Nat) (vacated : List Nat)
  /-- COLLECT answered NO_DATA (R181). -/
  | closedInfo (period : Option Nat) (frame : Option FrameNo)
  /-- COLLECT (R181). -/
  | collected (view : CollectView)
  /-- READ_LIVE (R184). -/
  | live (view : LiveView)
  /-- READ_PERIOD (R185). -/
  | period (view : PeriodView)
  /-- READ_ATTENTION (R198). -/
  | attention (flags : Flags) (role : Role)
  /-- SET_ATTENTION_MASK (R199). -/
  | mask (shown : List Bool)
  /-- READ_LINKS (R200). -/
  | links (views : List LinkView)
deriving DecidableEq, Repr

/-! ## Links (spec/10) -/

/-- The request slot of a BUSY link: the request frame it took, of at most 64 octets (R188, R205), with the code and the
sequence number its response echoes (R194). -/
structure Request where
  code : Nat
  seq : Byte
  frame : List Byte
deriving DecidableEq, Repr

structure Response where
  code : Nat
  seq : Byte
  discarded : Bool
  status : Status
  data : ResponseData
deriving DecidableEq, Repr

/-- What the last transaction drove on the data output from octet 1 on (R190, R205). -/
inductive Sdo where
  | notDriven
  | zeros
  | octets (octets : List Byte)
deriving DecidableEq, Repr

structure Link where
  role : Role
  state : LinkState
  request : Option Request
  response : Option Response
  discarded : Bool
  flags : Flags
  straddling : Bool
  sdo : Sdo
deriving DecidableEq, Repr

/-- A link after reset, with its latched role (R186, R187). -/
def Link.reset (role : Role) (straddling : Bool) : Link where
  role := role
  state := .idle
  request := none
  response := none
  discarded := false
  flags := .reset
  straddling := straddling
  sdo := .notDriven

/-! ## Reports in flight (log entry 3) -/

/-- Valid-burst report to the roster controller (R30, R50). -/
structure ValidReport where
  tree : Tree
  tag : Nat
  backlog : Nat
  payload : Nat
deriving DecidableEq, Repr

/-- Miss report to the roster controller (R100). -/
structure MissReport where
  tree : Tree
  tag : Nat
  payload : Nat
deriving DecidableEq, Repr

/-- Delay sample to the delay tracker (R30, R94). `met`: its record left ACTIVE while the sample was on its way, so that
the two reach the tracker together and either may be first (R99). -/
structure SampleReport where
  tree : Tree
  tag : Nat
  frame : FrameNo
  delta : Int
  met : Bool
deriving DecidableEq, Repr

/-- State change reported to the delay tracker (R42, R90). -/
structure ChangeReport where
  tag : Nat
  before : RecState
  after : RecState
deriving DecidableEq, Repr

/-- What the link unit is told: a latching event of another kind than ROSTER (R195, R196), or a change of a record's state
with its tag, old and new state and whether a link request caused it (R42). -/
inductive LinkReport where
  | event (kind : FlagKind)
  | change (tag : Nat) (before after : RecState) (byRequest : Bool)
deriving DecidableEq, Repr

/-- User octets of a valid burst to the tally unit (R173). -/
structure UpReport where
  tree : Tree
  tag : Nat
  octets : Nat
  clamped : Bool
deriving DecidableEq, Repr

/-- Packet placed, to the tally unit (R174). -/
structure DownReport where
  tree : Tree
  tag : Nat
  octets : Nat
deriving DecidableEq, Repr

/-- What one dispatch report adds for one tag (R123, R124, R175). -/
structure DispatchReport where
  tree : Tree
  tag : Nat
  grains : Nat
  withheld : Bool
  isOver : Bool
deriving DecidableEq, Repr

/-- What the light watch is told by another block (R134). -/
inductive LightBody where
  | stray
  | wrongSlot (tag : Option Nat)
  | duplicate (holder : Nat) (serial : Serial)
  | hunt (kind : ObsKind)
deriving DecidableEq, Repr

/-- A report to the light watch, with its tree and frame; one of an unsolicited capture carries the capture's offset too
(R33, R34, R134). -/
structure LightReport where
  tree : Tree
  frame : FrameNo
  body : LightBody
  offset : Option Nat
deriving DecidableEq, Repr

/-- A strike for a tag on a tree (R137). -/
structure StrikeReport where
  tree : Tree
  tag : Nat
deriving DecidableEq, Repr

/-- A valid burst told to the light watch, with the slot's planned interval: the grains [guard start, burst end) of the
plan's upstream frame (R30, R139). -/
structure CleanReport where
  tree : Tree
  tag : Nat
  frame : FrameNo
  first : Nat
  past : Nat
deriving DecidableEq, Repr

/-- What a discovery window tells the enrolment unit (R37, R35). -/
inductive DiscoveryBody where
  | badHeader (overlapping : Bool)
  | plain (tag : Nat) (overlapping : Bool)
  | announce (s : Nat) (serial : Serial) (stagger : Nat) (overlapping : Bool)
  | cutShort
  | windowEnd
deriving DecidableEq, Repr

structure DiscoveryMsg where
  tree : Tree
  frame : FrameNo
  body : DiscoveryBody
deriving DecidableEq, Repr

/-- What a ranging window tells the enrolment unit (R37, R35): the offset and the sample of its first capture and, where
the header was good, its tag and backlog; or its end. -/
inductive RangingBody where
  | capture (s : Nat) (delta : Int) (header : Option (Nat × Nat))
  | windowEnd (noLock : Bool)
deriving DecidableEq, Repr

structure RangingMsg where
  tree : Tree
  frame : FrameNo
  rangeTag : Nat
  body : RangingBody
deriving DecidableEq, Repr

/-- The end of a DARK window (R35). -/
structure DarkEnd where
  tree : Tree
  frame : FrameNo
deriving DecidableEq, Repr

/-- A change of CUT_IN assertion reported to the hunt controller (R19, R164). -/
structure CutReport where
  tree : Tree
  asserted : Bool
deriving DecidableEq, Repr

structure Mail where
  valids : List ValidReport
  misses : List MissReport
  samples : List SampleReport
  changes : List ChangeReport
  ups : List UpReport
  downs : List DownReport
  dispatches : List DispatchReport
  lights : List LightReport
  strikes : List StrikeReport
  cleans : List CleanReport
  discovery : List DiscoveryMsg
  ranging : List RangingMsg
  darkEnds : List DarkEnd
  cutIns : List CutReport
  triggers : List Tree
  attention : List LinkReport
deriving DecidableEq, Repr

def Mail.empty : Mail := ⟨[], [], [], [], [], [], [], [], [], [], [], [], [], [], [], []⟩

/-! ## The machine -/

/-- The state of the part, every block's, with the queue of commands that wait. -/
structure State where
  powerHeld : Bool
  resetHeld : Bool
  frame : FrameNo
  stepOffset : Nat
  engines : Vector Engine 4
  loads : Vector Load 4
  enrols : Vector Enrol 4
  lights : Vector LightWatch 4
  hunts : Vector Hunt 4
  records : Vector DropRecord 256
  trackers : Vector Tracker 256
  tallies : Vector Tally 256
  profiles : Vector Profile 16
  strangers : Vector (Option Stranger) 16
  log : Vector (Option Observation) 16
  overflow : Bool
  kept : List Kept
  period : Nat
  lastClose : Option FrameNo
  links : Vector Link 3
  mail : Mail
  /-- The packets handed to the Ethernet uplink, in order, each with its 4-octet tag prefix in front (R38, R204). -/
  uplink : List (List Byte)
  /-- The MODEL's own field: how many free values have been drawn (log entry 7). -/
  freeCount : Nat
  pending : List Instr
deriving DecidableEq, Repr

/-- Reasons the part stops with a fault: there are none. No rule of the spec stops the part, so the type has no
constructor (safe: nothing can be raised). -/
inductive Fault where
deriving DecidableEq, Repr

/-- Reasons the model refuses a command. -/
inductive Refusal where
  /-- Raised by `exec` for a command without a meaning, by its mnemonic; no command is left without one. Safe: the model
  stops where the part goes on. -/
  | notModelled (mnemonic : String)
deriving DecidableEq, Repr

/-- Every block as its chapter gives it for power-on reset and RESET_N (R10, R41, R81, R90, R129, R147, R170, R187), for
latched roles and chip selects; frame 0 begins (R1, R206). -/
def State.resetWith (roles : Vector Role 3) (selected : Vector Bool 3) (freeCount : Nat) (pending : List Instr) :
    State where
  powerHeld := false
  resetHeld := false
  frame := 0
  stepOffset := 0
  engines := Vector.replicate 4 .reset
  loads := Vector.replicate 4 .reset
  enrols := Vector.replicate 4 .reset
  lights := Vector.replicate 4 .reset
  hunts := Vector.replicate 4 .reset
  records := Vector.replicate 256 .vacant
  trackers := Vector.replicate 256 .reset
  tallies := Vector.replicate 256 .reset
  profiles := Vector.replicate 16 .reset
  strangers := Vector.replicate 16 none
  log := Vector.replicate 16 none
  overflow := false
  kept := []
  period := 0
  lastClose := none
  links := #v[.reset roles[0] selected[0], .reset roles[1] selected[1], .reset roles[2] selected[2]]
  mail := .empty
  uplink := []
  freeCount := freeCount
  pending := pending

/-- The roles that links with open straps latch: CONTROL, CONTROL, TALLY (R186, R206; log entry 1). -/
def openRoles : Vector Role 3 := #v[.control, .control, .tally]

/-- The part right after reset, with the straps of every link open, no chip select asserted (log entry 1) and no command
waiting. -/
def State.reset : State := State.resetWith openRoles (Vector.replicate 3 false) 0 []

end Sys2Proof.Machine
end

