-- ==== Sys2Proof/Machine/Ops.lean ====
section
/-! DEFINITION. The operations that the meanings share: reading and changing one piece of state, frame arithmetic, the
state changes of a record with their effects (R43), the lanes and what a producer writes when its directive is accepted
(R14), the observation log, and the answer to a request. -/

namespace Sys2Proof.Machine

/-! ## Numbered vectors -/

/-- The element numbered `k`, counting from 1. -/
def readAt {α : Type} {n : Nat} (v : Vector α n) (k : Nat) (absent : α) : α :=
  if h : 1 ≤ k ∧ k ≤ n then v[k - 1] else absent

/-- The element numbered `k`, counting from 1, changed; no change for a number that names none. -/
def updateAt {α : Type} {n : Nat} (v : Vector α n) (k : Nat) (f : α → α) : Vector α n :=
  if h : 1 ≤ k ∧ k ≤ n then v.set (k - 1) (f v[k - 1]) else v

/-- Every element changed by its number, counting from 1. -/
def updateAll {α : Type} {n : Nat} (v : Vector α n) (f : Nat → α → α) : Vector α n :=
  ⟨((v.toList.zipIdx 1).map fun p => f p.2 p.1).toArray, by simp⟩

/-- The numbers, counting from 1 and ascending, of the elements that pass a test. -/
def numbersWhere {α : Type} {n : Nat} (v : Vector α n) (test : Nat → α → Bool) : List Nat :=
  ((v.toList.zipIdx 1).filter fun p => test p.2 p.1).map (·.2)

/-! ## Reading and changing one piece of state -/

def State.engine (s : State) (t : Tree) : Engine := s.engines[t.val]
def State.load (s : State) (t : Tree) : Load := s.loads[t.val]
def State.enrol (s : State) (t : Tree) : Enrol := s.enrols[t.val]
def State.light (s : State) (t : Tree) : LightWatch := s.lights[t.val]
def State.hunt (s : State) (t : Tree) : Hunt := s.hunts[t.val]
def State.link (s : State) (l : LinkId) : Link := s.links[l.val]

/-- Record `k`; a number outside 1 to 256 names a record that is always VACANT. -/
def State.record (s : State) (k : Nat) : DropRecord := readAt s.records k .vacant
def State.tracker (s : State) (k : Nat) : Tracker := readAt s.trackers k .reset
def State.tally (s : State) (k : Nat) : Tally := readAt s.tallies k .reset
/-- Profile `n`, 0 to 15. -/
def State.profile (s : State) (n : Nat) : Profile := readAt s.profiles (n + 1) .reset

def State.modEngine (s : State) (t : Tree) (f : Engine → Engine) : State :=
  { s with engines := s.engines.set t.val (f (s.engine t)) }
def State.modLoad (s : State) (t : Tree) (f : Load → Load) : State :=
  { s with loads := s.loads.set t.val (f (s.load t)) }
def State.modEnrol (s : State) (t : Tree) (f : Enrol → Enrol) : State :=
  { s with enrols := s.enrols.set t.val (f (s.enrol t)) }
def State.modLight (s : State) (t : Tree) (f : LightWatch → LightWatch) : State :=
  { s with lights := s.lights.set t.val (f (s.light t)) }
def State.modHunt (s : State) (t : Tree) (f : Hunt → Hunt) : State :=
  { s with hunts := s.hunts.set t.val (f (s.hunt t)) }
def State.modLink (s : State) (l : LinkId) (f : Link → Link) : State :=
  { s with links := s.links.set l.val (f (s.link l)) }
def State.modRecord (s : State) (k : Nat) (f : DropRecord → DropRecord) : State :=
  { s with records := updateAt s.records k f }
def State.modTracker (s : State) (k : Nat) (f : Tracker → Tracker) : State :=
  { s with trackers := updateAt s.trackers k f }
def State.modTally (s : State) (k : Nat) (f : Tally → Tally) : State :=
  { s with tallies := updateAt s.tallies k f }
def State.modProfile (s : State) (n : Nat) (f : Profile → Profile) : State :=
  { s with profiles := updateAt s.profiles (n + 1) f }
def State.modMail (s : State) (f : Mail → Mail) : State := { s with mail := f s.mail }
def State.modRecords (s : State) (f : Nat → DropRecord → DropRecord) : State :=
  { s with records := updateAll s.records f }
/-- The kept directives that pass a test are abandoned. -/
def State.dropKept (s : State) (test : Kept → Bool) : State := { s with kept := s.kept.filter (fun x => !test x) }

/-- The report numbered `index` among those in flight, and the rest. -/
def takeNth {α : Type} (l : List α) (index : Nat) : Option (α × List α) :=
  (l[index]?).map fun x => (x, l.eraseIdx index)

/-- The first report in flight that passes a test, and the rest. -/
def takeFirst {α : Type} (l : List α) (test : α → Bool) : Option (α × List α) :=
  (l.find? test).map fun x => (x, l.eraseP test)

/-! ## Frames and steps (R1 to R3) -/

/-- The distance from frame `b` to frame `a`, −8,388,608 to +8,388,607 (R2). -/
def frameDist (b a : FrameNo) : Int := (a - b).toInt

/-- Frame `a` is at least `k` frames after frame `b` (R2). -/
def atLeastAfter (k : Nat) (b a : FrameNo) : Bool := decide ((k : Int) ≤ frameDist b a)

/-- The last step offset of a frame. -/
def lastStep : Nat := 79999

/-- The frame timer at the step offset of an event of this frame; it never goes back (R1; log entry 4). -/
def State.advance (s : State) (offset : Nat) : State := { s with stepOffset := max s.stepOffset (min offset lastStep) }

/-- The upstream frame and the step offset in it of a step of a downstream frame, `back` steps earlier (R3). -/
def upstreamPos (frame : FrameNo) (offset tTarget back : Nat) : FrameNo × Nat :=
  let steps := (frame.toNat + 16777216) * 80000 + offset - tTarget - back
  (BitVec.ofNat 24 (steps / 80000), steps % 80000)

/-- The steps from the boundary of frame `f` to now. -/
def State.stepsSince (s : State) (f : FrameNo) : Int := frameDist f s.frame * 80000 + s.stepOffset

/-! ## Tree engines -/

/-- The per-burst overhead O = G + P + 3 (1.3). -/
def TreeParams.overhead (p : TreeParams) : Nat := p.g + p.p + 3

/-- Burst end = preamble start + P + 3 + payload (R21). -/
def Burst.finish (b : Burst) (p : TreeParams) : Nat := b.preamble + p.p + 3 + b.payload

def Engine.enablePending (e : Engine) : Bool := !e.enableWaiters.isEmpty
def Engine.disablePending (e : Engine) : Bool := !e.disableWaiters.isEmpty

/-- TX_ENABLE (R17). -/
def Engine.txEnable (e : Engine) : Bool := e.state != .disabled

/-- The level of CUT_OUT, true for high (R17). -/
def Engine.cutOut (e : Engine) : Bool :=
  match e.params.cutPol with
  | .highWhenCut => e.state == .cut
  | .lowWhenCut => e.state != .cut

/-- CUT_IN is asserted while its qualified level is the cut level of the polarity in force (R17, R19). -/
def Engine.cutInAsserted (e : Engine) : Bool :=
  match e.params.cutPol with
  | .highWhenCut => e.cutIn.level
  | .lowWhenCut => !e.cutIn.level

/-- The octets held in the downstream data queue (R39). -/
def Engine.queuedOctets (e : Engine) : Nat := (e.queue.map (·.octets.length)).sum

/-- Whether the tree sends frames and its lanes accept (1.2). -/
def TreeState.live (x : TreeState) : Bool := x != .disabled

/-! ## Messages -/

/-- A latching event, reported to the link unit (R195). -/
def State.raise (s : State) (kind : FlagKind) : State :=
  s.modMail fun m => { m with attention := m.attention ++ [.event kind] }

/-- A report to the light watch (R134), with the offset of the capture it is of where it carries one (R34). -/
def State.tellLight (s : State) (t : Tree) (frame : FrameNo) (body : LightBody) (offset : Option Nat := none) : State :=
  s.modMail fun m => { m with lights := m.lights ++ [⟨t, frame, body, offset⟩] }

/-! ## The roster (spec/03) -/

/-- Tag `k` is a record of tree `t`: not VACANT, and its tree field names `t` (2.6). -/
def State.isRecordOf (s : State) (t : Tree) (k : Nat) : Bool :=
  (s.record k).state != .vacant && (s.record k).tree == some t

/-- A record's tree; a VACANT record has none, and tree 0 stands in. -/
def DropRecord.treeNo (r : DropRecord) : Tree := r.tree.getD 0

/-- States whose serial is in the lookup (R47). -/
def RecState.inLookup : RecState → Bool
  | .expected | .announced | .ranging | .active | .parked | .suspended | .rogue => true
  | .vacant | .retired => false

/-- The tag of the record that holds a serial in the lookup (R47). -/
def State.lookup (s : State) (serial : Serial) : Option Nat :=
  (numbersWhere s.records fun _ r => r.state.inLookup && r.serial == some serial).head?

/-- The records of a tree that are not VACANT (R48). -/
def State.treeCount (s : State) (t : Tree) : Nat :=
  (numbersWhere s.records fun _ r => r.state != .vacant && r.tree == some t).length

/-- F + A + O of a record, by the profile it names and the parameters of its tree (R43). -/
def State.loadOf (s : State) (k : Nat) : Nat :=
  let r := s.record k
  (s.profile r.profile).f + (s.profile r.profile).a + (s.engine r.treeNo).params.overhead

/-- The budget test: L + H and what is to be added stay within K (R54, R56). -/
def State.fits (s : State) (t : Tree) (added : Nat) : Bool :=
  decide ((s.load t).committed + (s.load t).release + added ≤ (s.engine t).params.k)

def Load.add (l : Load) (grains : Nat) : Load := { l with committed := l.committed + grains }
/-- A fall of the committed load, added to the release pending (R54). -/
def Load.drop (l : Load) (grains : Nat) : Load :=
  { l with committed := l.committed - grains, release := l.release + grains }

def Directive.isDepart (k : Nat) : Directive → Bool
  | .depart j => j == k
  | _ => false

def Directive.isShut (k : Nat) : Directive → Bool
  | .laserShut j => j == k
  | _ => false

def Directive.isShutLift (k : Nat) : Directive → Bool
  | .shutLift j => j == k
  | _ => false

def Directive.isSetDelay (k : Nat) : Directive → Bool
  | .setDelay j _ => j == k
  | _ => false

def Directive.isOffer (k : Nat) : Directive → Bool
  | .enrolOffer _ j _ => j == k
  | _ => false

def Kept.isRanged (k : Nat) (x : Kept) : Bool := x.entry.origin == .ranged && x.entry.dir.isSetDelay k
def Kept.isCorrection (k : Nat) (x : Kept) : Bool := x.entry.origin == .corrected && x.entry.dir.isSetDelay k
def Kept.isOffer (k : Nat) (x : Kept) : Bool := x.entry.origin == .offer && x.entry.dir.isOffer k
def Kept.isSuspendDepart (k : Nat) (x : Kept) : Bool := x.entry.origin == .departSuspend && x.entry.dir.isDepart k

/-- Whether a kept directive is the SHUT_LIFT of a RESTORE for record `k` (R63). -/
def Kept.isRestore (k : Nat) (x : Kept) : Bool :=
  match x.entry.origin with
  | .restore _ => x.entry.dir.isShutLift k
  | _ => false

/-- The departure field of record `k`: pending while a DEPART for the tag is kept or waits in a lane, else carried from
the last placed, else none (R62; log entry 13). -/
def State.departure (s : State) (k : Nat) : Departure :=
  if s.kept.any (fun x => x.entry.dir.isDepart k) ||
      s.engines.toList.any (fun e => e.normal.any fun x => x.dir.isDepart k) then .pending
  else
    match (s.record k).departed with
    | some f => .carried f
    | none => .none

inductive Allocation where
  | tag (k : Nat)
  | poolFull
  | treeFull
deriving DecidableEq, Repr

/-- The allocation of a record for a tree (R48). -/
def State.allocate (s : State) (t : Tree) : Allocation :=
  match (numbersWhere s.records fun k r => r.state == .vacant && s.departure k == .none).head? with
  | none => .poolFull
  | some k => if 96 ≤ s.treeCount t then .treeFull else .tag k

/-- A record as it stands in a new state, the fields that every entry into the state sets (R41, R43). -/
def DropRecord.enter (r : DropRecord) (new : RecState) : DropRecord :=
  match new with
  | .vacant => { DropRecord.vacant with departed := r.departed }
  | .active => { r with state := .active, missRun := 0 }
  | .announced => { r with state := .announced, rangeAttempts := 0 }
  | .expected => { r with state := .expected }
  | .ranging => { r with state := .ranging }
  | .parked => { r with state := .parked }
  | .suspended => { r with state := .suspended }
  | .rogue => { r with state := .rogue }
  | .retired => { r with state := .retired }

/-- Leaving ACTIVE gives up the committed load (R43). -/
def State.leaveActive (s : State) (k : Nat) (new : RecState) : State :=
  if (s.record k).state = .active ∧ new ≠ .active then
    s.modLoad (s.record k).treeNo (·.drop (s.loadOf k))
  else s

/-- Leaving ANNOUNCED or RANGING, but for the scheduling of ANNOUNCED into RANGING, takes the record from its ranging
queue; a ranging in progress ends, with a kept ranging SET_DELAY and an unresolved attempt (R43, R81, R85 to R88). -/
def State.leaveQueue (s : State) (k : Nat) (new : RecState) : State :=
  let r := s.record k
  if (r.state = .announced ∨ r.state = .ranging) ∧ new ≠ .ranging then
    let s := s.modEnrol r.treeNo fun e =>
      { e with queue := e.queue.filter (· != k), attempt := if r.state = .ranging then none else e.attempt }
    if r.state = .ranging then s.dropKept (Kept.isRanged k) else s
  else s

/-- Leaving SUSPENDED abandons a kept DEPART of the suspension (R103). -/
def State.leaveSuspended (s : State) (k : Nat) : State :=
  if (s.record k).state = .suspended then s.dropKept (Kept.isSuspendDepart k) else s

/-- The tracker's reset for a record makes the reports of its earlier state changes, still in flight to it, moot: they are
taken with it (R90; log entry 34). -/
def State.changesKnown (s : State) (test : Nat → Bool) : State :=
  s.modMail fun m => { m with changes := m.changes.filter fun r => !test r.tag }

/-- The reports of the tree engines for a tag that are still on their way are discarded: as its record becomes VACANT, and
again, with those that the slots still awaited gave meanwhile, as the tag is taken for a new record, so that none is written
to a record it was not sent for (R36, R45; log entry 15). -/
def Mail.release (m : Mail) (k : Nat) : Mail :=
  { m with
    valids := m.valids.filter (·.tag != k)
    misses := m.misses.filter (·.tag != k)
    samples := m.samples.filter (·.tag != k)
    ups := m.ups.filter (·.tag != k)
    downs := m.downs.filter (·.tag != k)
    dispatches := m.dispatches.filter (·.tag != k)
    cleans := m.cleans.filter (·.tag != k) }

/-- What the other blocks do as record `k` of tree `t` enters a state: ACTIVE takes its load and begins with an empty
sample set (R43, R90), ANNOUNCED joins the ranging queue (R81), RETIRED and VACANT abandon kept offers and delays of the
tag (R43), VACANT takes the reset values of the tracker and the tally sets and discards the tree engines' reports for the
tag (R36, R45, R90, R170). -/
def State.enterState (s : State) (t : Tree) (k : Nat) (new : RecState) : State :=
  match new with
  | .active => (s.modLoad t (·.add (s.loadOf k))).modTracker k fun x => { x with samples := [] }
  | .announced => s.modEnrol t fun e => { e with queue := e.queue ++ [k] }
  | .retired => s.dropKept fun x => x.entry.dir.isOffer k || x.entry.dir.isSetDelay k
  | .vacant =>
    ((((s.dropKept fun x => x.entry.dir.isOffer k || x.entry.dir.isSetDelay k).modTracker k fun _ => .reset).changesKnown
      (· == k)).modTally k fun _ => .reset).modMail (·.release k)
  | .expected | .ranging | .parked | .suspended | .rogue => s

/-- A sample of tag `k` meets the report that its record left ACTIVE (R99). -/
def SampleReport.meet (r : SampleReport) (k : Nat) : SampleReport := if r.tag = k then { r with met := true } else r

/-- A state change is reported to the delay tracker, where one from ACTIVE meets the samples on their way, and to the link
unit, with its tag, states and cause (R42, R90, R99). -/
def State.reportChange (s : State) (k : Nat) (before after : RecState) (byRequest : Bool) : State :=
  s.modMail fun m =>
    { m with
      changes := m.changes ++ [⟨k, before, after⟩]
      attention := m.attention ++ [.change k before after byRequest]
      samples := if before = .active then m.samples.map (·.meet k) else m.samples }

/-- A state change of record `k`, whole, with the effects of R43. A write that leaves the state as it was changes
nothing. -/
def State.changeState (s : State) (k : Nat) (new : RecState) (byRequest : Bool) : State :=
  let before := (s.record k).state
  if before = new then s
  else
    let t := (s.record k).treeNo
    let s := ((s.leaveActive k new).leaveQueue k new).leaveSuspended k
    ((s.modRecord k (·.enter new)).enterState t k new).reportChange k before new byRequest

/-! ## Lanes and kept directives (R14, R16) -/

def Directive.urgent : Directive → Bool
  | .laserHold .. | .laserRelease .. | .laserShut .. => true
  | .enrolOffer .. | .setDelay .. | .shutLift .. | .depart .. => false

def Origin.producer : Origin → Producer
  | .offer | .ranged => .enrolment
  | .corrected => .tracker
  | .departRetire | .departSuspend | .restore _ => .roster
  | .strikeShut => .lightWatch
  | .huntRound | .huntOver | .huntShut .. | .huntRelease => .hunt

def urgentCapacity : Nat := 8
def normalCapacity : Nat := 32

def Engine.laneFull (e : Engine) (d : Directive) : Bool :=
  if d.urgent then decide (urgentCapacity ≤ e.urgent.length) else decide (normalCapacity ≤ e.normal.length)

def Engine.push (e : Engine) (x : LaneEntry) : Engine :=
  if x.dir.urgent then { e with urgent := e.urgent ++ [x] } else { e with normal := e.normal ++ [x] }

inductive LaneAnswer where
  | accepted
  | full
  | notAccepted
deriving DecidableEq, Repr

/-- A lane's answer to an offer. A producer that still keeps directives for the tree offers a new one after them
(R16; log entry 12). -/
def State.laneAnswer (s : State) (t : Tree) (x : LaneEntry) : LaneAnswer :=
  if (s.engine t).state = .disabled then .notAccepted
  else if (s.engine t).laneFull x.dir ||
      s.kept.any (fun y => y.tree == t && y.entry.origin.producer == x.origin.producer) then .full
  else .accepted

/-- The round directives with one directive's progress set (R155). -/
def Hunt.setRound (h : Hunt) (d : Directive) (status : RoundStatus) : Hunt :=
  { h with roundDirs := h.roundDirs.map fun x => if x.dir = d then { x with status := status } else x }

/-- A producer still has to offer a kept directive for a tree again after the last boundary (R16). -/
def State.retryDue (s : State) (t : Tree) (p : Producer) : Bool :=
  s.kept.any fun y => y.tree == t && y.entry.origin.producer == p && y.due

/-- A refused directive is kept by its producer (R16). One made while older ones of the producer are still to be offered
again is offered after them, in the same retry (log entry 11). -/
def State.keep (s : State) (t : Tree) (x : LaneEntry) : State :=
  let s := { s with kept := s.kept ++ [⟨t, x, s.retryDue t x.origin.producer⟩] }
  if x.origin = .huntRound then s.modHunt t (·.setRound x.dir .kept) else s

/-- A DEPART offered to the normal lane of a tree. Its acceptance writes no record field (R62). -/
def State.offerDepart (s : State) (t : Tree) (k : Nat) (origin : Origin) : State :=
  match s.laneAnswer t ⟨.depart k, origin⟩ with
  | .accepted => s.modEngine t (·.push ⟨.depart k, origin⟩)
  | .full => s.keep t ⟨.depart k, origin⟩
  | .notAccepted => s

/-- A suspension that sends the home a DEPART (R103); taken only while the record is in the state the cause names
(R44). -/
def State.suspendFrom (s : State) (k : Nat) (from' : RecState) : State :=
  if (s.record k).state = from' then
    let t := (s.record k).treeNo
    (s.changeState k .suspended false).offerDepart t k .departSuspend
  else s

/-! ## The observation log (R140, R141) -/

/-- Two observations match when they agree in kind, tree and tag. -/
def Observation.agrees (a b : Observation) : Bool := a.kind == b.kind && a.tree == b.tree && a.tag == b.tag

/-- A pending record after an observation has collapsed into it (R141). -/
def Observation.collapse (held new : Observation) : Observation :=
  { held with
    repeats := min 65535 (held.repeats + 1)
    lastFrame :=
      if 1 ≤ frameDist new.firstFrame held.lastFrame ∧ frameDist new.firstFrame held.lastFrame ≤ 64 then held.lastFrame
      else new.firstFrame
    serial := if new.serial.isSome then new.serial else held.serial
    cause := if new.cause.isSome then new.cause else held.cause }

/-- An observation of a frame. -/
def Observation.of (kind : ObsKind) (tree : Tree) (tag : Option Nat) (serial : Option Serial) (cause : Option ObsCause)
    (frame : FrameNo) : Observation := ⟨kind, tree, tag, serial, cause, frame, frame, 0⟩

/-- An observation entered in the log: it collapses, takes the lowest free record, or is lost (R140). -/
def State.observe (s : State) (o : Observation) : State :=
  match s.log.toList.findIdx? (fun x => (x.map (·.agrees o)).getD false) with
  | some i => { s with log := updateAt s.log (i + 1) (fun x => x.map (·.collapse o)) }
  | none =>
    match s.log.toList.findIdx? (·.isNone) with
    | some i => { s with log := updateAt s.log (i + 1) (fun _ => some o) }.raise .observation
    | none => if s.overflow then s else { s with overflow := true }.raise .observation

/-! ## What a producer writes on acceptance (R14) -/

/-- The ROGUE write of an accepted LASER_SHUT: discarded for a VACANT or RETIRED record; otherwise the record becomes
ROGUE and a SHUT_LIFT waiting for it leaves the normal lane (R46, R63). R46 tests the state alone, and so does the model: the
write is also taken by a record that has the tag meanwhile, on this tree or another (DESIGN CHOICE, log entry 42). -/
def State.writeRogue (s : State) (t : Tree) (k : Nat) : State :=
  if (s.record k).state = .vacant ∨ (s.record k).state = .retired then s
  else
    (s.changeState k .rogue false).modEngine t fun e =>
      { e with normal := e.normal.filter fun x => !x.dir.isShutLift k }

/-- The settle mark at the acceptance of an ENROL_OFFER or SET_DELAY (R91). -/
def Tracker.accept (x : Tracker) (cause : SettleCause) : Tracker :=
  { x with unplaced := min 32 (x.unplaced + 1), mark := .pending, cause := cause }

/-- The settle mark at a placement (R91). A placement that finds no directive unplaced, which happens only after the
tracker was reset for a VACANT record, changes nothing (log entry 10). -/
def Tracker.place (x : Tracker) (frame : FrameNo) : Tracker :=
  if x.unplaced = 0 then x
  else { x with unplaced := x.unplaced - 1, mark := if x.unplaced = 1 then .carried frame else .pending }

/-- Admission of a RANGING record with its fine delay (R56). -/
def State.admission (s : State) (t : Tree) (k delay : Nat) : State :=
  if (s.record k).state = .ranging ∧ (s.record k).tree = some t then
    let s := s.modRecord k fun r => { r with delay := delay }
    s.changeState k (if s.fits t (s.loadOf k) then .active else .parked) false
  else s

/-- The held flags of the records of a tree whose tags lie in a range (R51, R155). -/
def State.setHeld (s : State) (t : Tree) (first last : Nat) (held : Bool) : State :=
  s.modRecords fun k r =>
    if r.state ≠ .vacant ∧ r.tree = some t ∧ first ≤ k ∧ k ≤ last then { r with held := held } else r

/-- The hold range after a round directive is accepted (R155). -/
def holdAfter (hold : Option (Nat × Nat)) : Directive → Option (Nat × Nat)
  | .laserHold a b => some (a, b)
  | .laserRelease a _ =>
    match hold with
    | some (x, _) => if a ≤ x then none else some (x, a - 1)
    | none => none
  | _ => hold

/-- A RESTORE whose SHUT_LIFT is accepted: the record becomes SUSPENDED with strikes and clean run 0, and DEPART follows
it (R63, R103). -/
def State.restoreAccepted (s : State) (t : Tree) (k : Nat) : State :=
  if (s.record k).state = .rogue then
    ((s.changeState k .suspended true).modRecord k fun r => { r with strikes := 0, cleanRun := 0 }).offerDepart t k
      .departSuspend
  else s

/-- The request of a link is answered: the response enters its slot and the link becomes READY (R192, R194). -/
def Link.answered (l : Link) (status : Status) (data : ResponseData) : Link :=
  match l.request with
  | some r => { l with state := .ready, request := none, response := some ⟨r.code, r.seq, l.discarded, status, data⟩ }
  | none => l

def State.answer (s : State) (l : LinkId) (status : Status) (data : ResponseData) : State :=
  s.modLink l (·.answered status data)

/-- What the producer of an accepted directive writes (R14): e for an offer (R76), admission for a ranging SET_DELAY
(R85), e′ for a correction (R97), SUSPENDED for a RESTORE (R63), ROGUE and its observation for a shut (R138, R159), held
flags and hold range for a hunt's hold or release (R155, R159, R161). -/
def State.onAccept (s : State) (t : Tree) (x : LaneEntry) : State :=
  match x.origin, x.dir with
  | .offer, .enrolOffer serial k delay =>
    let s := s.modTracker k (·.accept .offer)
    if (s.record k).state = .announced ∧ (s.record k).tree = some t ∧ (s.record k).serial = some serial then
      s.modRecord k fun r => { r with delay := delay }
    else s
  | .ranged, .setDelay k delay => (s.modTracker k (·.accept .ranged)).admission t k delay
  | .corrected, .setDelay k delay =>
    let s := s.modTracker k (·.accept .corrected)
    if (s.record k).state = .active ∧ (s.record k).tree = some t then s.modRecord k fun r => { r with delay := delay }
    else s
  | .restore l, .shutLift k => (s.restoreAccepted t k).answer l .ok .none
  | .strikeShut, .laserShut k =>
    let r := s.record k
    if r.state = .vacant ∨ r.state = .retired then s
    else (s.writeRogue t k).observe (.of .huntIsolated t (some k) r.serial (some .tail) s.frame)
  | .huntShut serial test, .laserShut k =>
    (s.writeRogue t k).observe (.of .huntIsolated t (some k) serial (some .hunt) test)
  | .huntRound, .laserHold a b =>
    (s.setHeld t a b true).modHunt t fun h =>
      { h.setRound (.laserHold a b) .waiting with hold := holdAfter h.hold (.laserHold a b) }
  | .huntRound, .laserRelease a b =>
    (s.setHeld t a b false).modHunt t fun h =>
      { h.setRound (.laserRelease a b) .waiting with hold := holdAfter h.hold (.laserRelease a b) }
  | .huntRelease, .laserRelease a b => (s.setHeld t a b false).modHunt t fun h => { h with hold := none }
  | _, _ => s

/-- A directive that its lane has accepted: it joins the tail and its producer writes, in one step (R14). The admission by a
ranging SET_DELAY is part of that step, so that no change of the record is taken between the two, an order that R88 and R65
also name (DEDUCED, log entry 43). -/
def State.acceptEntry (s : State) (t : Tree) (x : LaneEntry) : State :=
  (s.modEngine t (·.push x)).onAccept t x

/-- A directive offered to the lane of its kind (R14, R16). -/
def State.offer (s : State) (t : Tree) (x : LaneEntry) : State :=
  match s.laneAnswer t x with
  | .accepted => s.acceptEntry t x
  | .full => s.keep t x
  | .notAccepted => s

/-! ## Hunts started and ended (R149, R161) -/

/-- The stray history of a tree is emptied (R136). -/
def State.emptyHistory (s : State) (t : Tree) : State := s.modLight t fun w => { w with closed := [], current := none }

/-- A ranging in progress is abandoned: its record goes back to ANNOUNCED at the tail (R87). -/
def State.abandonRanging (s : State) (t : Tree) : State :=
  match (s.enrol t).queue with
  | k :: _ =>
    if (s.record k).state = .ranging ∧ (s.record k).tree = some t then s.changeState k .announced false else s
  | [] => s

/-- Whether an ending directive of the tree's hunt is kept (R148, R161). -/
def Kept.isEnding (t : Tree) (x : Kept) : Bool :=
  x.tree == t &&
    match x.entry.origin with
    | .huntShut .. | .huntRelease => true
    | _ => false

/-- Whether a start request is taken (R148). -/
def State.huntCanStart (s : State) (t : Tree) : Bool :=
  (s.engine t).state == .running && (s.hunt t).state == .idle && !(s.hunt t).cutPending &&
    !s.kept.any (Kept.isEnding t)

/-- A hunt starts (R149). -/
def State.startHunt (s : State) (t : Tree) : State :=
  ((s.modHunt t fun h =>
    { h with
      state := .confirming
      suspects := some (1, 256)
      hold := none
      verified := none
      round := 0
      count := 0
      tests := []
      requested := 0
      firstLit := false
      pendingTest := .atOnce
      roundDirs := [] }).emptyHistory t).abandonRanging t

/-- The one step of a hunt's ending, but for its directives and its observation (R161). R161 abandons the round directives
not yet accepted and leaves open whether the round directives' item goes on showing those accepted or placed: the model
empties the item, for no round is current any more (DESIGN CHOICE, log entry 40). -/
def State.endHunt (s : State) (t : Tree) (outcome : HuntOutcome) : State :=
  let s := s.modHunt t fun h =>
    { h with
      state := .idle
      suspects := none
      verified := none
      tests := []
      pendingTest := .absent
      roundDirs := []
      outcome := some (outcome, s.frame) }
  let s := s.dropKept fun x => x.tree == t && x.entry.origin == .huntRound
  let s := s.modEngine t fun e =>
    { e with urgent := e.urgent.map fun x => if x.origin = .huntRound then { x with origin := .huntOver } else x }
  (s.emptyHistory t).raise .tree

/-- The release that undoes every hold of a tree (R159, R161). -/
def State.offerRelease (s : State) (t : Tree) : State := s.offer t ⟨.laserRelease 1 256, .huntRelease⟩

/-! ## Outcomes -/

/-- A step of the part out of reset. While power-on reset or RESET_N holds the part no event is taken (R206). -/
def live (s : State) (next : State) : Host.Outcome State Fault Refusal :=
  .next (if s.powerHeld || s.resetHeld then s else next)

end Sys2Proof.Machine
end

