-- ==== Sys2Proof/Machine/Flags.lean ====
section
/-! DEFINITION. The flags of the part and how they are computed: the attention flags of the links with their counts and
ATTN lines (R195, R197), the over flag (R176), the saturating tallies with their markers (R171), strikes and clean run
(R137, R139). -/

namespace Sys2Proof.Machine

/-! ## Attention (spec/10 10.5) -/

/-- A latching event on one flag: it latches and its count rises, stopping at 255 (R195). -/
def Flag.latch (f : Flag) : Flag := { f with latched := true, count := min 255 (f.count + 1) }

/-- A flag cleared with its count, its mask kept (R198). -/
def Flag.clear (f : Flag) : Flag := { f with latched := false, count := 0 }

/-- A flag shown or hidden (R199). -/
def Flag.setShown (f : Flag) (shown : Bool) : Flag := { f with shown := shown }

def Flags.latch (f : Flags) : FlagKind → Flags
  | .observation => { f with observation := f.observation.latch }
  | .roster => { f with roster := f.roster.latch }
  | .tree => { f with tree := f.tree.latch }
  | .stranger => { f with stranger := f.stranger.latch }
  | .allowance => { f with allowance := f.allowance.latch }

def Flags.get (f : Flags) : FlagKind → Flag
  | .observation => f.observation
  | .roster => f.roster
  | .tree => f.tree
  | .stranger => f.stranger
  | .allowance => f.allowance

def Flags.toList (f : Flags) : List Flag := [f.observation, f.roster, f.tree, f.stranger, f.allowance]

def Flags.clear (f : Flags) : Flags :=
  ⟨f.observation.clear, f.roster.clear, f.tree.clear, f.stranger.clear, f.allowance.clear⟩

/-- A mask octet: 1 shown, 0 hidden, any other value none (R205). -/
def maskBit : Nat → Option Bool
  | 0 => some false
  | 1 => some true
  | _ => none

/-- The flags with all five mask settings written together; none where a setting is neither shown nor hidden (R199). -/
def Flags.setMask (f : Flags) (mask : MaskValues) : Option Flags :=
  match maskBit mask.observation, maskBit mask.roster, maskBit mask.tree, maskBit mask.stranger,
      maskBit mask.allowance with
  | some o, some r, some t, some s, some a =>
    some ⟨f.observation.setShown o, f.roster.setShown r, f.tree.setShown t, f.stranger.setShown s,
      f.allowance.setShown a⟩
  | _, _, _, _, _ => none

/-- An active link is CONTROL or TALLY (R186). -/
def Link.active (l : Link) : Bool := l.role != .off

/-- ATTN asserted: an active link with a flag both latched and shown (R197). -/
def Link.attn (l : Link) : Bool := l.active && l.flags.toList.any fun f => f.latched && f.shown

/-- A latching event on one link; an OFF link latches nothing (R195). -/
def Link.latch (l : Link) (kind : FlagKind) : Link :=
  if l.active then { l with flags := l.flags.latch kind } else l

/-- A latching event on every active link, in one step (R195). -/
def State.latchAll (s : State) (kind : FlagKind) : State :=
  { s with links := s.links.map (·.latch kind) }

/-- The flag that a report to the link unit latches. A state change latches ROSTER unless a link request caused it, and the
step from RETIRED to VACANT latches it although a request caused it (R42). -/
def LinkReport.latches : LinkReport → Option FlagKind
  | .event kind => some kind
  | .change _ before after byRequest =>
    if byRequest && !(before == .retired && after == .vacant) then none else some .roster

/-- A report taken by the link unit (R42, R195). -/
def State.takeReport (s : State) (r : LinkReport) : State :=
  match r.latches with
  | none => s
  | some kind => s.latchAll kind

/-! ## Tallies and markers (R171) -/

def tallyMax : Nat := 281474976710655

/-- A tally after a saturating addition, and whether the addition sets the saturated marker: where it would carry the tally
past the maximum, or finds it there (R171). -/
def addTally (tally amount : Nat) : Nat × Bool :=
  if tally < tallyMax ∧ tally + amount ≤ tallyMax then (tally + amount, false) else (tallyMax, true)

def TallySet.addUp (x : TallySet) (amount : Nat) : TallySet :=
  { x with up := (addTally x.up amount).1, saturated := x.saturated || (addTally x.up amount).2 }
def TallySet.addDown (x : TallySet) (amount : Nat) : TallySet :=
  { x with down := (addTally x.down amount).1, saturated := x.saturated || (addTally x.down amount).2 }
def TallySet.addGranted (x : TallySet) (amount : Nat) : TallySet :=
  { x with granted := (addTally x.granted amount).1, saturated := x.saturated || (addTally x.granted amount).2 }
def TallySet.addWithheld (x : TallySet) (amount : Nat) : TallySet :=
  { x with withheld := (addTally x.withheld amount).1, saturated := x.saturated || (addTally x.withheld amount).2 }
def TallySet.addOver (x : TallySet) (amount : Nat) : TallySet :=
  { x with overFrames := (addTally x.overFrames amount).1, saturated := x.saturated || (addTally x.overFrames amount).2 }

/-- A set is zero when all five of its tallies are; the markers do not count (9.1). -/
def TallySet.isZero (x : TallySet) : Bool :=
  x.up == 0 && x.down == 0 && x.granted == 0 && x.withheld == 0 && x.overFrames == 0

def State.modLive (s : State) (k : Nat) (f : TallySet → TallySet) : State :=
  s.modTally k fun x => { x with live := f x.live }

/-- The condition of R45: live tallies all zero and nothing uncollected. -/
def State.settled (s : State) (k : Nat) : Bool := (s.tally k).live.isZero && (s.tally k).closed.collected

/-! ## The over flag (R176) -/

/-- The octets at which an allowance of `q` MiB is reached. -/
def threshold (q : Nat) : Nat := q * 1048576

def State.overNow (s : State) (k : Nat) : Bool :=
  let q := (s.profile (s.record k).profile).q
  q != 0 && decide (threshold q ≤ (s.tally k).live.up)

/-- One evaluation of the over flag: the result is written to the record, and a rise latches ALLOWANCE (R176). -/
def State.evalOver (s : State) (k : Nat) : State :=
  let result := s.overNow k
  let written := s.modRecord k fun r => { r with isOver := result }
  if result && !(s.record k).isOver then written.raise .allowance else written

/-! ## Strikes and clean run (R137, R139) -/

/-- A strike taken: strikes rise, stopping at 15, and the clean run becomes 0 (R137). -/
def DropRecord.strike (r : DropRecord) : DropRecord := { r with strikes := min 15 (r.strikes + 1), cleanRun := 0 }

/-- A valid burst counted: the clean run rises, stopping at 1,024, where the strikes become 0. A run that already stands
at 1,024 clears no strike again (R139). -/
def DropRecord.clean (r : DropRecord) : DropRecord :=
  if 1024 ≤ r.cleanRun then { r with cleanRun := 1024 }
  else { r with cleanRun := r.cleanRun + 1, strikes := if r.cleanRun + 1 = 1024 then 0 else r.strikes }

end Sys2Proof.Machine
end

