-- ==== Sys2Proof/Machine/Formats.lean ====
section
/-! DEFINITION. The layouts of spec/11: the header check, the downstream frame header, the burst header and the ANNOUNCE
payload, and the octets of a response. -/

namespace Sys2Proof.Machine

/-! ## The header check (R202) -/

/-- The generator polynomial of R202 without its leading term. -/
def checkPolynomial : BitVec 32 := 0x1EDC6F41#32

/-- One bit of the remainder, most significant bit of each octet first. -/
def checkBit (r : BitVec 32) (bit : Bool) : BitVec 32 :=
  if r.msb != bit then (r <<< 1) ^^^ checkPolynomial else r <<< 1

def checkOctet (r : BitVec 32) (o : Byte) : BitVec 32 :=
  [7, 6, 5, 4, 3, 2, 1, 0].foldl (fun r i => checkBit r (o.getLsbD i)) r

/-- The 32-bit header check over octets: preset to all ones, the final remainder inverted (R202). -/
def headerCheck (octets : List Byte) : BitVec 32 := ~~~ (octets.foldl checkOctet (BitVec.allOnes 32))

def checkOctets (octets : List Byte) : List Byte := natOctets 4 (headerCheck octets).toNat

/-! ## The burst header and the ANNOUNCE payload (R24, R25, R204) -/

/-- A burst header as the tree engine judges it (R24). -/
inductive Judged where
  | bad
  | good (tag : Nat) (announce : Bool) (user : Nat) (backlog : Nat)
deriving DecidableEq, Repr

/-- The header good when its check agrees, its tag lies in 0 to 256, and the tag is 0 exactly for an ANNOUNCE (R24,
R204). -/
def judgeHeader (octets : List Byte) : Judged :=
  match octets with
  | [t1, t0, kind, u1, u0, b2, b1, b0, c3, c2, c1, c0] =>
    let tag := octetsNat [t1, t0]
    let announce := kind.getLsbD 0
    if [c3, c2, c1, c0] = checkOctets [t1, t0, kind, u1, u0, b2, b1, b0] ∧ tag ≤ 256 ∧
        ((tag == 0) = announce) then
      .good tag announce (octetsNat [u1, u0]) (octetsNat [b2, b1, b0])
    else .bad
  | _ => .bad

/-- The serial of an ANNOUNCE payload: octets 0 to 7 (R204). -/
def announceSerial (payload : List Byte) : Serial := BitVec.ofNat 64 (octetsNat (payload.take 8))

/-- The stagger of an ANNOUNCE payload: the low 11 bits of octets 8 and 9 (R204). -/
def announceStagger (payload : List Byte) : Nat := octetsNat ((payload.drop 8).take 2) % 2048

/-- The packets of the user octets, each behind its 2-octet length; the walk stops at the end, at a length of 0, and at
a length over 9,600 or past the end (R38). The first argument bounds the number of packets. -/
def walkPackets : Nat → List Byte → List (List Byte)
  | 0, _ => []
  | fuel + 1, octets =>
    match octets with
    | l1 :: l0 :: rest =>
      let length := octetsNat [l1, l0]
      if length = 0 ∨ 9600 < length ∨ rest.length < length then []
      else rest.take length :: walkPackets fuel (rest.drop length)
    | _ => []

/-! ## The downstream frame (R20, R203) -/

def windowOctets : Window → List Byte
  | .dark width => natOctets 1 3 ++ natOctets 2 0 ++ natOctets 2 0 ++ natOctets 2 width ++ natOctets 1 0
  | .range tag expected width =>
    natOctets 1 2 ++ natOctets 2 tag ++ natOctets 2 expected ++ natOctets 2 width ++ natOctets 1 0
  | .discover => natOctets 1 4 ++ natOctets 7 0

def burstOctets (b : Burst) : List Byte :=
  natOctets 1 1 ++ natOctets 2 b.tag ++ natOctets 2 b.preamble ++ natOctets 2 b.payload ++ natOctets 1 0

/-- The 14 octets of a place: directive code, copy number, fields (R203). -/
def placeOctets : Option (Directive × Nat) → List Byte
  | none => natOctets 14 0
  | some (.enrolOffer serial tag delay, copy) =>
    natOctets 1 1 ++ natOctets 1 copy ++ natOctets 8 serial.toNat ++ natOctets 2 tag ++ natOctets 2 delay
  | some (.setDelay tag delay, copy) =>
    natOctets 1 2 ++ natOctets 1 copy ++ natOctets 2 tag ++ natOctets 2 delay ++ natOctets 8 0
  | some (.laserHold first last, copy) =>
    natOctets 1 3 ++ natOctets 1 copy ++ natOctets 2 first ++ natOctets 2 last ++ natOctets 8 0
  | some (.laserRelease first last, copy) =>
    natOctets 1 4 ++ natOctets 1 copy ++ natOctets 2 first ++ natOctets 2 last ++ natOctets 8 0
  | some (.laserShut tag, copy) => natOctets 1 5 ++ natOctets 1 copy ++ natOctets 2 tag ++ natOctets 10 0
  | some (.shutLift tag, copy) => natOctets 1 6 ++ natOctets 1 copy ++ natOctets 2 tag ++ natOctets 10 0
  | some (.depart tag, copy) => natOctets 1 7 ++ natOctets 1 copy ++ natOctets 2 tag ++ natOctets 10 0

/-- Octets 0 to 63 + 8c of the header of a downstream frame (R203). -/
def DownFrame.headerBody (d : DownFrame) : List Byte :=
  natOctets 3 d.frame.toNat ++ natOctets 1 d.g ++ natOctets 1 d.p ++ natOctets 2 d.z ++
    natOctets 1 (d.entries.length + d.window.toList.length) ++ d.window.toList.flatMap windowOctets ++
    d.entries.flatMap burstOctets ++ d.places.flatMap placeOctets

/-- The header of a downstream frame, its check last (R203). -/
def DownFrame.header (d : DownFrame) : List Byte := d.headerBody ++ checkOctets d.headerBody

/-- A packet behind its 4-octet heading (R40, R203). -/
def packetOctets (x : Packet) : List Byte := natOctets 2 x.tag ++ natOctets 2 x.octets.length ++ x.octets

/-- The octets of the payload space of a downstream frame (R40). -/
def frameCapacity : Nat := 156000

/-- The octets of a downstream frame's packets, each behind its heading (R40). -/
def DownFrame.filled (d : DownFrame) : List Byte := d.packets.flatMap packetOctets

/-- The payload space of a downstream frame: its packets, then zero octets to the end of the 156,000 (R40, R203). -/
def DownFrame.payload (d : DownFrame) : List Byte :=
  d.filled ++ List.replicate (frameCapacity - d.filled.length) 0#8

/-- A downstream frame as it is sent: the header, then the payload space (R203). -/
def DownFrame.octets (d : DownFrame) : List Byte := d.header ++ d.payload

/-! ## The uplink (R38, R204) -/

/-- A packet on the Ethernet uplink: the tag as a 4-octet number, then the packet's octets (R38, R204). -/
def uplinkOctets (tag : Nat) (octets : List Byte) : List Byte := natOctets 4 tag ++ octets

/-! ## Response data (R202, R205; log entry 16) -/

def flagOctet (b : Bool) : List Byte := [if b then 1#8 else 0#8]

/-- An optional item: a presence octet, then the item (R202). -/
def optOctets {α : Type} (item : α → List Byte) : Option α → List Byte
  | none => [0#8]
  | some x => 1#8 :: item x

/-- A list: a 2-octet count, then its entries (R202). -/
def listOctets {α : Type} (entry : α → List Byte) (l : List α) : List Byte :=
  natOctets 2 l.length ++ l.flatMap entry

def frameOctets (f : FrameNo) : List Byte := natOctets 3 f.toNat
def tagOctets (k : Nat) : List Byte := natOctets 2 k
def serialOctets (x : Serial) : List Byte := natOctets 8 x.toNat
def treeOctets (t : Tree) : List Byte := natOctets 4 t.val
/-- A signed value in 4 octets of two's complement (R202). -/
def signedOctets (x : Int) : List Byte := natOctets 4 (BitVec.ofInt 32 x).toNat

def TreeState.code : TreeState → Nat
  | .disabled => 0
  | .running => 1
  | .cut => 2

def RecState.code : RecState → Nat
  | .vacant => 0
  | .expected => 1
  | .announced => 2
  | .ranging => 3
  | .active => 4
  | .parked => 5
  | .suspended => 6
  | .rogue => 7
  | .retired => 8

def EnrolMode.code : EnrolMode → Nat
  | .closed => 0
  | .opened => 1
  | .auto => 2

/-- Plan kinds in the order of the plan's field table of 6.1; the kind table of 6.2 lists DARK TEST before DISCOVERY, and
R202 does not say which of the two tables counts (DESIGN CHOICE, log entry 16). -/
def PlanKind.code : PlanKind → Nat
  | .empty => 0
  | .discovery => 1
  | .darkTest => 2
  | .ranging => 3
  | .ordinary => 4

def StrangerReason.code : StrangerReason → Nat
  | .outOfZone => 0
  | .unknown => 1
  | .treeFull => 2
  | .poolFull => 3

def SettleCause.code : SettleCause → Nat
  | .offer => 0
  | .ranged => 1
  | .corrected => 2

def ObsKind.code : ObsKind → Nat
  | .stray => 0
  | .longTail => 1
  | .wrongSlot => 2
  | .duplicateSerial => 3
  | .huntCleared => 4
  | .huntIsolated => 5
  | .huntUnresolved => 6
  | .externalCut => 7

def ObsCause.code : ObsCause → Nat
  | .tail => 0
  | .hunt => 1

def HuntState.code : HuntState → Nat
  | .idle => 0
  | .confirming => 1
  | .splitting => 2
  | .verifying => 3

def HuntOutcome.code : HuntOutcome → Nat
  | .cleared => 1
  | .isolated => 2
  | .unresolved => 3
  | .aborted => 4
  | .external => 5
  | .disabled => 6

/-- Roles in the order of the strap table of 10.1. -/
def Role.code : Role → Nat
  | .off => 0
  | .control => 1
  | .tally => 2

def LinkState.code : LinkState → Nat
  | .idle => 0
  | .busy => 1
  | .ready => 2

/-- Status codes 0 to 14 (R205). -/
def Status.code : Status → Nat
  | .ok => 0
  | .okAdjusted => 1
  | .badRequest => 2
  | .denied => 3
  | .noRecord => 4
  | .state => 5
  | .duplicate => 6
  | .poolFull => 7
  | .treeFull => 8
  | .overBudget => 9
  | .treeRunning => 10
  | .uncollected => 11
  | .noData => 12
  | .lightPresent => 13
  | .cutActive => 14

def OfferState.octets : OfferState → List Byte
  | .none => natOctets 1 0
  | .waiting => natOctets 1 1
  | .sent f => natOctets 1 2 ++ frameOctets f
  | .delivered => natOctets 1 3

def SettleMark.octets : SettleMark → List Byte
  | .none => natOctets 1 0
  | .pending => natOctets 1 1
  | .carried f => natOctets 1 2 ++ frameOctets f
  | .settled => natOctets 1 3

def Departure.octets : Departure → List Byte
  | .none => natOctets 1 0
  | .pending => natOctets 1 1
  | .carried f => natOctets 1 2 ++ frameOctets f

def PendingTest.octets : PendingTest → List Byte
  | .absent => natOctets 1 0
  | .atOnce => natOctets 1 1
  | .frame f => natOctets 1 2 ++ frameOctets f

def RoundStatus.octets : RoundStatus → List Byte
  | .waiting => natOctets 1 0
  | .kept => natOctets 1 1
  | .placed f => natOctets 1 2 ++ frameOctets f

def Directive.octets : Directive → List Byte
  | .enrolOffer serial k e => natOctets 1 0 ++ serialOctets serial ++ tagOctets k ++ natOctets 2 e
  | .setDelay k e => natOctets 1 1 ++ tagOctets k ++ natOctets 2 e
  | .laserHold a b => natOctets 1 2 ++ tagOctets a ++ tagOctets b
  | .laserRelease a b => natOctets 1 3 ++ tagOctets a ++ tagOctets b
  | .laserShut k => natOctets 1 4 ++ tagOctets k
  | .shutLift k => natOctets 1 5 ++ tagOctets k
  | .depart k => natOctets 1 6 ++ tagOctets k

def Window.octets : Window → List Byte
  | .dark w => natOctets 1 0 ++ natOctets 2 w
  | .range k e w => natOctets 1 1 ++ tagOctets k ++ natOctets 2 e ++ natOctets 2 w
  | .discover => natOctets 1 2

def TreeParams.octets (p : TreeParams) : List Byte :=
  natOctets 4 p.tTarget ++ natOctets 2 p.z ++ natOctets 2 p.g ++ natOctets 2 p.p ++ natOctets 2 p.k ++ natOctets 4 p.d ++
    natOctets 2 p.wr ++ natOctets 2 p.wd ++ natOctets 4 p.driftTol ++ natOctets 4 p.driftLim ++ natOctets 2 p.tailTol ++
    natOctets 4 p.strikeLim ++ flagOctet p.autoHunt ++
    natOctets 1 (match p.cutPol with | .highWhenCut => 0 | .lowWhenCut => 1)

def Profile.octets (p : Profile) : List Byte :=
  natOctets 2 p.f ++ natOctets 2 p.a ++ natOctets 2 p.m ++ natOctets 4 p.w ++ natOctets 2 p.mt ++ natOctets 4 p.q

def Summary.octets (x : Summary) : List Byte :=
  natOctets 2 x.u ++ natOctets 2 x.surplus ++ natOctets 4 x.residualTotal ++ optOctets (natOctets 4) x.wsum ++
    optOctets (natOctets 2) x.leftover ++ tagOctets x.pointerBefore ++ tagOctets x.pointerAfter ++ flagOctet x.fitted

def Plan.octets (x : Plan) : List Byte :=
  frameOctets x.frame ++ natOctets 1 x.kind.code ++ flagOctet x.cutMark ++ optOctets Window.octets x.window ++
    listOctets (fun b : Burst => tagOctets b.tag ++ natOctets 2 b.preamble ++ natOctets 2 b.payload ++ natOctets 2 b.base ++
      natOctets 2 b.extra) x.entries ++
    listOctets tagOctets x.withheld ++ listOctets tagOctets x.overList ++ optOctets Summary.octets x.summary

/-- READ_TREE's data (R9). Whether an enable or a disable is pending is two flags, the enable first (DESIGN CHOICE, log
entry 16). -/
def TreeView.octets (v : TreeView) : List Byte :=
  natOctets 1 v.state.code ++ flagOctet v.enablePending ++ flagOctet v.disablePending ++ v.params.octets ++
    natOctets 1 v.mode.code ++ frameOctets v.frame ++ natOctets 4 v.urgent ++ natOctets 4 v.normal ++
    v.places.flatMap (optOctets fun x => x.1.octets ++ frameOctets x.2) ++ natOctets 4 v.awaited ++
    natOctets 4 v.queued ++ flagOctet v.light ++ flagOctet v.cutIn

def DropRecord.octets (r : DropRecord) (dep : Departure) : List Byte :=
  natOctets 1 r.state.code ++ optOctets serialOctets r.serial ++ optOctets treeOctets r.tree ++ natOctets 4 r.profile ++
    natOctets 2 r.delay ++ flagOctet r.held ++ flagOctet r.isOver ++ natOctets 4 r.backlog ++ natOctets 4 r.outstanding ++
    natOctets 4 r.missRun ++ natOctets 4 r.strikes ++ natOctets 4 r.cleanRun ++ natOctets 4 r.rangeAttempts ++
    r.offer.octets ++ flagOctet r.provisioned ++ dep.octets

/-- READ_ENROLMENT's data (R89). A ranging in progress is one optional item: behind its presence octet the frame of an
unresolved attempt, itself optional, and then the mark of a kept SET_DELAY (DESIGN CHOICE, log entry 16). -/
def EnrolView.octets (v : EnrolView) : List Byte :=
  natOctets 1 v.mode.code ++ natOctets 4 v.dMax ++ natOctets 4 v.d ++ natOctets 4 v.count ++ natOctets 4 v.seqNo ++
    optOctets frameOctets v.lastDiscovery ++
    listOctets (fun q : QueueView => tagOctets q.tag ++ natOctets 1 q.state.code ++ natOctets 4 q.rangeAttempts ++
      q.offer.octets) v.queue ++
    optOctets (fun x => optOctets frameOctets x.1 ++ flagOctet x.2) v.inProgress ++ natOctets 4 v.strangers

def Stranger.octets (x : Stranger) : List Byte :=
  serialOctets x.serial ++ treeOctets x.tree ++ natOctets 1 x.reason.code ++ frameOctets x.firstSeen ++
    frameOctets x.lastSeen ++ natOctets 4 x.seenInDiscovery ++ natOctets 4 x.times ++ signedOctets x.lastDelta

/-- READ_TRACKING's data (R104). The kept correction is an optional item of its e′ alone, the tag being the request's (DESIGN
CHOICE, log entry 16). -/
def TrackingView.octets (v : TrackingView) : List Byte :=
  natOctets 1 v.state.code ++ natOctets 2 v.delay ++ natOctets 4 v.missRun ++ optOctets treeOctets v.tree ++
    natOctets 4 v.driftTol ++ natOctets 4 v.driftLim ++ listOctets signedOctets v.samples ++ v.mark.octets ++
    natOctets 1 v.cause.code ++ optOctets (natOctets 2) v.kept

def HistEntry.octets (x : HistEntry) : List Byte := frameOctets x.frame ++ flagOctet x.lit

def Attribution.octets : Attribution → List Byte
  | .tag k => natOctets 1 0 ++ tagOctets k
  | .window => natOctets 1 1
  | .gap => natOctets 1 2

def LightView.octets (v : LightView) : List Byte :=
  natOctets 2 v.tailTol ++ natOctets 4 v.strikeLim ++ flagOctet v.autoHunt ++ listOctets frameOctets v.table ++
    optOctets (fun r => frameOctets r.1 ++ natOctets 2 r.2.1 ++ r.2.2.octets) v.run ++
    listOctets HistEntry.octets v.closed ++ optOctets HistEntry.octets v.current ++ natOctets 4 v.lit ++
    listOctets tagOctets v.shuts

def Observation.octets (o : Observation) : List Byte :=
  natOctets 1 1 ++ natOctets 1 o.kind.code ++ treeOctets o.tree ++ optOctets tagOctets o.tag ++
    optOctets serialOctets o.serial ++ optOctets (fun c : ObsCause => natOctets 1 c.code) o.cause ++
    frameOctets o.firstFrame ++ frameOctets o.lastFrame ++ natOctets 4 o.repeats

def rangeOctets (r : Nat × Nat) : List Byte := tagOctets r.1 ++ tagOctets r.2

/-- READ_HUNT's data (R169). The verified suspect is one optional item, its tag and its serial; a record that is a suspect
has a serial, and 0 stands in for one that had none, which no run reaches (log entry 16). R169 names the round directives
and the kept ending directives within the table of 8.1 and again after it; each list is sent once, in its place in the
table (DESIGN CHOICE, log entry 16). -/
def HuntView.octets (v : HuntView) : List Byte :=
  natOctets 1 v.hunt.state.code ++ optOctets rangeOctets v.hunt.suspects ++ optOctets rangeOctets v.hunt.hold ++
    natOctets 4 v.hunt.round ++ natOctets 4 v.hunt.count ++
    optOctets (fun x => tagOctets x.1 ++ serialOctets (x.2.getD 0)) v.hunt.verified ++
    listOctets (fun x : DarkTest => frameOctets x.frame ++ flagOctet x.lit) v.hunt.tests ++ v.hunt.pendingTest.octets ++
    listOctets (fun x : RoundDir => x.dir.octets ++ x.status.octets) v.hunt.roundDirs ++
    listOctets (fun d => d.octets ++ RoundStatus.kept.octets) v.ending ++ flagOctet v.hunt.cutPending ++
    (match v.hunt.outcome with
      | none => natOctets 1 0
      | some (o, f) => natOctets 1 o.code ++ frameOctets f) ++
    flagOctet v.resumePending ++ flagOctet v.cutIn

def TallySet.octets (x : TallySet) : List Byte :=
  natOctets 6 x.up ++ natOctets 6 x.down ++ natOctets 6 x.granted ++ natOctets 6 x.withheld ++ natOctets 6 x.overFrames ++
    flagOctet x.saturated ++ flagOctet x.clamped

/-- COLLECT's data (R181). The tree and the serial of a record are optional items wherever a response returns a record's
fields, as the field table of 3.1 has them absent in VACANT (DESIGN CHOICE, log entry 16). -/
def CollectView.octets (v : CollectView) : List Byte :=
  v.set.octets ++ optOctets (natOctets 4) v.period ++ optOctets frameOctets v.closeFrame ++ tagOctets v.tag ++
    optOctets treeOctets v.tree ++ optOctets serialOctets v.serial ++ natOctets 1 v.state.code ++ natOctets 1 v.left.code

/-- The threshold of READ_LIVE in 4 octets, as R202 has every number it does not name. A threshold past the largest number
4 octets hold has octets that no rule states: they are a free value (R184, R202; log entry 33). -/
def thresholdOctets (n : Nat) : List Byte :=
  natOctets 4 (if n < 2 ^ 32 then n else (Config.octetsOfWideThreshold n).toNat)

def LiveView.octets (v : LiveView) : List Byte :=
  natOctets 1 v.state.code ++ optOctets treeOctets v.tree ++ natOctets 4 v.profile ++ natOctets 4 v.q ++
    optOctets thresholdOctets v.threshold ++ v.live.octets ++ natOctets 4 v.period ++ flagOctet v.isOver ++
    v.closed.set.octets ++ optOctets (natOctets 4) v.closed.period ++ optOctets frameOctets v.closed.closeFrame ++
    flagOctet v.closed.collected

def PeriodView.octets (v : PeriodView) : List Byte :=
  natOctets 4 v.period ++ optOctets frameOctets v.lastClose ++ natOctets 4 v.uncollected ++ optOctets tagOctets v.lowest ++
    natOctets 4 v.retired ++ flagOctet v.wouldTake

/-- One link in READ_LINKS' data (R200). The request served is one optional item: its code, its sequence number, and the
wait as two flags, for a boundary and for a lane; the level of the ATTN line is 1 where it is asserted, which drives the
pin low (DESIGN CHOICE, log entry 16). -/
def LinkView.octets (v : LinkView) : List Byte :=
  natOctets 1 v.role.code ++ natOctets 1 v.state.code ++
    optOctets (fun r => natOctets 4 r.1 ++ natOctets 4 r.2.1.toNat ++ flagOctet r.2.2.1 ++ flagOctet r.2.2.2) v.served ++
    v.shown.flatMap flagOctet ++ flagOctet v.attn

/-- The data octets of a response: the items the owning rule names, in its order (R205). The three links of READ_LINKS stand
without a list count, being three always, and an entry of READ_STRANGER stands before its position number (DESIGN CHOICE,
log entry 16). -/
def ResponseData.octets : ResponseData → List Byte
  | .none => []
  | .params p => p.octets
  | .tree v => v.octets
  | .plan pointer x => tagOctets pointer ++ optOctets Plan.octets x
  | .tag k => tagOctets k
  | .budget t l h k => treeOctets t ++ natOctets 2 l ++ natOctets 2 h ++ natOctets 2 k
  | .recState x => natOctets 1 x.code
  | .profile p => p.octets
  | .record r dep => r.octets dep
  | .found k t x => tagOctets k ++ treeOctets (t.getD 0) ++ natOctets 1 x.code
  | .loads p l => p.octets ++ l.flatMap fun x => natOctets 2 x.1 ++ natOctets 2 x.2.1 ++ natOctets 2 x.2.2
  | .mode m => natOctets 1 m.code
  | .enrolment v => v.octets
  | .stranger x => x.octets
  | .strangers l empty => listOctets (fun x => x.2.octets ++ natOctets 4 x.1) l ++ natOctets 4 empty
  | .tracking v => v.octets
  | .light v => v.octets
  | .logStatus n lowest overflow => natOctets 4 n ++ optOctets (natOctets 4) lowest ++ flagOctet overflow
  | .observation o => o.octets
  | .flag b => flagOctet b
  | .aborted x r => natOctets 1 x.code ++ optOctets rangeOctets r
  | .hunt v => v.octets
  | .uncollected n lowest => natOctets 4 n ++ tagOctets lowest
  | .closed p next f n tags =>
    natOctets 4 p ++ natOctets 4 next ++ frameOctets f ++ natOctets 4 n ++ listOctets tagOctets tags
  | .closedInfo p f => optOctets (natOctets 4) p ++ optOctets frameOctets f
  | .collected v => v.octets
  | .live v => v.octets
  | .period v => v.octets
  | .attention f role =>
    f.toList.flatMap (fun x => flagOctet x.latched) ++ f.toList.flatMap (fun x => natOctets 4 x.count) ++
      f.toList.flatMap (fun x => flagOctet x.shown) ++ natOctets 1 role.code
  | .mask shown => shown.flatMap flagOctet
  | .links l => l.flatMap LinkView.octets

/-- The one-octet PENDING marker (R205). -/
def pendingMarker : Byte := 240#8

/-- A response frame (R205). -/
def Response.octets (r : Response) : List Byte :=
  165#8 :: (natOctets 1 r.code ++ (r.seq :: (flagOctet r.discarded ++
    (natOctets 1 r.status.code ++ (natOctets 2 r.data.octets.length ++ r.data.octets)))))

/-- What a host that clocks `clocked` octets reads: the frame, then fill of zero octets (R190, R205). -/
def clockedOctets (frame : List Byte) (clocked : Nat) : List Byte :=
  (frame ++ List.replicate (clocked - frame.length) 0#8).take clocked

end Sys2Proof.Machine
end

