-- ==== Sys2Proof/Machine/Arrival.lean ====
section
/-! DEFINITION. Arrivals (spec/02): the capture of a lock, the receipt of its header, its placement and outcome, the end
of an announce payload, a plan's leaving of the expectation list, and packets at the uplink. The meanings of
LOCK_CAPTURE, HEADER_RECEIPT, ANNOUNCE_PAYLOAD_END, PLAN_LEAVES_LIST and DOWNSTREAM_PACKET_ARRIVAL. -/

namespace Sys2Proof.Machine

/-! ## Placement (R28, R29) -/

/-- The burst slot of a plan that holds a capture: [8 × guard start, 8 × burst end) (R28). -/
def Plan.slotAt (x : Plan) (p : TreeParams) (s : Nat) : Option Burst :=
  x.entries.find? fun b => decide (8 * (b.preamble - p.g) ≤ s) && decide (s < 8 * b.finish p)

/-- The reserved window of a plan, where it holds a capture: [0, 8 × W), the whole frame for DISCOVER (R28). -/
def Plan.windowAt (x : Plan) (s : Nat) : Option Window :=
  x.window.filter fun w =>
    match w with
    | .dark width | .range _ _ width => decide (s < 8 * width)
    | .discover => true

/-- The sample of a capture against an expected preamble start, in steps; capture and plan are of one frame (R29). -/
def sampleOf (s preamble preambleGrains : Nat) : Int := (s : Int) - ((preamble + preambleGrains) * 8 : Nat)

/-- The steps from one capture to a later one. -/
def captureDist (f0 : FrameNo) (s0 : Nat) (f1 : FrameNo) (s1 : Nat) : Int :=
  frameDist f0 f1 * 80000 + (s1 : Int) - s0

/-- A later capture falls fewer than `steps` steps after an earlier one. Two captures of one grain may have their phases
in either order, so the distance may be up to 7 steps negative (R27). -/
def soonAfter (f0 : FrameNo) (s0 : Nat) (f1 : FrameNo) (s1 : Nat) (steps : Int) : Bool :=
  decide (-8 < captureDist f0 s0 f1 s1) && decide (captureDist f0 s0 f1 s1 < steps)

/-- A capture overlaps the latest announce when it falls before that announce's capture + 56 steps (R37). -/
def Engine.overlaps (e : Engine) (frame : FrameNo) (s : Nat) : Bool :=
  match e.lastAnnounce with
  | some (f0, s0) => soonAfter f0 s0 frame s 56
  | none => false

/-- The latest announce is forgotten once no capture can overlap it any more: six frames on, every new capture lies past its
end, for T_target is less than four frames, and no capture whose header is still awaited falls before that end (R37). -/
def Engine.forgetAnnounce (e : Engine) (now : FrameNo) : Engine :=
  match e.lastAnnounce with
  | some (f, s) =>
    if atLeastAfter 6 f now && e.receptions.all (fun r => !soonAfter f s r.frame r.s 56) then
      { e with lastAnnounce := none }
    else e
  | none => e

/-! ## Outcomes (R30 to R37) -/

/-- What an unsolicited capture is reported as (R34). -/
def State.unsolicitedBody (s : State) (t : Tree) (h : Judged) : LightBody :=
  match h with
  | .good k _ _ _ => if s.isRecordOf t k then .wrongSlot (some k) else .stray
  | .bad => .stray

/-- An unsolicited capture is reported with the tree, the capture frame and the offset (R34). -/
def State.unsolicited (s : State) (t : Tree) (frame : FrameNo) (offset : Nat) (h : Judged) : State :=
  s.tellLight t frame (s.unsolicitedBody t h) (some offset)

/-- One miss reported for a planned tag, with the slot's payload grains (R32, R33, R35). -/
def State.reportMiss (s : State) (t : Tree) (b : Burst) : State :=
  s.modMail fun m => { m with misses := m.misses ++ [⟨t, b.tag, b.payload⟩] }

/-- The user octets of a valid burst as clamped, and the clamp mark (R31). -/
def clampUser (user payload : Nat) : Nat × Bool := (min user (payload * 4), decide (payload * 4 < user))

/-- The report of a valid burst to the light watch: its tag and the slot's planned interval (R30). -/
def Burst.cleanReport (b : Burst) (t : Tree) (frame : FrameNo) (p : TreeParams) : CleanReport :=
  ⟨t, b.tag, frame, b.preamble - p.g, b.finish p⟩

/-- The reports of a valid burst, and its packets handed to the uplink while its tag is a record of this tree (R30,
R36, R38). -/
def State.validBurst (s : State) (t : Tree) (frame : FrameNo) (offset : Nat) (b : Burst) (user backlog : Nat)
    (payload : List Byte) : State :=
  let octets := (clampUser user b.payload).1
  let s := s.modMail fun m =>
    { m with
      valids := m.valids ++ [⟨t, b.tag, backlog, b.payload⟩]
      samples := m.samples ++ [⟨t, b.tag, frame, sampleOf offset b.preamble (s.engine t).params.p, false⟩]
      ups := m.ups ++ [⟨t, b.tag, octets, (clampUser user b.payload).2⟩]
      cleans := m.cleans ++ [b.cleanReport t frame (s.engine t).params] }
  if s.isRecordOf t b.tag then
    { s with uplink := s.uplink ++ (walkPackets octets (payload.take octets)).map (uplinkOctets b.tag) }
  else s

/-- The first capture in a slot decides its outcome: valid, header bad or misplaced (R30, R32, R33). R25 calls an ANNOUNCE
outside a discovery window unsolicited, and R28 and R33, tag 0 included, make one that is the first lock of its slot
misplaced: the model takes R33, a miss and an unattributed WRONG_SLOT (DESIGN CHOICE, log entry 35). -/
def State.slotOutcome (s : State) (t : Tree) (frame : FrameNo) (offset : Nat) (b : Burst) (h : Judged)
    (payload : List Byte) : State :=
  match h with
  | .bad => s.reportMiss t b
  | .good k _ user backlog =>
    if k = b.tag then s.validBurst t frame offset b user backlog payload
    else (s.reportMiss t b).tellLight t frame (.wrongSlot (if s.isRecordOf t k then some k else none))

/-- A change of the awaited plan of a frame. -/
def State.modAwaited (s : State) (t : Tree) (frame : FrameNo) (f : Awaited → Awaited) : State :=
  s.modEngine t fun e => { e with expect := e.expect.map fun a => if a.plan.frame = frame then f a else a }

def State.tellDiscovery (s : State) (t : Tree) (frame : FrameNo) (body : DiscoveryBody) : State :=
  s.modMail fun m => { m with discovery := m.discovery ++ [⟨t, frame, body⟩] }

def State.tellRanging (s : State) (t : Tree) (frame : FrameNo) (tag : Nat) (body : RangingBody) : State :=
  s.modMail fun m => { m with ranging := m.ranging ++ [⟨t, frame, tag, body⟩] }

/-- The first capture in a ranging window is reported, with its tag and backlog where its header is good, and the backlog of
a good header with the right tag is stored; a later capture is discarded (R37). -/
def State.rangingCapture (s : State) (t : Tree) (a : Awaited) (offset tag expected : Nat) (h : Judged) : State :=
  if a.windowHit then s
  else
    let s := s.modAwaited t a.plan.frame fun a => { a with windowHit := true }
    let delta := sampleOf offset expected (s.engine t).params.p
    match h with
    | .bad => s.tellRanging t a.plan.frame tag (.capture offset delta none)
    | .good k _ _ backlog =>
      let s := if k = tag ∧ s.isRecordOf t k = true then s.modRecord k fun r => { r with backlog := backlog } else s
      s.tellRanging t a.plan.frame tag (.capture offset delta (some (k, backlog)))

/-- Whether a capture that still waits for its header falls before the end of an announce (R37). -/
def Engine.cutsAnnounce (e : Engine) (frame : FrameNo) (offset : Nat) : Bool :=
  e.receptions.any fun r => soonAfter frame offset r.frame r.s 56

/-- A capture in a discovery window: a bad header or a burst of kind none is reported at once, an announce when its
payload ends, or at once where a later capture has cut it short (R37). -/
def State.discoveryCapture (s : State) (t : Tree) (frame : FrameNo) (offset : Nat) (h : Judged) : State :=
  let overlapping := (s.engine t).overlaps frame offset
  match h with
  | .bad => s.tellDiscovery t frame (.badHeader overlapping)
  | .good k false _ _ => s.tellDiscovery t frame (.plain k overlapping)
  | .good _ true _ _ =>
    if (s.engine t).cutsAnnounce frame offset then
      (s.tellDiscovery t frame .cutShort).modEngine t fun e => { e with lastAnnounce := some (frame, offset) }
    else
      s.modEngine t fun e =>
        { e with
          lastAnnounce := some (frame, offset)
          receptions := e.receptions ++ [⟨frame, offset, .payload overlapping⟩] }

/-- A capture resolved by its header against the expectation list (R28). -/
def State.resolve (s : State) (t : Tree) (frame : FrameNo) (offset : Nat) (h : Judged) (payload : List Byte) : State :=
  match (s.engine t).expect.find? fun a => a.plan.frame == frame with
  | none => s.unsolicited t frame offset h
  | some a =>
    match a.plan.slotAt (s.engine t).params offset with
    | some b =>
      if a.arrived.contains b.tag then s.unsolicited t frame offset h
      else
        (s.modAwaited t frame fun a => { a with arrived := a.arrived ++ [b.tag] }).slotOutcome t frame offset b h payload
    | none =>
      match a.plan.windowAt offset with
      | none => s.unsolicited t frame offset h
      | some (.dark _) => s
      | some (.range tag expected _) => s.rangingCapture t a offset tag expected h
      | some .discover => s.discoveryCapture t frame offset h

/-! ## The meanings of captures -/

/-- Whether a reception is cut short by a capture: a header by one less than 24 steps later, an announce payload by one
less than 56 steps later (R27, R37). -/
def Reception.cutBy (r : Reception) (frame : FrameNo) (offset : Nat) : Bool :=
  match r.stage with
  | .header => soonAfter r.frame r.s frame offset 24
  | .payload _ => soonAfter r.frame r.s frame offset 56

/-- A reception cut short: a header is judged bad at the pulse, an announce is reported with its serial absent. A header
cut short in a discovery window counts as an announce for the overlap mark (R27, R37; log entry 8). -/
def State.cutReception (s : State) (t : Tree) (r : Reception) : State :=
  match r.stage with
  | .header =>
    let inDiscovery := (s.engine t).expect.any fun a => a.plan.frame == r.frame && a.plan.window == some .discover
    let s := s.resolve t r.frame r.s .bad []
    if inDiscovery then s.modEngine t fun e => { e with lastAnnounce := some (r.frame, r.s) } else s
  | .payload _ => s.tellDiscovery t r.frame .cutShort

/-- A LOCK pulse captured on a RUNNING or CUT tree: its upstream frame and step offset, the receptions it cuts short,
and the reception of its own header (R27). -/
def State.capture (s : State) (t : Tree) (phase : Fin 8) : State :=
  let pos := upstreamPos s.frame s.stepOffset (s.engine t).params.tTarget 0
  let offset := 8 * (pos.2 / 8) + phase.val
  let cut := (s.engine t).receptions.filter (·.cutBy pos.1 offset)
  let s := s.modEngine t fun e => { e with receptions := e.receptions.filter fun r => !r.cutBy pos.1 offset }
  (cut.foldl (fun s r => s.cutReception t r) s).modEngine t fun e =>
    { e with receptions := e.receptions ++ [⟨pos.1, offset, .header⟩] }

/-- LOCK_CAPTURE (R27; R7 for a DISABLED tree, which ignores the pulse). -/
def execLockCapture (t : Tree) (offset : Nat) (phase : Fin 8) (s : State) : Host.Outcome State Fault Refusal :=
  live s (if (s.engine t).state = .disabled then s.advance offset else (s.advance offset).capture t phase)

/-- The oldest reception of a stage is taken from those in progress. -/
def Engine.takeReception (e : Engine) (test : Reception → Bool) : Option (Reception × Engine) :=
  (takeFirst e.receptions test).map fun x => (x.1, { e with receptions := x.2 })

def Reception.inHeader (r : Reception) : Bool := r.stage == .header
def Reception.inPayload (r : Reception) : Bool := r.stage != .header

/-- HEADER_RECEIPT: the oldest capture whose header is being received is judged and resolved (R28). No effect where none
is. -/
def execHeaderReceipt (t : Tree) (header payload : List Byte) (s : State) : Host.Outcome State Fault Refusal :=
  live s
    (match (s.engine t).takeReception Reception.inHeader with
    | none => s
    | some (r, e) => (s.modEngine t fun _ => e).resolve t r.frame r.s (judgeHeader header) payload)

/-- ANNOUNCE_PAYLOAD_END: the oldest announce whose payload is being received is reported, with its serial and stagger
(R37, R204). No effect where none is. -/
def execAnnouncePayloadEnd (t : Tree) (payload : List Byte) (s : State) : Host.Outcome State Fault Refusal :=
  live s
    (match (s.engine t).takeReception Reception.inPayload with
    | none => s
    | some (r, e) =>
      let overlapping := match r.stage with
        | .payload o => o
        | .header => false
      (s.modEngine t fun _ => e).tellDiscovery t r.frame
        (.announce r.s (announceSerial payload) (announceStagger payload) overlapping))

/-! ## Leaving the expectation list (R26, R35) -/

/-- The upstream frame of an awaited plan has ended: T_target + 80,000 steps after the boundary of its frame (R26). -/
def State.frameEnded (s : State) (t : Tree) (a : Awaited) : Bool :=
  decide (((s.engine t).params.tTarget : Int) + 80000 ≤ s.stepsSince a.plan.frame)

/-- The headers and announce payloads of every lock captured in a frame have been received (R26). -/
def Engine.allReceived (e : Engine) (frame : FrameNo) : Bool := e.receptions.all fun r => r.frame != frame

/-- The ends and misses of a plan that leaves the list (R35). -/
def State.settlePlan (s : State) (t : Tree) (a : Awaited) : State :=
  let s := (a.plan.entries.filter fun b => !a.arrived.contains b.tag).foldl (fun s b => s.reportMiss t b) s
  match a.plan.window with
  | none => s
  | some (.dark _) => s.modMail fun m => { m with darkEnds := m.darkEnds ++ [⟨t, a.plan.frame⟩] }
  | some (.range tag _ _) => s.tellRanging t a.plan.frame tag (.windowEnd (!a.windowHit))
  | some .discover => s.tellDiscovery t a.plan.frame .windowEnd

/-- The head of the expectation list leaves it, once its frame has ended and all is received; otherwise no effect (R26,
R35). -/
def State.leavePlan (s : State) (t : Tree) : State :=
  match (s.engine t).expect with
  | [] => s
  | a :: rest =>
    if s.frameEnded t a && (s.engine t).allReceived a.plan.frame then
      (s.modEngine t fun e => { e with expect := rest }).settlePlan t a
    else s

/-- PLAN_LEAVES_LIST (R26, R35). -/
def execPlanLeavesList (t : Tree) (offset : Nat) (s : State) : Host.Outcome State Fault Refusal :=
  live s ((s.advance offset).leavePlan t)

/-! ## Packets at the uplink (R39) -/

def queueCapacity : Nat := 262144

/-- Downstream data is taken for ACTIVE and PARKED records (3.2). -/
def RecState.takesData : RecState → Bool
  | .active | .parked => true
  | _ => false

/-- A packet from the uplink, by its prefix: it joins the queue of its record's tree, or is discarded uncounted (R39). -/
def State.packetArrival (s : State) (tagPrefix : Nat) (octets : List Byte) : State :=
  let r := s.record tagPrefix
  match r.tree with
  | none => s
  | some t =>
    if r.state.takesData ∧ (s.engine t).state ≠ .disabled ∧ 1 ≤ octets.length ∧ octets.length ≤ 9600 ∧
        (s.engine t).queuedOctets + octets.length ≤ queueCapacity then
      s.modEngine t fun e => { e with queue := e.queue ++ [⟨tagPrefix, octets⟩] }
    else s

/-- DOWNSTREAM_PACKET_ARRIVAL (R39). -/
def execDownstreamPacketArrival (tagPrefix : Nat) (octets : List Byte) (s : State) : Host.Outcome State Fault Refusal :=
  live s (s.packetArrival tagPrefix octets)

end Sys2Proof.Machine
end

