-- ==== Sys2Proof/Machine/Grant.lean ====
section
/-! DEFINITION. The grant compiler (spec/06): the three questions at the start of a compile, the reading of records, the
arithmetic of shares and surplus, and placement; the meanings of COMPILE_READ_RECORD and COMPILE_END. -/

namespace Sys2Proof.Machine

/-! ## Plans -/

def Window.width : Window → Nat
  | .dark w => w
  | .range _ _ w => w
  | .discover => 10000

/-- An empty plan (R13, R105). -/
def Plan.emptyPlan (frame : FrameNo) (cutMark : Bool) : Plan where
  frame := frame
  kind := .empty
  cutMark := cutMark
  window := none
  entries := []
  withheld := []
  overList := []
  summary := none

/-- A DISCOVERY plan: the single entry DISCOVER. Its compile summary records only its kind (R109), for which the summary of
6.1 has no item: the summary is absent, and the kind stands in the plan (DESIGN CHOICE, log entry 39). -/
def Plan.discoveryPlan (frame : FrameNo) : Plan :=
  { Plan.emptyPlan frame false with kind := .discovery, window := some .discover }

/-! ## Demand and shares (R112 to R118) -/

/-- The effective values of a record read with its profile; an over home is throttled (R112). -/
def candidateOf (k : Nat) (r : DropRecord) (p : Profile) : Candidate :=
  if r.isOver then ⟨k, p.f, min p.a p.mt, p.mt, 1, r.backlog, r.outstanding⟩
  else ⟨k, p.f, p.a, p.m, p.w, r.backlog, r.outstanding⟩

/-- demand = max(0, ceil(backlog / 4) − outstanding) (R113). -/
def Candidate.demand (c : Candidate) : Nat := (c.backlog + 3) / 4 - c.outstanding
/-- N = max(0, min(demand, M) − F) (R114). -/
def Candidate.need (c : Candidate) : Nat := min c.demand c.m - c.f
def Candidate.assured (c : Candidate) : Nat := min c.need c.a
def Candidate.base (c : Candidate) : Nat := c.f + c.assured
def Candidate.residual (c : Candidate) : Nat := c.need - c.assured

/-- S = U − Σ(O + base) (R115). -/
def surplusOf (u overhead : Nat) (cs : List Candidate) : Nat := u - (cs.map fun c => overhead + c.base).sum

def residualTotal (cs : List Candidate) : Nat := (cs.map Candidate.residual).sum

/-- Wsum: the effective weights of the homes whose residual is above 0 (R117). -/
def weightSum (cs : List Candidate) : Nat := ((cs.filter fun c => decide (0 < c.residual)).map Candidate.w).sum

/-- s = min(r, floor(S × w / Wsum)) (R117). -/
def Candidate.share (c : Candidate) (surplus wsum : Nat) : Nat := min c.residual (surplus * c.w / wsum)

/-- The leftover round: each home in turn receives what it still wishes, while any is left (R118). -/
def handOut : Nat → List (Nat × Nat) → List (Nat × Nat)
  | _, [] => []
  | left, (k, wish) :: rest => (k, min wish left) :: handOut (left - min wish left) rest

/-- The homes of the leftover round with what each wishes, from the surplus pointer onward (R118). -/
def roundOrder (pointer surplus wsum : Nat) (cs : List Candidate) : List (Nat × Nat) :=
  let wishes := (cs.filter fun c => decide (c.share surplus wsum < c.residual)).map fun c =>
    (c.tag, c.residual - c.share surplus wsum)
  wishes.filter (fun x => decide (pointer ≤ x.1)) ++ wishes.filter (fun x => decide (x.1 < pointer))

/-- The surplus pointer after a round: the tag after the last home that received any, 256 followed by 1 (R119). -/
def pointerAfter (pointer : Nat) (got : List (Nat × Nat)) : Nat :=
  match (got.filter fun x => decide (0 < x.2)).getLast? with
  | some (k, _) => k % 256 + 1
  | none => pointer

def gotOf (got : List (Nat × Nat)) (k : Nat) : Nat := ((got.find? fun x => x.1 == k).map (·.2)).getD 0

/-- The extra of each home, the surplus pointer afterwards, and Wsum and leftover where the residuals do not fit (R116
to R119). -/
def divide (pointer surplus : Nat) (cs : List Candidate) : (Candidate → Nat) × Nat × Option (Nat × Nat) :=
  if residualTotal cs ≤ surplus then (Candidate.residual, pointer, none)
  else
    let wsum := weightSum cs
    let leftover := surplus - (cs.map fun c => c.share surplus wsum).sum
    let got := handOut leftover (roundOrder pointer surplus wsum cs)
    (fun c => c.share surplus wsum + gotOf got c.tag, pointerAfter pointer got, some (wsum, leftover))

/-- The slots in ascending tag order from a grain on (R120). -/
def placeSlots (p : TreeParams) : Nat → List (Nat × Nat × Nat) → List Burst
  | _, [] => []
  | start, (tag, base, extra) :: rest =>
    ⟨tag, start + p.g, base + extra, base, extra⟩ :: placeSlots p (start + p.overhead + (base + extra)) rest

/-- The grains a window leaves for bursts begin at W (R108). -/
def windowWidth (w : Option Window) : Nat := (w.map Window.width).getD 0

/-- The finished plan of a compile, and the surplus pointer after it (R115 to R121). -/
def buildPlan (c : Compile) (p : TreeParams) (pointer : Nat) : Plan × Nat :=
  let width := windowWidth c.window
  let u := 10000 - width
  let surplus := surplusOf u p.overhead c.eligible
  let (extra, after, round) := divide pointer surplus c.eligible
  ({ frame := c.frame
     kind := c.kind
     cutMark := false
     window := c.window
     entries := placeSlots p width (c.eligible.map fun x => (x.tag, x.base, extra x))
     withheld := c.withheld
     overList := c.overList
     summary := some
       { u := u
         surplus := surplus
         residualTotal := residualTotal c.eligible
         wsum := round.map (·.1)
         leftover := round.map (·.2)
         pointerBefore := pointer
         pointerAfter := after
         fitted := round.isNone } }, after)

/-! ## The questions at the start of a compile (R107) -/

/-- Whether a dark test falls in frame `m` (R150). -/
def Hunt.testDue (h : Hunt) (m : FrameNo) : Bool :=
  match h.state with
  | .idle => false
  | .confirming => decide (h.requested < 2)
  | .splitting | .verifying =>
    h.tests.isEmpty &&
      match h.pendingTest with
      | .absent => false
      | .atOnce => true
      | .frame f => atLeastAfter 0 f m

/-- A yes to the hunt question: `m` joins the tests in flight (R150). -/
def Hunt.requestTest (h : Hunt) (m : FrameNo) : Hunt :=
  { h with tests := h.tests ++ [⟨m, false⟩], requested := h.requested + 1, pendingTest := .absent }

/-- Whether the frame prepared is a discovery frame, the tree RUNNING and no hunt test due (R68). -/
def State.discoveryDue (s : State) (t : Tree) : Bool :=
  (s.engine t).state == .running && (s.enrol t).mode != .closed && (s.hunt t).state == .idle &&
    decide ((s.enrol t).d ≤ (s.enrol t).count)

/-- A yes to the discovery question for frame `m`: the count becomes 0 and the sequence number rises (R67). -/
def Enrol.prepareDiscovery (e : Enrol) (m : FrameNo) : Enrol :=
  { e with
    count := 0
    seqNo := (e.seqNo + 1) % 65536
    lastDiscovery := some m
    notes := e.notes.filter (·.frame != m) }

/-- The tracker's readiness test for a head returned by RERANGE (R93). -/
def State.trackerReady (s : State) (k : Nat) (m : FrameNo) : Bool :=
  !s.kept.any (Kept.isCorrection k) &&
    match (s.tracker k).mark with
    | .none | .settled => true
    | .pending => false
    | .carried f => (s.tracker k).cause == .offer || atLeastAfter 3 f m

/-- Whether an ANNOUNCED head can be trusted to use its delay by frame `m` (R82). -/
def State.headReady (s : State) (k : Nat) (m : FrameNo) : Bool :=
  match (s.record k).offer with
  | .sent f => atLeastAfter 3 f m
  | .delivered => true
  | .waiting => false
  | .none => s.trackerReady k m

/-- The record that a ranging window of frame `m` is for, where there is one (R83). -/
def State.rangingDue (s : State) (t : Tree) (m : FrameNo) : Option Nat :=
  match (s.enrol t).queue with
  | [] => none
  | k :: _ =>
    if (s.engine t).state = .running ∧ (s.hunt t).state = .idle ∧ (s.enrol t).attempt = none ∧
        s.kept.any (Kept.isRanged k) = false ∧ (s.record k).tree = some t then
      if (s.record k).state = .ranging then some k
      else if (s.record k).state = .announced ∧ s.headReady k m = true then some k
      else none
    else none

/-- A yes to the ranging question: the head becomes RANGING where it is not yet, and the attempt is unresolved (R83). -/
def State.scheduleRanging (s : State) (t : Tree) (k : Nat) (m : FrameNo) : State :=
  (s.changeState k .ranging false).modEnrol t fun e => { e with attempt := some m }

def Compile.start (frame : FrameNo) (kind : PlanKind) (window : Option Window) : Compile :=
  ⟨frame, kind, window, 1, [], [], []⟩

/-- The start of the compile for frame `m` on a RUNNING or CUT tree: the frame kind by the first case that applies
(R107). -/
def State.startCompile (s : State) (t : Tree) (m : FrameNo) : State :=
  let p := (s.engine t).params
  if (s.engine t).state = .cut then
    s.modEngine t fun e => { e with planPrep := some (.emptyPlan m true), compile := none }
  else if (s.hunt t).testDue m then
    (s.modHunt t (·.requestTest m)).modEngine t fun e =>
      { e with planPrep := none, compile := some (.start m .darkTest (some (.dark p.wd))) }
  else if s.discoveryDue t then
    (s.modEnrol t (·.prepareDiscovery m)).modEngine t fun e =>
      { e with planPrep := some (.discoveryPlan m), compile := none }
  else
    match s.rangingDue t m with
    | some k =>
      (s.scheduleRanging t k m).modEngine t fun e =>
        { e with planPrep := none, compile := some (.start m .ranging (some (.range k (p.wr / 2) p.wr))) }
    | none => s.modEngine t fun e => { e with planPrep := none, compile := some (.start m .ordinary none) }

/-! ## Reading records (R106, R110) -/

/-- Whether the settle excludes a record from the plan for frame `m` (R92). -/
def Tracker.excludes (x : Tracker) (m : FrameNo) : Bool :=
  x.cause == .ranged &&
    match x.mark with
    | .pending => true
    | .carried f => !atLeastAfter 4 f m
    | .none | .settled => false

/-- A compile with one record read, whole, with its profile and the settle answer (R106, R110). -/
def Compile.read (c : Compile) (k : Nat) (r : DropRecord) (p : Profile) (x : Tracker) : Compile :=
  let c := { c with cursor := k + 1 }
  if r.state ≠ .active then c
  else if r.held then { c with withheld := c.withheld ++ [k] }
  else if x.excludes c.frame then c
  else
    { c with
      eligible := c.eligible ++ [candidateOf k r p]
      overList := if r.isOver then c.overList ++ [k] else c.overList }

/-- The records of a tree that a compile has still to read, ascending (R106). -/
def State.unread (s : State) (t : Tree) (cursor : Nat) : List Nat :=
  numbersWhere s.records fun k r => decide (cursor ≤ k) && r.state != .vacant && r.tree == some t

/-- One record read by the compile of a tree. -/
def State.readRecord (s : State) (t : Tree) (k : Nat) : State :=
  s.modEngine t fun e =>
    { e with compile := e.compile.map fun c => c.read k (s.record k) (s.profile (s.record k).profile) (s.tracker k) }

/-- The next record of its tree is read by the compile in progress; no effect where none is in progress or none is left
(R106). -/
def State.readNext (s : State) (t : Tree) : State :=
  match (s.engine t).compile with
  | none => s
  | some c =>
    match s.unread t c.cursor with
    | [] => s
    | k :: _ => s.readRecord t k

/-- The compile that has read its last record ends; its plan is the plan in preparation (R105). -/
def State.endCompile (s : State) (t : Tree) : State :=
  match (s.engine t).compile with
  | none => s
  | some c =>
    if (s.unread t c.cursor).isEmpty then
      s.modEngine t fun e =>
        { e with
          planPrep := some (buildPlan c e.params e.surplusPtr).1
          surplusPtr := (buildPlan c e.params e.surplusPtr).2
          compile := none }
    else s

/-- A compile always ends before the next boundary: the records it has still to read are read and it ends (R12; log
entry 5). -/
def State.completeCompile (s : State) (t : Tree) : State :=
  match (s.engine t).compile with
  | none => s
  | some c => ((s.unread t c.cursor).foldl (fun s k => s.readRecord t k) s).endCompile t

/-! ## The meanings -/

/-- COMPILE_READ_RECORD (R106, R110, R111). -/
def execCompileReadRecord (t : Tree) (s : State) : Host.Outcome State Fault Refusal := live s (s.readNext t)

/-- COMPILE_END (R105, R112 to R121). -/
def execCompileEnd (t : Tree) (s : State) : Host.Outcome State Fault Refusal := live s (s.endCompile t)

end Sys2Proof.Machine
end

