-- ==== Sys2Proof/Machine/Watch.lean ====
section
/-! DEFINITION. The light watch (spec/07): the interval table, judged samples, runs and light events, the stray history
and its trigger. The meanings of LIGHT_WATCH_REPORT, STRIKE and CLEAN_RUN. -/

namespace Sys2Proof.Machine

/-! ## The interval table (R130) -/

/-- A dispatched plan as the interval table holds it (R130). -/
def tableEntry (x : Plan) (p : TreeParams) : TableEntry where
  frame := x.frame
  bursts := x.entries.map fun b => ⟨b.tag, (b.preamble : Int) - p.tailTol, ((b.finish p + p.tailTol : Nat) : Int)⟩
  window := x.window

/-- The last `n` entries of a list. -/
def lastN {α : Type} (n : Nat) (l : List α) : List α := l.drop (l.length - n)

/-- The table keeps the six most recent plans (R130). -/
def LightWatch.enterPlan (w : LightWatch) (x : TableEntry) : LightWatch := { w with table := lastN 6 (w.table ++ [x]) }

/-- A judged position in the grains of an entry's upstream frame; neighbouring frames lie 10,000 grains away (R130). -/
def TableEntry.grainIn (x : TableEntry) (frame : FrameNo) (grain : Nat) : Int := frameDist x.frame frame * 10000 + grain

/-- The tag of the burst interval with the earliest preamble that covers a judged position (R132). The table is in frame
order and each plan in position order, so the first found is the earliest. -/
def LightWatch.spanAt (w : LightWatch) (frame : FrameNo) (grain : Nat) : Option Nat :=
  (w.table.flatMap fun x =>
    (x.bursts.filter fun b => decide (b.first ≤ x.grainIn frame grain) && decide (x.grainIn frame grain < b.past)).map
      (·.tag)).head?

def TableEntry.windowHolds (x : TableEntry) (frame : FrameNo) (grain width : Nat) : Bool :=
  decide (0 ≤ x.grainIn frame grain) && decide (x.grainIn frame grain < width)

/-- A judged position lies in a ranging or discovery window of the table (R132). -/
def LightWatch.inWindow (w : LightWatch) (frame : FrameNo) (grain : Nat) : Bool :=
  w.table.any fun x =>
    match x.window with
    | some (.range _ _ width) => x.windowHolds frame grain width
    | some .discover => x.windowHolds frame grain 10000
    | _ => false

/-- A judged position lies in a DARK window of the table (R131). -/
def LightWatch.inDark (w : LightWatch) (frame : FrameNo) (grain : Nat) : Bool :=
  w.table.any fun x =>
    match x.window with
    | some (.dark width) => x.windowHolds frame grain width
    | _ => false

/-- Covered: inside a burst interval, or a ranging or discovery window (R132). -/
def LightWatch.covered (w : LightWatch) (frame : FrameNo) (grain : Nat) : Bool :=
  (w.spanAt frame grain).isSome || w.inWindow frame grain

/-- The attribution of a run that starts at a judged position (R132). -/
def LightWatch.attribute (w : LightWatch) (frame : FrameNo) (grain : Nat) : Attribution :=
  match w.spanAt frame grain with
  | some k => .tag k
  | none => if w.inWindow frame grain then .window else .gap

/-! ## The stray history (R135, R136) -/

def LightWatch.litCount (w : LightWatch) : Nat := (w.closed.filter (·.lit)).length

/-- A check of the trigger: when its four conditions hold, the hunt controller is asked to start a hunt (R136). -/
def State.checkTrigger (s : State) (t : Tree) : State :=
  if (s.engine t).state = .running ∧ (s.engine t).params.autoHunt = true ∧ (s.hunt t).state = .idle ∧
      3 ≤ (s.light t).litCount then
    s.modMail fun m => { m with triggers := m.triggers ++ [t] }
  else s

/-- The history at a judged sample: the first makes the open entry, one of a later frame closes it (R135). -/
def State.historyAt (s : State) (t : Tree) (frame : FrameNo) : State :=
  match (s.light t).current with
  | none => s.modLight t fun w => { w with current := some ⟨frame, false⟩ }
  | some c =>
    if 0 < frameDist c.frame frame then
      (s.modLight t fun w => { w with closed := lastN 8 (w.closed ++ [c]), current := some ⟨frame, false⟩ }).checkTrigger t
    else s

/-- A STRAY marks the entry of its frame lit; marking a closed entry is a check (R135). -/
def State.markStray (s : State) (t : Tree) (frame : FrameNo) : State :=
  match (s.light t).current with
  | none => s
  | some c =>
    if c.frame = frame then s.modLight t fun w => { w with current := some ⟨frame, true⟩ }
    else if (s.light t).closed.any (·.frame == frame) then
      (s.modLight t fun w =>
        { w with closed := w.closed.map fun x => if x.frame = frame then ⟨x.frame, true⟩ else x }).checkTrigger t
    else s

/-! ## Events (R133, R134) -/

/-- A strike for tag `k` is sent to the roster (R134, R137). -/
def State.sendStrike (s : State) (t : Tree) (k : Nat) : State :=
  s.modMail fun m => { m with strikes := m.strikes ++ [⟨t, k⟩] }

/-- A STRAY taken: it marks the history and is observed (R134). -/
def State.strayEvent (s : State) (t : Tree) (frame : FrameNo) : State :=
  (s.markStray t frame).observe (.of .stray t none none none frame)

/-- A LONG_TAIL or WRONG_SLOT taken: charged to its tag while that is a record of the tree, else to no tag (R133,
R134). -/
def State.chargedEvent (s : State) (t : Tree) (kind : ObsKind) (tag : Option Nat) (frame : FrameNo) : State :=
  match tag with
  | some k =>
    if s.isRecordOf t k then
      (s.observe (.of kind t (some k) (s.record k).serial none frame)).sendStrike t k
    else s.observe (.of kind t none none none frame)
  | none => s.observe (.of kind t none none none frame)

/-- One light event of a run, by its attribution (R133). -/
def State.lightEvent (s : State) (t : Tree) (attribution : Attribution) (frame : FrameNo) : State :=
  match attribution with
  | .tag k => s.chargedEvent t .longTail (some k) frame
  | .window | .gap => s.strayEvent t frame

/-- The run that a present sample continues or starts (R132). -/
def LightWatch.runAt (w : LightWatch) (frame : FrameNo) (grain : Nat) : Run :=
  w.run.getD ⟨frame, grain, w.attribute frame grain, none⟩

/-- A sample judged at a position (R131 to R133). -/
def State.judge (s : State) (t : Tree) (frame : FrameNo) (grain : Nat) (present : Bool) : State :=
  let w := s.light t
  if (s.engine t).state = .disabled ∨ w.table.any (·.frame == frame) = false ∨ w.inDark frame grain = true then s
  else
    let s := s.historyAt t frame
    if present then
      let run := w.runAt frame grain
      if w.covered frame grain || run.raised == some frame then s.modLight t fun w => { w with run := some run }
      else
        (s.modLight t fun w => { w with run := some { run with raised := some frame } }).lightEvent t run.attribution
          frame
    else s.modLight t fun w => { w with run := none }

/-! ## The meanings -/

/-- A report taken by the light watch (R134). -/
def State.takeLight (s : State) (r : LightReport) : State :=
  match r.body with
  | .stray => s.strayEvent r.tree r.frame
  | .wrongSlot tag => s.chargedEvent r.tree .wrongSlot tag r.frame
  | .duplicate holder serial => s.observe (.of .duplicateSerial r.tree (some holder) (some serial) none r.frame)
  | .hunt kind => s.observe (.of kind r.tree none none none r.frame)

/-- LIGHT_WATCH_REPORT: one report in flight to the light watch is taken (R134). -/
def execLightWatchReport (index : Nat) (s : State) : Host.Outcome State Fault Refusal :=
  live s
    (match takeNth s.mail.lights index with
    | none => s
    | some (r, rest) => (s.modMail fun m => { m with lights := rest }).takeLight r)

/-- A LASER_SHUT for `k` is kept, or waits in the urgent lane of its tree (R138). -/
def State.shutStands (s : State) (t : Tree) (k : Nat) : Bool :=
  s.kept.any (fun x => x.entry.dir.isShut k) || (s.engine t).urgent.any fun x => x.dir.isShut k

/-- A strike for a record, and the isolation that follows at the strike limit (R137, R138). R137 names the state ACTIVE
alone as the test; a strike in flight whose tag is meanwhile ACTIVE on another tree is discarded too (DESIGN CHOICE, log
entry 31). -/
def State.takeStrike (s : State) (r : StrikeReport) : State :=
  if (s.record r.tag).state = .active ∧ s.isRecordOf r.tree r.tag = true then
    let s := s.modRecord r.tag (·.strike)
    if (s.engine r.tree).params.strikeLim ≤ (s.record r.tag).strikes ∧ s.shutStands r.tree r.tag = false then
      s.offer r.tree ⟨.laserShut r.tag, .strikeShut⟩
    else s
  else s

/-- STRIKE: one strike in flight is taken by the roster controller (R137, R138). -/
def execStrike (index : Nat) (s : State) : Host.Outcome State Fault Refusal :=
  live s
    (match takeNth s.mail.strikes index with
    | none => s
    | some (r, rest) => (s.modMail fun m => { m with strikes := rest }).takeStrike r)

/-- CLEAN_RUN: one valid burst told to the light watch raises its record's clean run (R139). -/
def execCleanRun (index : Nat) (s : State) : Host.Outcome State Fault Refusal :=
  live s
    (match takeNth s.mail.cleans index with
    | none => s
    | some (r, rest) =>
      let s := s.modMail fun m => { m with cleans := rest }
      if s.isRecordOf r.tree r.tag then s.modRecord r.tag (·.clean) else s)

end Sys2Proof.Machine
end

