-- ==== Sys2Proof/Machine/Inputs.lean ====
section
/-! DEFINITION. The inputs and pulses of a tree engine (spec/01 1.6, 1.7) and the reports of CUT_IN and of the automatic
trigger to its hunt controller. The meanings of RX_RESET_PULSE, INPUT_SAMPLE, CUT_IN_ASSERTION, CUT_IN_DEASSERTION and
AUTO_HUNT_TRIGGER. -/

namespace Sys2Proof.Machine

/-! ## RX_RESET (R18) -/

/-- The grains at which a dispatched plan has its pulses: grain 0 of its window, the guard start of each slot (R18). -/
def Plan.pulseGrains (x : Plan) (p : TreeParams) : List Nat :=
  x.window.toList.map (fun _ => 0) ++ x.entries.map fun b => b.preamble - p.g

/-- A pulse of an awaited plan not yet driven whose time, T_target + 8g steps after the boundary of the plan's frame, is
now (R3, R18). -/
def State.pulseNow (s : State) (t : Tree) (a : Awaited) : Option Nat :=
  a.pulses.find? fun g => s.stepsSince a.plan.frame == ((s.engine t).params.tTarget : Int) + 8 * g

/-- The pulse that falls now is driven once; no effect where none falls now (R18). -/
def State.pulse (s : State) (t : Tree) : State :=
  match (s.engine t).expect.find? fun a => (s.pulseNow t a).isSome with
  | none => s
  | some a =>
    s.modEngine t fun e =>
      { e with
        rxPulse := some (s.frame, s.stepOffset)
        expect := e.expect.map fun b =>
          if b.plan.frame = a.plan.frame then { b with pulses := b.pulses.filter fun g => some g != s.pulseNow t a } else b }

/-- RX_RESET_PULSE (R18). -/
def execRxResetPulse (t : Tree) (offset : Nat) (s : State) : Host.Outcome State Fault Refusal :=
  live s ((s.advance offset).pulse t)

/-! ## Filters (R19) -/

/-- A sample taken by a filter: the level changes at the third of three agreeing samples (R19). -/
def Filter.take (f : Filter) (x : Bool) : Filter where
  level := if f.recent = [x, x] then x else f.level
  recent := (x :: f.recent).take 2

/-- Both filters of a tree take their samples; a change of CUT_IN assertion is reported to the hunt controller (R19). -/
def State.filterInputs (s : State) (t : Tree) (light cutIn : Bool) : State :=
  let before := (s.engine t).cutInAsserted
  let s := s.modEngine t fun e => { e with light := e.light.take light, cutIn := e.cutIn.take cutIn }
  let after := (s.engine t).cutInAsserted
  if before = after then s else s.modMail fun m => { m with cutIns := m.cutIns ++ [⟨t, after⟩] }

/-- A judged position lies in a DARK window of an awaited plan (R19). -/
def Engine.darkAt (e : Engine) (frame : FrameNo) (grain : Nat) : Bool :=
  e.expect.any fun a =>
    a.plan.frame == frame &&
      match a.plan.window with
      | some (.dark width) => decide (grain < width)
      | _ => false

/-- A present sample delivered for a DARK window of a test in flight makes its verdict lit (R151). -/
def Hunt.lightSample (h : Hunt) (frame : FrameNo) (present : Bool) : Hunt :=
  { h with tests := h.tests.map fun x => if x.frame = frame then { x with lit := x.lit || present } else x }

/-- The qualified LIGHT level delivered at the sample taken now, at its judged position 8 grains earlier: to the hunt
controller inside a DARK window, else to the light watch (R19, R131, R151). -/
def State.deliverLight (s : State) (t : Tree) : State :=
  let e := s.engine t
  let pos := upstreamPos s.frame s.stepOffset e.params.tTarget 64
  if e.darkAt pos.1 (pos.2 / 8) then s.modHunt t (·.lightSample pos.1 e.light.level)
  else s.judge t pos.1 (pos.2 / 8) e.light.level

/-- INPUT_SAMPLE (R19, R131 to R133, R151). -/
def execInputSample (t : Tree) (sample : Nat) (light cutIn : Bool) (s : State) : Host.Outcome State Fault Refusal :=
  live s (((s.advance (32 * sample)).filterInputs t light cutIn).deliverLight t)

/-! ## CUT_IN reports (R164) -/

/-- An EXTERNAL_CUT is told to the light watch with the frame in progress (R134, R164). -/
def State.observeCut (s : State) (t : Tree) : State := s.tellLight t s.frame (.hunt .externalCut)

/-- A report of assertion taken by the tree state (R164). -/
def State.cutAsserted (s : State) (t : Tree) : State :=
  match (s.engine t).state with
  | .disabled => s
  | .running =>
    if (s.hunt t).cutPending then s.observeCut t
    else
      let ended := s.modHunt t fun h => { h with cutPending := true }
      if (s.hunt t).state = .idle then ended.observeCut t
      else ((ended.endHunt t .external).offerRelease t).observeCut t
  | .cut => (s.modEngine t fun e => { e with resumePending := false }).observeCut t

/-- The first CUT_IN report of a tree in flight, where it is of the given kind, and the state without it. -/
def State.takeCutReport (s : State) (t : Tree) (asserted : Bool) : Option State :=
  match takeFirst s.mail.cutIns (fun r => r.tree == t) with
  | some (r, rest) => if r.asserted = asserted then some (s.modMail fun m => { m with cutIns := rest }) else none
  | none => none

/-- CUT_IN_ASSERTION (R164). -/
def execCutInAssertion (t : Tree) (s : State) : Host.Outcome State Fault Refusal :=
  live s (match s.takeCutReport t true with | some s => s.cutAsserted t | none => s)

/-- CUT_IN_DEASSERTION: no state changes but that the report has been taken (R164). -/
def execCutInDeassertion (t : Tree) (s : State) : Host.Outcome State Fault Refusal :=
  live s ((s.takeCutReport t false).getD s)

/-! ## The automatic trigger (R136, R148) -/

/-- AUTO_HUNT_TRIGGER: a trigger request starts a hunt where R148 takes it, and is discarded otherwise (R136, R148). -/
def execAutoHuntTrigger (t : Tree) (s : State) : Host.Outcome State Fault Refusal :=
  live s
    (match takeFirst s.mail.triggers (fun x => x == t) with
    | none => s
    | some (_, rest) =>
      let s := s.modMail fun m => { m with triggers := rest }
      if s.huntCanStart t then s.startHunt t else s)

end Sys2Proof.Machine
end

