-- ==== Sys2Proof/Machine/Tracking.lean ====
section
/-! DEFINITION. The delay tracker (spec/05 5.3, 5.4): a sample through its checks, the estimate and the correction, and
the report of a state change. The meanings of DELAY_SAMPLE and STATE_CHANGE_REPORT. -/

namespace Sys2Proof.Machine

/-! ## The estimate (R96) -/

/-- The sum of four samples without the first and the last in ascending order (R96). -/
def middleSum (a b c d : Int) : Int :=
  a + b + c + d - max (max a b) (max c d) - min (min a b) (min c d)

/-- Half the sum of the middle two, rounded toward zero (R96). -/
def estimateOf : List Int → Int
  | [a, b, c, d] => (middleSum a b c d).tdiv 2
  | _ => 0

/-! ## The checks (R94) -/

/-- The settle discards a sample of plan frame `n` (R94, step 3). -/
def State.settleDiscards (s : State) (k : Nat) (n : FrameNo) : Bool :=
  s.kept.any (Kept.isCorrection k) ||
    match (s.tracker k).mark with
    | .pending => true
    | .carried f => !atLeastAfter 4 f n
    | .none | .settled => false

/-- The tracker's own suspension of an ACTIVE record. The change is no news to the tracker, which takes its report in the
same step, so that every later sample is discarded at the state check (R94, R95; log entry 34). -/
def State.suspendByTracker (s : State) (k : Nat) : State :=
  if (s.record k).state = .active then (s.suspendFrom k .active).changesKnown (· == k) else s

/-- A correction from an estimate at or above the drift tolerance: SET_DELAY with e − estimate, or a suspension where
that leaves [0, Z] (R97). -/
def State.correct (s : State) (t : Tree) (k : Nat) (estimate : Int) : State :=
  let delay := ((s.record k).delay : Int) - estimate
  if 0 ≤ delay ∧ delay ≤ (s.engine t).params.z then s.offer t ⟨.setDelay k delay.toNat, .corrected⟩
  else s.suspendByTracker k

/-- A kept sample joins the set; the fourth makes the estimate and empties the set (R94 step 5, R96). -/
def State.keepSample (s : State) (t : Tree) (k : Nat) (delta : Int) : State :=
  let samples := (s.tracker k).samples ++ [delta]
  if samples.length < 4 then s.modTracker k fun x => { x with samples := samples }
  else
    let s := s.modTracker k fun x => { x with samples := [] }
    if ((s.engine t).params.driftTol : Int) ≤ |estimateOf samples| then s.correct t k (estimateOf samples) else s

/-- The tracker finds a record ACTIVE at the state check while it is. It also does where the sample met the record's leaving
ACTIVE and the report of that is still on its way: then the sample is taken first, and the roster discards what comes of it
(R94, R99; log entry 34). -/
def State.foundActive (s : State) (r : SampleReport) : Bool :=
  (s.record r.tag).state == .active ||
    (r.met && s.mail.changes.any fun x => x.tag == r.tag && x.before == .active && x.after != .vacant)

/-- A delay sample through the checks of R94, in order. -/
def State.takeSample (s : State) (r : SampleReport) : State :=
  if s.isRecordOf r.tree r.tag = false then s
  else if s.foundActive r = false then s
  else if s.settleDiscards r.tag r.frame then s
  else if ((s.engine r.tree).params.driftLim : Int) < |r.delta| then
    (s.modTracker r.tag fun x => { x with samples := [] }).suspendByTracker r.tag
  else s.keepSample r.tree r.tag r.delta

/-- DELAY_SAMPLE (R94 to R97, R99). -/
def execDelaySample (index : Nat) (s : State) : Host.Outcome State Fault Refusal :=
  live s
    (match takeNth s.mail.samples index with
    | none => s
    | some (r, rest) => (s.modMail fun m => { m with samples := rest }).takeSample r)

/-! ## State changes (R90) -/

/-- A record that left ACTIVE: its sample set empties and a kept correction is abandoned (R90). -/
def State.takeChange (s : State) (r : ChangeReport) : State :=
  if r.before = .active then
    (s.modTracker r.tag fun x => { x with samples := [] }).dropKept (Kept.isCorrection r.tag)
  else s

/-- STATE_CHANGE_REPORT (R90). -/
def execStateChangeReport (index : Nat) (s : State) : Host.Outcome State Fault Refusal :=
  live s
    (match takeNth s.mail.changes index with
    | none => s
    | some (r, rest) => (s.modMail fun m => { m with changes := rest }).takeChange r)

end Sys2Proof.Machine
end

