-- ==== Sys2Proof/Machine/Boundary.lean ====
section
/-! DEFINITION. The frame boundary (R1, R11) and what counts frames: tree state changes, the four places, dispatch and
its reports, the downstream frame, the promotion scan, the retry of kept directives. The meanings of FRAME_BOUNDARY,
DIRECTIVE_RETRY, OFFER_DELIVERED, SETTLE_MARK_SETTLED and DEPARTURE_CLEARS. -/

namespace Sys2Proof.Machine

/-! ## Marks that a frame count ends (R62, R76, R91) -/

/-- An offer sent 16 frames ago or more is delivered (R76). -/
def OfferState.age (x : OfferState) (now : FrameNo) : OfferState :=
  match x with
  | .sent f => if atLeastAfter 16 f now then .delivered else x
  | .none | .waiting | .delivered => x

/-- A mark carried 16 frames ago or more is settled (R91). -/
def SettleMark.age (x : SettleMark) (now : FrameNo) : SettleMark :=
  match x with
  | .carried f => if atLeastAfter 16 f now then .settled else x
  | .none | .pending | .settled => x

/-- A departure carried 5 frames ago or more has ended (R62). -/
def departedAge (x : Option FrameNo) (now : FrameNo) : Option FrameNo :=
  match x with
  | some f => if atLeastAfter 5 f now then none else x
  | none => none

/-- OFFER_DELIVERED (R76). -/
def execOfferDelivered (k : Nat) (s : State) : Host.Outcome State Fault Refusal :=
  live s (s.modRecord k fun r => { r with offer := r.offer.age s.frame })

/-- SETTLE_MARK_SETTLED (R91). -/
def execSettleMarkSettled (k : Nat) (s : State) : Host.Outcome State Fault Refusal :=
  live s (s.modTracker k fun x => { x with mark := x.mark.age s.frame })

/-- DEPARTURE_CLEARS (R62). -/
def execDepartureClears (k : Nat) (s : State) : Host.Outcome State Fault Refusal :=
  live s (s.modRecord k fun r => { r with departed := departedAge r.departed s.frame })

/-- Every mark whose count is over at the present frame (R62, R76, R91; log entry 5). -/
def State.ageMarks (s : State) : State :=
  { s with
    records := s.records.map fun r => { r with offer := r.offer.age s.frame, departed := departedAge r.departed s.frame }
    trackers := s.trackers.map fun x => { x with mark := x.mark.age s.frame } }

/-! ## Tree state changes (R4, R6, R165, R168) -/

/-- Every request of a list of links is answered. -/
def State.answerAll (s : State) (ls : List LinkId) (status : Status) : State :=
  ls.foldl (fun s l => s.answer l status .none) s

/-- The boundary where an enable takes effect (R4, R67, R164). -/
def State.enableTree (s : State) (t : Tree) : State :=
  let waiters := (s.engine t).enableWaiters
  let s := s.modEngine t fun e =>
    { e with
      state := .running
      enableWaiters := []
      planPrep := some (.emptyPlan s.frame false)
      compile := none
      places := Vector.replicate 4 none }
  let s := (s.modEnrol t fun e => { e with count := 0 }).raise .tree
  let s := if (s.engine t).cutInAsserted then s.modMail fun m => { m with cutIns := m.cutIns ++ [⟨t, true⟩] } else s
  s.answerAll waiters .ok

/-- The links whose kept RESTORE waits for a lane of a tree (R63). -/
def State.restoreLinks (s : State) (t : Tree) : List LinkId :=
  s.kept.filterMap fun x =>
    match x.entry.origin with
    | .restore l => if x.tree = t then some l else none
    | _ => none

/-- The records of a tree that a disable suspends (R6). -/
def RecState.served : RecState → Bool
  | .announced | .ranging | .active | .parked => true
  | _ => false

/-- The records of a tree at a disable, with the tracker's items of each (R6, R90). -/
def State.disableRecords (s : State) (t : Tree) : State :=
  let served := numbersWhere s.records fun _ r => r.state.served && r.tree == some t
  let s := served.foldl (fun s k => s.changeState k .suspended false) s
  let s := s.modRecords fun _ r =>
    if r.state ≠ .vacant ∧ r.tree = some t then { r with held := false, outstanding := 0 } else r
  let owned := numbersWhere s.records fun _ r => r.state != .vacant && r.tree == some t
  ((owned.foldl (fun s k => s.modTracker k fun _ => .reset) s).changesKnown owned.contains).modLoad t fun _ => .reset

/-- The hunt controller at a disable (R147). -/
def Hunt.atDisable (h : Hunt) (frame : FrameNo) : Hunt :=
  { Hunt.reset with outcome := if h.state = .idle then h.outcome else some (.disabled, frame) }

/-- The tree engine's own state at a disable (R6). -/
def Engine.atDisable (e : Engine) : Engine :=
  { Engine.reset with params := e.params, surplusPtr := e.surplusPtr, light := e.light, cutIn := e.cutIn }

/-- The boundary where a disable takes effect (R6, R63, R90, R129, R147). -/
def State.disableTree (s : State) (t : Tree) : State :=
  let waiters := (s.engine t).disableWaiters
  let restores := s.restoreLinks t
  let huntEnds := (s.hunt t).state != .idle
  let s := s.modEngine t (·.atDisable)
  let s := s.dropKept fun x => x.tree == t
  let s := s.disableRecords t
  let s := s.modEnrol t fun e => { e with queue := [], attempt := none }
  let s := (s.modHunt t (·.atDisable s.frame)).modLight t fun _ => .reset
  let s := s.raise .tree
  let s := if huntEnds then s.raise .tree else s
  (s.answerAll restores .state).answerAll waiters .ok

/-- The boundary where a tree enters CUT (R7, R87, R165). -/
def State.enterCut (s : State) (t : Tree) : State :=
  (((s.modEngine t fun e =>
    { e with state := .cut, planPrep := some (.emptyPlan s.frame true), compile := none }).modHunt t fun h =>
      { h with cutPending := false }).abandonRanging t).raise .tree

/-- The boundary where a resume takes effect (R168). -/
def State.leaveCut (s : State) (t : Tree) : State :=
  ((s.modEngine t fun e => { e with state := .running, resumePending := false }).emptyHistory t).raise .tree

/-- The tree state change due at a boundary; the mark says whether an enable took effect (R4 to R6, R165, R168). -/
def State.changeTree (s : State) (t : Tree) : State × Bool :=
  let e := s.engine t
  if e.disablePending then (s.disableTree t, false)
  else if e.enablePending then (s.enableTree t, true)
  else if e.state = .running ∧ (s.hunt t).cutPending = true then (s.enterCut t, false)
  else if e.state = .cut ∧ e.resumePending = true then (s.leaveCut t, false)
  else (s, false)

/-! ## Dispatch (R11, R122 to R124, R130) -/

/-- The outstanding grants of a record at a dispatch, saturating at 40,000 (R50, R122). -/
def DropRecord.grant (r : DropRecord) (payload : Nat) : DropRecord :=
  { r with outstanding := min 40000 (r.outstanding + payload) }

/-- One BURST entry of a dispatch report written by the roster controller (R122, R125). -/
def State.grantEntry (s : State) (t : Tree) (b : Burst) : State :=
  if s.isRecordOf t b.tag then s.modRecord b.tag (·.grant b.payload) else s

/-- What a dispatch report tells the tally unit, one report for each tag named (R123, R124). -/
def State.dispatchReports (s : State) (t : Tree) (x : Plan) : List DispatchReport :=
  if x.cutMark then
    (numbersWhere s.records fun _ r => r.state == .active && r.tree == some t).map fun k => ⟨t, k, 0, true, false⟩
  else
    x.entries.map (fun b => ⟨t, b.tag, b.payload, false, x.overList.contains b.tag⟩) ++
      x.withheld.map fun k => ⟨t, k, 0, true, false⟩

/-- The plan that a boundary dispatches: the plan in preparation (R11). -/
def State.planToDispatch (s : State) (t : Tree) : Plan :=
  (s.engine t).planPrep.getD (.emptyPlan s.frame ((s.engine t).state == .cut))

/-- Dispatch: the plan in preparation becomes the plan in force and joins the expectation list; the roster controller,
the tally unit and the light watch take or are sent its report (R11, R122 to R124, R130). -/
def State.dispatch (s : State) (t : Tree) : State :=
  let x := s.planToDispatch t
  let p := (s.engine t).params
  let s := s.modEngine t fun e =>
    { e with planForce := some x, planPrep := none, expect := e.expect ++ [⟨x, [], false, x.pulseGrains p⟩] }
  let s := x.entries.foldl (fun s b => s.grantEntry t b) s
  let s := s.modMail fun m => { m with dispatches := m.dispatches ++ s.dispatchReports t x }
  s.modLight t (·.enterPlan (tableEntry x p))

/-! ## Places (R15) -/

/-- A place is free when it is empty or its directive has been carried in the three frames before this one (R15). -/
def Place.free (p : Option Place) (now : FrameNo) : Bool :=
  match p with
  | none => true
  | some x => atLeastAfter 3 x.carriage now

/-- An ENROL_OFFER for a tag other than the one placed is kept or waits in the lane of its tree (R76). -/
def State.offerWaits (s : State) (t : Tree) (k : Nat) : Bool :=
  s.kept.any (Kept.isOffer k) || (s.engine t).normal.any fun x => x.dir.isOffer k

/-- The pending test frame once every round directive has been placed: the last carriage frame plus 3 (R155). -/
def Hunt.placedRound (h : Hunt) (d : Directive) (now : FrameNo) : Hunt :=
  let h := h.setRound d (.placed now)
  if h.roundDirs.all fun x => match x.status with | .placed _ => true | .waiting | .kept => false then
    { h with pendingTest := .frame (now + 3) }
  else h

/-- A placement reported to the directive's producer (R15, R62, R76, R91, R155). R76 leaves the offer state waiting at the
placement of an earlier offer where the newer is kept or waits in the lane too; one placed after the newer was abandoned
makes it sent (DESIGN CHOICE, log entry 36). -/
def State.placed (s : State) (t : Tree) (x : LaneEntry) : State :=
  match x.origin, x.dir with
  | .offer, .enrolOffer serial k _ =>
    let s := s.modTracker k (·.place s.frame)
    if s.isRecordOf t k ∧ (s.record k).serial = some serial ∧ (s.record k).offer = .waiting ∧
        s.offerWaits t k = false then
      s.modRecord k fun r => { r with offer := .sent s.frame }
    else s
  | _, .setDelay k _ => s.modTracker k (·.place s.frame)
  | _, .depart k => s.modRecord k fun r => { r with departed := some s.frame }
  | .huntRound, d => s.modHunt t (·.placedRound d s.frame)
  | _, _ => s

/-- One place filled at a boundary: a free place takes the head of the urgent lane, else of the normal lane, else stays
empty (R15). -/
def State.fillPlace (s : State) (t : Tree) (i : Fin 4) : State :=
  let e := s.engine t
  if Place.free e.places[i.val] s.frame then
    match e.urgent, e.normal with
    | x :: rest, _ =>
      (s.modEngine t fun e => { e with urgent := rest, places := e.places.set i.val (some ⟨x, s.frame⟩) }).placed t x
    | [], x :: rest =>
      (s.modEngine t fun e => { e with normal := rest, places := e.places.set i.val (some ⟨x, s.frame⟩) }).placed t x
    | [], [] => s.modEngine t fun e => { e with places := e.places.set i.val none }
  else s

/-- The four places, in ascending number (R15). -/
def State.fillPlaces (s : State) (t : Tree) : State := [0, 1, 2, 3].foldl (fun s i => s.fillPlace t i) s

/-! ## The downstream frame (R20, R40) -/

/-- The packets placed in a frame and those left in the queue; a packet whose record takes no data is discarded (R40). -/
def fillFrame (takes : Nat → Bool) : (used : Nat) → List Packet → List Packet × List Packet
  | _, [] => ([], [])
  | used, x :: rest =>
    if takes x.tag then
      if used + 4 + x.octets.length ≤ frameCapacity then
        let r := fillFrame takes (used + 4 + x.octets.length) rest
        (x :: r.1, r.2)
      else ([], x :: rest)
    else fillFrame takes used rest

/-- A record of the tree that takes downstream data (R40). -/
def State.takesDataOn (s : State) (t : Tree) (k : Nat) : Bool :=
  (s.record k).state.takesData && (s.record k).tree == some t

/-- A place as the header carries it: its directive with the copy number 1 to 3 (R20). -/
def Place.carried (now : FrameNo) (p : Option Place) : Option (Directive × Nat) :=
  p.map fun x => (x.entry.dir, (frameDist x.carriage now).toNat + 1)

/-- The downstream frame of a boundary, with the packets it places; each placement is reported to the tally unit (R20,
R40, R174). -/
def State.sendFrame (s : State) (t : Tree) : State :=
  let e := s.engine t
  let filled := fillFrame (s.takesDataOn t) 0 e.queue
  let x := (e.planForce.getD (.emptyPlan s.frame false))
  let s := s.modEngine t fun e =>
    { e with
      queue := filled.2
      down := some
        { frame := s.frame
          g := e.params.g
          p := e.params.p
          z := e.params.z
          window := x.window
          entries := x.entries
          places := e.places.toList.map (Place.carried s.frame)
          packets := filled.1 } }
  s.modMail fun m => { m with downs := m.downs ++ filled.1.map fun y => ⟨t, y.tag, y.octets.length⟩ }

/-! ## The promotion scan (R55) -/

/-- One PARKED record examined by the scan, H being 0 (R55). -/
def State.promote (s : State) (k : Nat) : State :=
  if s.fits (s.record k).treeNo (s.loadOf k) then s.changeState k .active false else s

/-- The promotion scan of a boundary, where H is above 0 or a scan is due (R55). -/
def State.promotionScan (s : State) (t : Tree) : State :=
  if 0 < (s.load t).release ∨ (s.load t).scanDue = true then
    let parked := numbersWhere s.records fun _ r => r.state == .parked && r.tree == some t
    parked.foldl (fun s k => s.promote k) (s.modLoad t fun l => { l with release := 0, scanDue := false })
  else s

/-! ## FRAME_BOUNDARY (R1, R11) -/

/-- The discovery count of a boundary (R67). -/
def Enrol.countUp (e : Enrol) : Enrol := { e with count := min 64 (e.count + 1) }

/-- What a boundary does for a tree that is RUNNING or CUT from it: R11 in order, the frame's packets, the promotion
scan, the discovery count, the next compile, and the retries that now fall due; an announce that nothing can overlap any more
is forgotten (R15, R16, R37, R40, R55, R67). R55 lets the reads of the compile that begins here fall before or after the
scan: the model begins it after the scan (DESIGN CHOICE, log entry 38). -/
def State.runTree (s : State) (t : Tree) (enabled : Bool) : State :=
  let s := s.modEngine t (·.forgetAnnounce s.frame)
  let s := ((s.dispatch t).fillPlaces t).sendFrame t
  let s := s.promotionScan t
  let s := if enabled then s else s.modEnrol t (·.countUp)
  let s := s.startCompile t (s.frame + 1)
  { s with kept := s.kept.map fun x => if x.tree = t then { x with due := true } else x }

/-- One tree at a boundary (R7, R11). -/
def State.boundaryTree (s : State) (t : Tree) : State :=
  let (s, enabled) := s.changeTree t
  if (s.engine t).state = .disabled then s else s.runTree t enabled

/-- The plans of a tree whose time to leave the list is over leave it (R26; log entry 5). -/
def State.leaveOverdue (s : State) (t : Tree) : State :=
  (s.engine t).expect.foldl (fun s _ => s.leavePlan t) s

/-- What had to come about before this boundary and has not (R12, R26, R62, R76, R91; log entry 5). A plan whose upstream
frame ends at the very step of the boundary, T_target being a multiple of 80,000, has not left the list by then: it leaves
after the boundary, or a disable of the boundary removes it undetermined (DESIGN CHOICE, log entry 41). -/
def State.finishFrame (s : State) : State :=
  let s := (s.advance lastStep).ageMarks
  [0, 1, 2, 3].foldl (fun s t => (s.completeCompile t).leaveOverdue t) s

/-- The next frame begins (R1). -/
def State.nextFrame (s : State) : State := { s with frame := s.frame + 1, stepOffset := 0 }

def State.boundary (s : State) : State := [0, 1, 2, 3].foldl (fun s t => s.boundaryTree t) s.finishFrame.nextFrame

/-- FRAME_BOUNDARY (R1, R4, R6, R7, R11, R15, R40, R55, R67, R107, R122 to R124, R130, R165, R168). -/
def execFrameBoundary (s : State) : Host.Outcome State Fault Refusal := live s s.boundary

/-! ## DIRECTIVE_RETRY (R16) -/

/-- Every state change in flight reaches the tracker before it offers a kept correction again (R98). -/
def State.takeAllChanges (s : State) : State :=
  s.mail.changes.foldl (fun s r => s.takeChange r) (s.modMail fun m => { m with changes := [] })

/-- A kept directive that its producer abandons in place of offering it again (R76, R85). -/
def State.abandons (s : State) (x : Kept) : Bool :=
  match x.entry.origin, x.entry.dir with
  | .offer, .enrolOffer serial k _ =>
    !((s.record k).state == .announced && (s.record k).tree == some x.tree && (s.record k).serial == some serial)
  | .ranged, .setDelay k _ => !((s.record k).state == .ranging && (s.record k).tree == some x.tree)
  | _, _ => false

/-- A kept directive of a producer for a tree. -/
def Kept.ofProducer (t : Tree) (p : Producer) (x : Kept) : Bool := x.tree == t && x.entry.origin.producer == p

/-- The first kept directive of a producer for a tree whose offer is still to be made is offered again: abandoned,
accepted, or kept for the boundary after (R16). One refused again holds back those behind it. -/
def State.retryOne (s : State) (t : Tree) (p : Producer) : State :=
  match s.kept.findIdx? fun x => x.ofProducer t p && x.due with
  | none => s
  | some i =>
    match s.kept[i]? with
    | none => s
    | some x =>
      let taken := { s with kept := s.kept.eraseIdx i }
      if (s.engine t).state = .disabled ∨ s.abandons x = true then taken
      else if (s.engine t).laneFull x.entry.dir ∨ (s.kept.take i).any (·.ofProducer t p) = true then
        { s with kept := s.kept.set i { x with due := false } }
      else taken.acceptEntry t x.entry

/-- A producer offers again, in order, the directives that a full lane refused, and after them any that their acceptance
has it make: at most one each, the DEPART of a RESTORE (R16, R63). -/
def State.retry (s : State) (t : Tree) (p : Producer) : State :=
  let s := if p = .tracker then s.takeAllChanges else s
  (s.kept ++ s.kept).foldl (fun s _ => s.retryOne t p) s

/-- DIRECTIVE_RETRY (R14, R16). -/
def execDirectiveRetry (t : Tree) (p : Producer) (s : State) : Host.Outcome State Fault Refusal :=
  live s (s.retry t p)

end Sys2Proof.Machine
end

