-- ==== Sys2Proof/Machine/Enrolment.lean ====
section
/-! DEFINITION. The enrolment unit (spec/04): discovery reports, announcements, the stranger list, the ends of discovery
windows, and ranging attempts. The meanings of DISCOVERY_REPORT, DISCOVERY_WINDOW_END and RANGING_ATTEMPT_REPORT. -/

namespace Sys2Proof.Machine

/-! ## What a window has held (R70) -/

/-- What the window of a frame has held so far. -/
def Enrol.noteOf (e : Enrol) (frame : FrameNo) : WindowNote := (e.notes.find? (·.frame == frame)).getD ⟨frame, false, false⟩

def Enrol.setNote (e : Enrol) (x : WindowNote) : Enrol := { e with notes := e.notes.filter (·.frame != x.frame) ++ [x] }

def Enrol.noteCollision (e : Enrol) (frame : FrameNo) : Enrol := e.setNote { e.noteOf frame with collision := true }
def Enrol.noteAnnounced (e : Enrol) (frame : FrameNo) : Enrol := e.setNote { e.noteOf frame with announced := true }

/-- The interval after a window (R70). -/
def nextInterval (d dMax : Nat) (x : WindowNote) : Nat :=
  if x.collision then max 4 (d / 2) else if x.announced then d else min dMax (2 * d)

/-! ## The stranger list (R77 to R79) -/

def Stranger.isOf (serial : Serial) (t : Tree) (x : Stranger) : Bool := x.serial == serial && x.tree == t

/-- An entry updated by a later announcement (R77). -/
def Stranger.seenAgain (x : Stranger) (reason : StrangerReason) (frame : FrameNo) (seqNo : Nat) (delta : Int) : Stranger :=
  { x with
    reason := reason
    lastSeen := frame
    seenInDiscovery := seqNo
    times := min 255 (x.times + 1)
    lastDelta := delta }

/-- An announcement entered in the stranger list: it updates its entry, takes the lowest empty position and latches
STRANGER, or is dropped (R77). -/
def State.enterStranger (s : State) (t : Tree) (frame : FrameNo) (serial : Serial) (reason : StrangerReason)
    (delta : Int) : State :=
  let seqNo := (s.enrol t).seqNo
  match s.strangers.toList.findIdx? (fun x => (x.map (Stranger.isOf serial t)).getD false) with
  | some i =>
    { s with strangers := updateAt s.strangers (i + 1) (fun x => x.map (·.seenAgain reason frame seqNo delta)) }
  | none =>
    match s.strangers.toList.findIdx? (·.isNone) with
    | some i =>
      { s with
        strangers := updateAt s.strangers (i + 1) (fun _ => some ⟨serial, t, reason, frame, frame, seqNo, 1, delta⟩)
      }.raise .stranger
    | none => s

/-- Every stranger entry that passes a test is removed. -/
def State.dropStrangers (s : State) (test : Stranger → Bool) : State :=
  { s with strangers := s.strangers.map fun x => x.filter fun y => !test y }

/-- An entry of the tree seen 64 or more discovery frames ago (R78). -/
def Stranger.aged (t : Tree) (seqNo : Nat) (x : Stranger) : Bool :=
  x.tree == t && decide (64 ≤ (seqNo + 65536 - x.seenInDiscovery) % 65536)

/-! ## Offers (R76) -/

/-- An ENROL_OFFER produced: the offer state is waiting; it replaces a kept offer of the record in its place, and is
offered otherwise (R76). R76 says so of a refresh; a kept offer whose record left ANNOUNCED and entered it again before the
retry is replaced in the same way (DESIGN CHOICE, log entry 30). -/
def State.produceOffer (s : State) (t : Tree) (k : Nat) (serial : Serial) (delay : Nat) : State :=
  let x : LaneEntry := ⟨.enrolOffer serial k delay, .offer⟩
  let s := s.modRecord k fun r => { r with offer := .waiting }
  if s.kept.any (Kept.isOffer k) then
    { s with kept := s.kept.map fun y => if y.isOffer k then { y with tree := t, entry := x } else y }
  else s.offer t x

/-! ## Announcements (R71 to R75) -/

/-- A VACANT record filled for a serial (R57, R58). -/
def DropRecord.filled (r : DropRecord) (state : RecState) (serial : Serial) (t : Tree) (profile : Nat)
    (provisioned : Bool) : DropRecord :=
  { DropRecord.vacant with
    state := state
    serial := some serial
    tree := some t
    profile := profile
    provisioned := provisioned
    departed := r.departed }

/-- A VACANT record taken for a serial, whole: filled, entered into its first state and reported. Reports of the tree engines
that still name the tag are of bursts planned for an earlier record of it, and are discarded (R36, R42, R45, R48, R57,
R58). -/
def State.newRecord (s : State) (t : Tree) (k : Nat) (state : RecState) (serial : Serial) (profile : Nat)
    (byRequest : Bool) : State :=
  (((s.modMail (·.release k)).modRecord k (·.filled state serial t profile byRequest)).enterState t k state).reportChange k
    .vacant state byRequest

/-- An announcement taken against a record: the offer, and the removal of the stranger entry (R74, R75, R79). -/
def State.takeAgainst (s : State) (t : Tree) (k : Nat) (serial : Serial) (delay : Nat) : State :=
  (s.produceOffer t k serial delay).dropStrangers (Stranger.isOf serial t)

/-- A record created by an announcement in AUTO mode (R58, R75). -/
def State.createRecord (s : State) (t : Tree) (k : Nat) (serial : Serial) (delay : Nat) : State :=
  (s.newRecord t k .announced serial 0 false).takeAgainst t k serial delay

/-- A known serial announced on its record's tree, by the record's state (R74). -/
def State.announceKnown (s : State) (t : Tree) (frame : FrameNo) (k : Nat) (serial : Serial) (delay : Nat) : State :=
  match (s.record k).state with
  | .rogue => s.tellLight t frame (.wrongSlot (some k))
  | .expected | .suspended | .announced | .ranging | .active | .parked =>
    (s.changeState k .announced false).takeAgainst t k serial delay
  | .vacant | .retired => s

/-- An unknown serial, by the enrolment mode (R75). -/
def State.announceUnknown (s : State) (t : Tree) (frame : FrameNo) (serial : Serial) (delta : Int) (delay : Nat) : State :=
  match (s.enrol t).mode with
  | .auto =>
    match s.allocate t with
    | .tag k => s.createRecord t k serial delay
    | .treeFull => s.enterStranger t frame serial .treeFull delta
    | .poolFull => s.enterStranger t frame serial .poolFull delta
  | .opened | .closed => s.enterStranger t frame serial .unknown delta

/-- The announce sample δ = s − (z + P) × 8 (R71). -/
def announceSample (offset stagger preambleGrains : Nat) : Int := (offset : Int) - ((stagger + preambleGrains) * 8 : Nat)

/-- An announcement: the zone first, then the lookup (R71 to R75). -/
def State.announcement (s : State) (t : Tree) (frame : FrameNo) (offset : Nat) (serial : Serial) (stagger : Nat) : State :=
  let p := (s.engine t).params
  let delta := announceSample offset stagger p.p
  if delta < 0 ∨ (p.z : Int) < delta then s.enterStranger t frame serial .outOfZone delta
  else
    let delay := ((p.z : Int) - delta).toNat
    match s.lookup serial with
    | none => s.announceUnknown t frame serial delta delay
    | some k =>
      if (s.record k).tree = some t then s.announceKnown t frame k serial delay
      else s.tellLight t frame (.duplicate k serial)

/-! ## Discovery reports and window ends (R69, R70) -/

/-- A report of a discovery window sorted into announcement, collision or misdirected burst (R69). -/
def State.takeDiscovery (s : State) (t : Tree) (frame : FrameNo) (body : DiscoveryBody) : State :=
  match body with
  | .announce offset serial stagger false =>
    (s.modEnrol t (·.noteAnnounced frame)).announcement t frame offset serial stagger
  | .plain k false => s.tellLight t frame (if s.isRecordOf t k then .wrongSlot (some k) else .stray)
  | .announce _ _ _ true | .plain _ true | .badHeader _ | .cutShort => s.modEnrol t (·.noteCollision frame)
  | .windowEnd => s

/-- The end of a discovery window: the interval, then the ageing of the tree's strangers (R70, R78). -/
def State.endDiscovery (s : State) (t : Tree) (frame : FrameNo) : State :=
  let dMax := (s.engine t).params.d
  let s := s.modEnrol t fun e =>
    { e with d := nextInterval e.d dMax (e.noteOf frame), notes := e.notes.filter (·.frame != frame) }
  s.dropStrangers (Stranger.aged t (s.enrol t).seqNo)

/-- The oldest message of a tree's discovery windows in flight, and the state without it. -/
def State.takeDiscoveryMsg (s : State) (t : Tree) : Option (DiscoveryMsg × State) :=
  (takeFirst s.mail.discovery (fun r => r.tree == t)).map fun x =>
    (x.1, s.modMail fun m => { m with discovery := x.2 })

/-- DISCOVERY_REPORT: the oldest message of the tree, where it is a report, is taken (R69, R71 to R77). -/
def execDiscoveryReport (t : Tree) (s : State) : Host.Outcome State Fault Refusal :=
  live s
    (match s.takeDiscoveryMsg t with
    | none => s
    | some (m, next) => if m.body = .windowEnd then s else next.takeDiscovery t m.frame m.body)

/-- DISCOVERY_WINDOW_END: the oldest message of the tree, where it is a window end, is taken; every report of the window
has then been taken (R70, R78). -/
def execDiscoveryWindowEnd (t : Tree) (s : State) : Host.Outcome State Fault Refusal :=
  live s
    (match s.takeDiscoveryMsg t with
    | none => s
    | some (m, next) => if m.body = .windowEnd then next.endDiscovery t m.frame else s)

/-! ## Ranging attempts (R84 to R86) -/

/-- The acceptance bound 8 × (E − P − 3) (R84). -/
def TreeParams.rangingBound (p : TreeParams) : Nat := 8 * (p.wr / 2 - p.p - 3)

/-- A failed attempt; the third suspends the record (R86). -/
def State.rangingFailed (s : State) (t : Tree) (k : Nat) : State :=
  let s := (s.modEnrol t fun e => { e with attempt := none }).modRecord k fun r =>
    { r with rangeAttempts := min 3 (r.rangeAttempts + 1) }
  if 3 ≤ (s.record k).rangeAttempts then s.suspendFrom k .ranging else s

/-- An accepted attempt: the fine delay e − δ offered, or a failure where it leaves [0, Z] (R85). -/
def State.rangingAccepted (s : State) (t : Tree) (k : Nat) (delta : Int) : State :=
  let delay := ((s.record k).delay : Int) - delta
  if 0 ≤ delay ∧ delay ≤ (s.engine t).params.z then
    (s.modEnrol t fun e => { e with attempt := none }).offer t ⟨.setDelay k delay.toNat, .ranged⟩
  else s.rangingFailed t k

/-- The first report of the window of an unresolved attempt resolves it; any other report is discarded (R84, R87,
R88). -/
def State.takeRanging (s : State) (t : Tree) (m : RangingMsg) : State :=
  if (s.enrol t).attempt = some m.frame then
    match m.body with
    | .capture _ delta header =>
      if header.map (·.1) = some m.rangeTag ∧ |delta| ≤ (s.engine t).params.rangingBound then s.rangingAccepted t m.rangeTag delta
      else s.rangingFailed t m.rangeTag
    | .windowEnd true => s.rangingFailed t m.rangeTag
    | .windowEnd false => s
  else s

/-- RANGING_ATTEMPT_REPORT: the oldest message of the tree's ranging windows in flight is taken (R84 to R86). -/
def execRangingAttemptReport (t : Tree) (s : State) : Host.Outcome State Fault Refusal :=
  live s
    (match takeFirst s.mail.ranging (fun r => r.tree == t) with
    | none => s
    | some (m, rest) => (s.modMail fun x => { x with ranging := rest }).takeRanging t m)

end Sys2Proof.Machine
end

