-- ==== Sys2Proof/Machine/HuntRounds.lean ====
section
/-! DEFINITION. The verdicts, counts and rounds of a hunt (spec/08 8.3 to 8.7). The meaning of DARK_WINDOW_END. -/

namespace Sys2Proof.Machine

/-! ## Suspects (R153) -/

/-- The states in which a record is a suspect (R153). -/
def RecState.suspect : RecState → Bool
  | .announced | .active | .parked | .suspended | .rogue => true
  | .vacant | .expected | .ranging | .retired => false

/-- The suspects of a tree in a range, in ascending tag order (R153). -/
def State.suspectsIn (s : State) (t : Tree) (lo hi : Nat) : List Nat :=
  numbersWhere s.records fun k r => r.state.suspect && r.tree == some t && decide (lo ≤ k) && decide (k ≤ hi)

/-! ## Rounds (R154, R155, R157) -/

/-- The directives that turn a hold range into [lo, m], in the order offered (R154). -/
def roundDirectives (hold : Option (Nat × Nat)) (lo m : Nat) : List Directive :=
  match hold with
  | none => [.laserHold lo m]
  | some (a, b) =>
    if b < lo then [.laserRelease a b, .laserHold lo m]
    else if m < b then [.laserRelease (m + 1) b]
    else if m = b then []
    else [.laserRelease a b, .laserHold lo m]

/-- A round begins: its directives are produced and offered in order; with none, its test is due at once (R154, R155). -/
def State.beginRound (s : State) (t : Tree) (lo m : Nat) : State :=
  let dirs := roundDirectives (s.hunt t).hold lo m
  let s := s.modHunt t fun h =>
    { h with
      round := min 255 (h.round + 1)
      roundDirs := dirs.map fun d => ⟨d, .waiting⟩
      pendingTest := if dirs.isEmpty then .atOnce else .absent }
  dirs.foldl (fun s d => s.offer t ⟨d, .huntRound⟩) s

/-! ## Endings (R159, R160) -/

/-- A hunt that ends UNRESOLVED (R160, R161). -/
def State.endUnresolved (s : State) (t : Tree) (test : FrameNo) : State :=
  ((((s.endHunt t .unresolved).modHunt t fun h => { h with cutPending := true }).tellLight t test
    (.hunt .huntUnresolved))).offerRelease t

/-- A hunt that ends ISOLATED (R159, R161). -/
def State.endIsolated (s : State) (t : Tree) (k : Nat) (serial : Option Serial) (test : FrameNo) : State :=
  ((s.endHunt t .isolated).offer t ⟨.laserShut k, .huntShut serial test⟩).offerRelease t

/-- A hunt that ends CLEARED (R152, R161). -/
def State.endCleared (s : State) (t : Tree) (test : FrameNo) : State :=
  (s.endHunt t .cleared).tellLight t test (.hunt .huntCleared)

/-! ## The count (R153) -/

/-- The suspects in a range are counted, and the hunt ends UNRESOLVED, enters VERIFYING or begins a split round. At the
count that follows confirmation the low end is first raised to the first suspect (R153). -/
def State.countSuspects (s : State) (t : Tree) (lo hi : Nat) (first : Bool) (test : FrameNo) : State :=
  let suspects := s.suspectsIn t lo hi
  let n := suspects.length
  match suspects with
  | [] => (s.modHunt t fun h => { h with count := 0 }).endUnresolved t test
  | s1 :: _ =>
    let low := if first then s1 else lo
    if n = 1 then
      (s.modHunt t fun h =>
        { h with
          state := .verifying
          suspects := some (low, hi)
          count := n
          verified := some (s1, (s.record s1).serial) }).beginRound t low s1
    else
      (s.modHunt t fun h => { h with state := .splitting, suspects := some (low, hi), count := n }).beginRound t low
        (suspects.getD ((n + 1) / 2 - 1) s1)

/-! ## Verdicts (R151, R152, R156, R158) -/

/-- The verdict of a confirming test (R152). -/
def State.confirmingVerdict (s : State) (t : Tree) (test : FrameNo) (lit : Bool) : State :=
  if lit = false then s.endCleared t test
  else if (s.hunt t).firstLit then s.countSuspects t 1 256 true test
  else s.modHunt t fun h => { h with firstLit := true }

/-- The verdict of a split round's test, with m the last suspect held (R156). -/
def State.splitVerdict (s : State) (t : Tree) (test : FrameNo) (lit : Bool) : State :=
  let range := (s.hunt t).suspects.getD (1, 256)
  let m := ((s.hunt t).hold.map (·.2)).getD range.1
  if lit then s.countSuspects t (m + 1) range.2 false test else s.countSuspects t range.1 m false test

/-- The verdict of the verification test (R158). -/
def State.verifyVerdict (s : State) (t : Tree) (test : FrameNo) (lit : Bool) : State :=
  match (s.hunt t).verified with
  | some (k, serial) => if lit then s.endUnresolved t test else s.endIsolated t k serial test
  | none => s.endUnresolved t test

/-- A verdict taken by the rule for the hunt state (R151). -/
def State.takeVerdict (s : State) (t : Tree) (test : FrameNo) (lit : Bool) : State :=
  match (s.hunt t).state with
  | .idle => s
  | .confirming => s.confirmingVerdict t test lit
  | .splitting => s.splitVerdict t test lit
  | .verifying => s.verifyVerdict t test lit

/-- The end of the DARK window of a frame: where the frame is a test in flight it leaves them and its verdict is taken;
otherwise the end is discarded (R151). -/
def State.darkEnd (s : State) (t : Tree) (frame : FrameNo) : State :=
  match (s.hunt t).tests.find? fun x => x.frame == frame with
  | none => s
  | some x => (s.modHunt t fun h => { h with tests := h.tests.filter fun y => y.frame != frame }).takeVerdict t frame x.lit

/-- DARK_WINDOW_END: the oldest window end of the tree in flight is taken (R151 to R160). -/
def execDarkWindowEnd (t : Tree) (s : State) : Host.Outcome State Fault Refusal :=
  live s
    (match takeFirst s.mail.darkEnds (fun r => r.tree == t) with
    | none => s
    | some (r, rest) => (s.modMail fun m => { m with darkEnds := rest }).darkEnd t r.frame)

end Sys2Proof.Machine
end

