-- ==== Sys2Proof/Machine/Operands.lean ====
section
/-! DEFINITION. The operands of the requests: the numbers that name a tree or a tag (R191), the clamping of parameter and
profile values (R8, R53), and the modes and settings with a fixed set of values. -/

namespace Sys2Proof.Machine

/-- A tree number 0 to 3 (R191). -/
def treeOf (n : Nat) : Option Tree := if h : n < 4 then some ⟨n, h⟩ else none

/-- A tag 1 to 256 (R191). -/
def tagOf (n : Nat) : Option Nat := if 1 ≤ n ∧ n ≤ 256 then some n else none

/-- A value clamped to the nearest limit of its range (R8, R53). -/
def clamp (lo hi n : Nat) : Nat := max lo (min hi n)

/-- A named value clamped, or the value in force. -/
def named (lo hi : Nat) (value : Option Nat) (inForce : Nat) : Nat :=
  match value with
  | some n => clamp lo hi n
  | none => inForce

/-- Whether a named value lies outside its range. -/
def outside (lo hi : Nat) : Option Nat → Bool
  | some n => decide (n < lo) || decide (hi < n)
  | none => false

/-- Auto-hunt 1 for on and 0 for off, cut polarity 0 or 1; a two-valued parameter of any other value has none (R8,
R205). -/
def twoValued (value : Option Nat) (inForce : Bool) : Option Bool :=
  match value with
  | none => some inForce
  | some 0 => some false
  | some 1 => some true
  | some _ => none

def CutPolarity.bit : CutPolarity → Bool
  | .highWhenCut => false
  | .lowWhenCut => true

def CutPolarity.ofBit : Bool → CutPolarity
  | false => .highWhenCut
  | true => .lowWhenCut

/-- Whether a selection names no value (R8, R53). -/
def emptySelection (values : List (Option Nat)) : Bool := values.all (·.isNone)

/-- The parameter set that a SET_TREE leaves in force, and whether a value was clamped; none where auto-hunt or cut
polarity has a value outside its two (R8). -/
def TreeParams.set (p : TreeParams) (v : TreeValues) : Option (TreeParams × Bool) :=
  match twoValued v.autoHunt p.autoHunt, twoValued v.cutPol p.cutPol.bit with
  | some autoHunt, some cutPol =>
    some
      ({ tTarget := named 50000 262143 v.tTarget p.tTarget
         z := named 1000 50000 v.z p.z
         g := named 4 32 v.g p.g
         p := named 2 16 v.p p.p
         k := named 0 6000 v.k p.k
         d := named 4 64 v.d p.d
         wr := named 64 512 v.wr p.wr
         wd := named 32 2000 v.wd p.wd
         driftTol := named 1 64 v.driftTol p.driftTol
         driftLim := named 8 256 v.driftLim p.driftLim
         tailTol := named 1 16 v.tailTol p.tailTol
         strikeLim := named 1 15 v.strikeLim p.strikeLim
         autoHunt := autoHunt
         cutPol := .ofBit cutPol },
       outside 50000 262143 v.tTarget || outside 1000 50000 v.z || outside 4 32 v.g || outside 2 16 v.p ||
       outside 0 6000 v.k || outside 4 64 v.d || outside 64 512 v.wr || outside 32 2000 v.wd ||
       outside 1 64 v.driftTol || outside 8 256 v.driftLim || outside 1 16 v.tailTol || outside 1 15 v.strikeLim)
  | _, _ => none

/-- The six values that a SET_PROFILE asks for, and whether one was clamped (R53). -/
def Profile.set (p : Profile) (v : ProfileValues) : Profile × Bool :=
  ({ f := named 0 4000 v.f p.f
     a := named 0 4000 v.a p.a
     m := named 1 8000 v.m p.m
     w := named 1 15 v.w p.w
     mt := named 1 8000 v.mt p.mt
     q := named 0 65535 v.q p.q },
   outside 0 4000 v.f || outside 0 4000 v.a || outside 1 8000 v.m || outside 1 15 v.w || outside 1 8000 v.mt ||
   outside 0 65535 v.q)

/-- Enrolment modes as SET_ENROLMENT carries them (R66, R205). -/
def enrolModeOf : Nat → Option EnrolMode
  | 0 => some .closed
  | 1 => some .opened
  | 2 => some .auto
  | _ => none

/-- The classes of the request catalogue (10.6). -/
inductive RequestClass where
  | read
  | control
  | tally
deriving DecidableEq, Repr

/-- Whether a role may send a request of a class (R186, R191). -/
def Role.allows : Role → RequestClass → Bool
  | .off, _ => false
  | _, .read => true
  | .control, .control => true
  | .tally, .tally => true
  | _, _ => false

end Sys2Proof.Machine
end

