-- ==== Sys2Proof/Machine/Links.lean ====
section
/-! DEFINITION. The management links (spec/10 10.2, 10.3): what a write transaction does to its link, the checks of a
request, and the transactions that are no request. The meanings of WRITE_DISCARDED, READ_TRANSACTION and
DISREGARDED_TRANSACTION. -/

namespace Sys2Proof.Machine

/-! ## Transactions (R186 to R190, R205, R206) -/

/-- A transaction on an active link. An OFF link ignores it; one whose chip select was already asserted at release is
disregarded whole (R186, R206). -/
def State.transaction (s : State) (l : LinkId) (next : State) : State :=
  if (s.link l).active = false then s
  else if (s.link l).straddling then s.modLink l fun x => { x with straddling := false, sdo := .notDriven }
  else next

/-- A write on a BUSY link is discarded, with its marker (R189). -/
def Link.discardWrite (l : Link) : Link := { l with discarded := true, sdo := .zeros }

/-- A write taken: its frame enters the request slot, the response slot empties, the marker clears, the link is BUSY
(R188). -/
def Link.takeRequest (l : Link) (r : Request) : Link :=
  { l with state := .busy, request := some r, response := none, discarded := false, sdo := .zeros }

/-- A write transaction that carries a request frame: discarded on a BUSY link, taken and served on any other (R188,
R189). -/
def State.write (s : State) (l : LinkId) (r : Request) (serve : State → State) : State :=
  s.transaction l
    (if (s.link l).state = .busy then s.modLink l Link.discardWrite
    else serve (s.modLink l (·.takeRequest r)))

/-- What a read transaction returns by the link state (R190, R205). -/
def Link.readFrame (l : Link) : List Byte :=
  match l.state, l.response with
  | .ready, some r => r.octets
  | _, _ => [pendingMarker]

/-- WRITE_DISCARDED: a write on a BUSY link; no effect on a link that is not BUSY, where a write is taken (R189). -/
def execWriteDiscarded (l : LinkId) (s : State) : Host.Outcome State Fault Refusal :=
  live s (s.transaction l (if (s.link l).state = .busy then s.modLink l Link.discardWrite else s))

/-- READ_TRANSACTION (R190, R205). A read consumes nothing. -/
def execReadTransaction (l : LinkId) (clocked : Nat) (s : State) : Host.Outcome State Fault Refusal :=
  live s
    (s.transaction l (s.modLink l fun x => { x with sdo := .octets (clockedOctets (s.link l).readFrame clocked) }))

/-- DISREGARDED_TRANSACTION: the link stays as it stands and its output is not driven (R205). A command octet of 16 or 32
is no such transaction. -/
def execDisregardedTransaction (l : LinkId) (command : Nat) (s : State) : Host.Outcome State Fault Refusal :=
  live s
    (if command = 16 ∨ command = 32 then s else s.transaction l (s.modLink l fun x => { x with sdo := .notDriven }))

/-! ## Checks of a request (R191) -/

/-- A request of a class: DENIED where the role of its link does not allow it (R191, R201). -/
def State.checkRole (s : State) (l : LinkId) (cls : RequestClass) (serve : State) : State :=
  if (s.link l).role.allows cls then serve else s.answer l .denied .none

/-- A request that names a tree: BAD_REQUEST above 3 (R191). -/
def State.withTree (s : State) (l : LinkId) (tree : Nat) (serve : Tree → State) : State :=
  match treeOf tree with
  | some t => serve t
  | none => s.answer l .badRequest .none

/-- A request that names a tag: BAD_REQUEST outside 1 to 256 (R191). -/
def State.withTag (s : State) (l : LinkId) (tag : Nat) (serve : Nat → State) : State :=
  match tagOf tag with
  | some k => serve k
  | none => s.answer l .badRequest .none

/-- A request that needs a record: NO_RECORD for a VACANT tag (3.7). -/
def State.needRecord (s : State) (l : LinkId) (k : Nat) (serve : State) : State :=
  if (s.record k).state = .vacant then s.answer l .noRecord .none else serve

/-- A request as it stands in the request slot (R188). -/
def requestOf (i : Instr) : Request := ⟨i.requestCode, BitVec.ofNat 8 i.requestSeq, i.requestFrame⟩

/-- A request with its class: written, checked for role, served (R188, R191, R192). -/
def State.request (s : State) (l : LinkId) (i : Instr) (cls : RequestClass) (serve : State → State) : State :=
  s.write l (requestOf i) fun s => s.checkRole l cls (serve s)

end Sys2Proof.Machine
end

