-- ==== Sys2Proof/Machine/ReqEnrol.lean ====
section
/-! DEFINITION. The requests that the enrolment unit and the delay tracker own: SET_ENROLMENT, READ_ENROLMENT,
DISMISS_STRANGER, READ_STRANGER and READ_TRACKING (R66, R79, R80, R89, R104). -/

namespace Sys2Proof.Machine

def State.serveSetEnrolment (s : State) (l : LinkId) (t : Tree) (mode : Nat) : State :=
  match enrolModeOf mode with
  | some m => (s.modEnrol t fun e => { e with mode := m }).answer l .ok (.mode m)
  | none => s.answer l .badRequest .none

def State.reqSetEnrolment (l : LinkId) (seq tree mode : Nat) (s : State) : State :=
  s.request l (.setEnrolment l seq tree mode) .control fun s =>
    s.withTree l tree fun t => s.serveSetEnrolment l t mode

/-- SET_ENROLMENT (R66). -/
def execSetEnrolment (l : LinkId) (seq tree mode : Nat) (s : State) : Host.Outcome State Fault Refusal :=
  live s (s.reqSetEnrolment l seq tree mode)

/-- The ranging in progress as READ_ENROLMENT returns it (R89). -/
def State.rangingView (s : State) (t : Tree) : Option (Option FrameNo × Bool) :=
  match (s.enrol t).queue with
  | k :: _ =>
    if (s.record k).state = .ranging then some ((s.enrol t).attempt, s.kept.any (Kept.isRanged k)) else none
  | [] => none

/-- What READ_ENROLMENT returns (R89). -/
def State.enrolView (s : State) (t : Tree) : EnrolView :=
  let e := s.enrol t
  { mode := e.mode
    dMax := (s.engine t).params.d
    d := e.d
    count := e.count
    seqNo := e.seqNo
    lastDiscovery := e.lastDiscovery
    queue := e.queue.map fun k => ⟨k, (s.record k).state, (s.record k).rangeAttempts, (s.record k).offer⟩
    inProgress := s.rangingView t
    strangers := (s.strangers.toList.filterMap id).countP fun x => x.tree == t }

def State.reqReadEnrolment (l : LinkId) (seq tree : Nat) (s : State) : State :=
  s.request l (.readEnrolment l seq tree) .read fun s =>
    s.withTree l tree fun t => s.answer l .ok (.enrolment (s.enrolView t))

/-- READ_ENROLMENT (R89). -/
def execReadEnrolment (l : LinkId) (seq tree : Nat) (s : State) : Host.Outcome State Fault Refusal :=
  live s (s.reqReadEnrolment l seq tree)

/-- Position `n` of the stranger list, 0 to 15 (R77). -/
def State.stranger (s : State) (n : Nat) : Option Stranger := readAt s.strangers (n + 1) none

def State.serveDismiss (s : State) (l : LinkId) (index : Nat) : State :=
  if 16 ≤ index then s.answer l .badRequest .none
  else
    match s.stranger index with
    | some x => { s with strangers := updateAt s.strangers (index + 1) fun _ => none }.answer l .ok (.stranger x)
    | none => s.answer l .noData .none

def State.reqDismissStranger (l : LinkId) (seq index : Nat) (s : State) : State :=
  s.request l (.dismissStranger l seq index) .control fun s => s.serveDismiss l index

/-- DISMISS_STRANGER (R79). -/
def execDismissStranger (l : LinkId) (seq index : Nat) (s : State) : Host.Outcome State Fault Refusal :=
  live s (s.reqDismissStranger l seq index)

/-- The entries of the stranger list with their positions, ascending (R80). -/
def State.strangerEntries (s : State) : List (Nat × Stranger) :=
  s.strangers.toList.zipIdx.filterMap fun x => x.1.map fun y => (x.2, y)

def State.reqReadStranger (l : LinkId) (seq : Nat) (s : State) : State :=
  s.request l (.readStranger l seq) .read fun s =>
    s.answer l .ok (.strangers s.strangerEntries (16 - s.strangerEntries.length))

/-- READ_STRANGER (R80). -/
def execReadStranger (l : LinkId) (seq : Nat) (s : State) : Host.Outcome State Fault Refusal :=
  live s (s.reqReadStranger l seq)

/-- The delay of the kept correction of a record (R98, R104). -/
def State.keptCorrection (s : State) (k : Nat) : Option Nat :=
  (s.kept.find? (Kept.isCorrection k)).bind fun x =>
    match x.entry.dir with
    | .setDelay _ delay => some delay
    | _ => none

/-- What READ_TRACKING returns (R104). -/
def State.trackingView (s : State) (k : Nat) : TrackingView :=
  let r := s.record k
  let p := (s.engine r.treeNo).params
  let x := s.tracker k
  { state := r.state
    delay := r.delay
    missRun := r.missRun
    tree := r.tree
    driftTol := p.driftTol
    driftLim := p.driftLim
    samples := x.samples
    mark := x.mark
    cause := x.cause
    kept := s.keptCorrection k }

def State.reqReadTracking (l : LinkId) (seq tag : Nat) (s : State) : State :=
  s.request l (.readTracking l seq tag) .read fun s =>
    s.withTag l tag fun k => s.needRecord l k (s.answer l .ok (.tracking (s.trackingView k)))

/-- READ_TRACKING (R104). -/
def execReadTracking (l : LinkId) (seq tag : Nat) (s : State) : Host.Outcome State Fault Refusal :=
  live s (s.reqReadTracking l seq tag)

end Sys2Proof.Machine
end

