-- ==== Sys2Proof/Machine/ReqLink.lean ====
section
/-! DEFINITION. The requests that the link unit owns: READ_ATTENTION, SET_ATTENTION_MASK and READ_LINKS (R198 to R200). -/

namespace Sys2Proof.Machine

/-- The flags of the link returned, then cleared with their counts (R198). -/
def State.serveAttention (s : State) (l : LinkId) : State :=
  (s.modLink l fun x => { x with flags := x.flags.clear }).answer l .ok
    (.attention (s.link l).flags (s.link l).role)

def State.reqReadAttention (l : LinkId) (seq : Nat) (s : State) : State :=
  s.request l (.readAttention l seq) .read fun s => s.serveAttention l

/-- READ_ATTENTION (R198). -/
def execReadAttention (l : LinkId) (seq : Nat) (s : State) : Host.Outcome State Fault Refusal :=
  live s (s.reqReadAttention l seq)

/-- The mask of the link written whole (R199). -/
def State.serveMask (s : State) (l : LinkId) (mask : MaskValues) : State :=
  match (s.link l).flags.setMask mask with
  | some f => (s.modLink l fun x => { x with flags := f }).answer l .ok (.mask (f.toList.map (·.shown)))
  | none => s.answer l .badRequest .none

def State.reqSetAttentionMask (l : LinkId) (seq : Nat) (mask : MaskValues) (s : State) : State :=
  s.request l (.setAttentionMask l seq mask) .read fun s => s.serveMask l mask

/-- SET_ATTENTION_MASK (R199). -/
def execSetAttentionMask (l : LinkId) (seq : Nat) (mask : MaskValues) (s : State) : Host.Outcome State Fault Refusal :=
  live s (s.reqSetAttentionMask l seq mask)

/-- A request code whose service waits for a boundary (R193). -/
def waitsBoundary (code : Nat) : Bool := code == 1 || code == 2

/-- A request code whose service waits for a lane (R193). -/
def waitsLane (code : Nat) : Bool := code == 10

/-- What READ_LINKS returns of one link (R200). -/
def Link.view (x : Link) : LinkView where
  role := x.role
  state := x.state
  served := x.request.map fun r => (r.code, r.seq, waitsBoundary r.code, waitsLane r.code)
  shown := x.flags.toList.map (·.shown)
  attn := x.attn

def State.reqReadLinks (l : LinkId) (seq : Nat) (s : State) : State :=
  s.request l (.readLinks l seq) .read fun s => s.answer l .ok (.links (s.links.toList.map Link.view))

/-- READ_LINKS (R200). -/
def execReadLinks (l : LinkId) (seq : Nat) (s : State) : Host.Outcome State Fault Refusal :=
  live s (s.reqReadLinks l seq)

end Sys2Proof.Machine
end

