-- ==== Sys2Proof/Machine/ReqRoster.lean ====
section
/-! DEFINITION. The requests that the roster controller owns: PROVISION, ASSIGN_PROFILE, RETIRE, RERANGE, RESTORE,
SET_PROFILE, READ_RECORD, FIND_SERIAL and READ_PROFILE (spec/03 3.7, R53). -/

namespace Sys2Proof.Machine

/-- A parameter that the owner checks: profiles 0 to 15 (3.7, R191). -/
def State.withProfile (s : State) (l : LinkId) (profile : Nat) (serve : State) : State :=
  if profile < 16 then serve else s.answer l .badRequest .none

/-! ## PROVISION (R57) -/

/-- A record created for an expected home, and the removal of the serial's stranger entries (R57, R79). -/
def State.provisionRecord (s : State) (t : Tree) (k : Nat) (serial : Serial) (profile : Nat) : State :=
  (s.newRecord t k .expected serial profile true).dropStrangers fun x => x.serial == serial

def State.serveProvision (s : State) (l : LinkId) (serial : Serial) (t : Tree) (profile : Nat) : State :=
  match s.lookup serial with
  | some k => s.answer l .duplicate (.tag k)
  | none =>
    match s.allocate t with
    | .poolFull => s.answer l .poolFull .none
    | .treeFull => s.answer l .treeFull .none
    | .tag k => (s.provisionRecord t k serial profile).answer l .ok (.tag k)

/-- PROVISION with its numbers in range (R57, R191). Where both a profile above 15 and another ground refuse it, no rule says
which answers; the numbers are tested first (DESIGN CHOICE, log entry 29). -/
def State.reqProvision (l : LinkId) (seq : Nat) (serial : Serial) (tree profile : Nat) (s : State) : State :=
  s.request l (.provision l seq serial tree profile) .control fun s =>
    s.withTree l tree fun t => s.withProfile l profile (s.serveProvision l serial t profile)

/-- PROVISION (R57). -/
def execProvision (l : LinkId) (seq : Nat) (serial : Serial) (tree profile : Nat) (s : State) :
    Host.Outcome State Fault Refusal := live s (s.reqProvision l seq serial tree profile)

/-! ## ASSIGN_PROFILE (R59) -/

/-- F + A of a profile, its part of the committed load (R43). -/
def Profile.share (p : Profile) : Nat := p.f + p.a

/-- The profile number written, provisioned set, the over flag evaluated (R59, R177). -/
def State.writeProfileOf (s : State) (k profile : Nat) : State :=
  (s.modRecord k fun r => { r with profile := profile, provisioned := true }).evalOver k

/-- The data of OVER_BUDGET: tree, committed load, release pending and K (R53, R59). -/
def State.budgetData (s : State) (t : Tree) : ResponseData :=
  .budget t (s.load t).committed (s.load t).release (s.engine t).params.k

def State.serveAssign (s : State) (l : LinkId) (k profile : Nat) : State :=
  let r := s.record k
  let old := (s.profile r.profile).share
  let new := (s.profile profile).share
  match r.state with
  | .retired => s.answer l .state .none
  | .active =>
    if old < new then
      if s.fits r.treeNo (new - old) then
        ((s.modLoad r.treeNo (·.add (new - old))).writeProfileOf k profile).answer l .ok .none
      else s.answer l .overBudget (s.budgetData r.treeNo)
    else ((s.modLoad r.treeNo (·.drop (old - new))).writeProfileOf k profile).answer l .ok .none
  | .parked =>
    ((s.modLoad r.treeNo fun x => { x with scanDue := true }).writeProfileOf k profile).answer l .ok .none
  | .vacant | .expected | .announced | .ranging | .suspended | .rogue => (s.writeProfileOf k profile).answer l .ok .none

/-- ASSIGN_PROFILE with its numbers in range (R59, R191). Where both a profile above 15 and a VACANT tag refuse it, no rule
says which answers; the numbers are tested first (DESIGN CHOICE, log entry 29). -/
def State.reqAssignProfile (l : LinkId) (seq tag profile : Nat) (s : State) : State :=
  s.request l (.assignProfile l seq tag profile) .control fun s =>
    s.withTag l tag fun k => s.withProfile l profile (s.needRecord l k (s.serveAssign l k profile))

/-- ASSIGN_PROFILE (R59). -/
def execAssignProfile (l : LinkId) (seq tag profile : Nat) (s : State) : Host.Outcome State Fault Refusal :=
  live s (s.reqAssignProfile l seq tag profile)

/-! ## RETIRE (R60, R62) -/

/-- A kept RESTORE of a record ends without acceptance and is answered STATE (R63). -/
def State.endRestore (s : State) (k : Nat) : State :=
  let links := (s.kept.filter (Kept.isRestore k)).filterMap fun x =>
    match x.entry.origin with
    | .restore l => some l
    | _ => none
  links.foldl (fun s l => s.answer l .state .none) (s.dropKept (Kept.isRestore k))

/-- The states in which a retired home is told DEPART (R62). -/
def RecState.departs : RecState → Bool
  | .announced | .ranging | .active | .parked | .suspended | .rogue => true
  | .vacant | .expected | .retired => false

/-- A record withdrawn: RETIRED, or VACANT where its usage is settled, and its DEPART offered (R60, R62). -/
def State.withdraw (s : State) (k : Nat) (new : RecState) : State :=
  let before := s.record k
  let s := (s.endRestore k).changeState k new true
  if before.state.departs ∧ (s.engine before.treeNo).state ≠ .disabled then s.offerDepart before.treeNo k .departRetire
  else s

def State.serveRetire (s : State) (l : LinkId) (k : Nat) : State :=
  if (s.record k).state = .retired then s.answer l .state .none
  else
    let new := if s.settled k then RecState.vacant else RecState.retired
    (s.withdraw k new).answer l .ok (.recState new)

def State.reqRetire (l : LinkId) (seq tag : Nat) (s : State) : State :=
  s.request l (.retire l seq tag) .control fun s => s.withTag l tag fun k => s.needRecord l k (s.serveRetire l k)

/-- RETIRE (R60, R62). -/
def execRetire (l : LinkId) (seq tag : Nat) (s : State) : Host.Outcome State Fault Refusal :=
  live s (s.reqRetire l seq tag)

/-! ## RERANGE (R61) -/

def State.serveRerange (s : State) (l : LinkId) (k : Nat) : State :=
  if (s.record k).state = .active ∨ (s.record k).state = .parked then
    ((s.changeState k .announced true).modRecord k fun r => { r with offer := .none }).answer l .ok .none
  else s.answer l .state .none

def State.reqRerange (l : LinkId) (seq tag : Nat) (s : State) : State :=
  s.request l (.rerange l seq tag) .control fun s => s.withTag l tag fun k => s.needRecord l k (s.serveRerange l k)

/-- RERANGE (R61). -/
def execRerange (l : LinkId) (seq tag : Nat) (s : State) : Host.Outcome State Fault Refusal :=
  live s (s.reqRerange l seq tag)

/-! ## RESTORE (R63) -/

/-- RESTORE offers SHUT_LIFT; its response waits for the acceptance (R63, R193). -/
def State.serveRestore (s : State) (l : LinkId) (k : Nat) : State :=
  let r := s.record k
  if r.state ≠ .rogue ∨ (s.engine r.treeNo).state = .disabled ∨ s.kept.any (Kept.isRestore k) = true then
    s.answer l .state .none
  else s.offer r.treeNo ⟨.shutLift k, .restore l⟩

def State.reqRestore (l : LinkId) (seq tag : Nat) (s : State) : State :=
  s.request l (.restore l seq tag) .control fun s => s.withTag l tag fun k => s.needRecord l k (s.serveRestore l k)

/-- RESTORE (R63, R193). -/
def execRestore (l : LinkId) (seq tag : Nat) (s : State) : Host.Outcome State Fault Refusal :=
  live s (s.reqRestore l seq tag)

/-! ## SET_PROFILE (R53) -/

/-- The ACTIVE records of a tree that name a profile. -/
def State.activeWith (s : State) (t : Tree) (n : Nat) : Nat :=
  (numbersWhere s.records fun _ r => r.state == .active && r.tree == some t && r.profile == n).length

/-- A tree has a PARKED record that names a profile (R53). -/
def State.parkedWith (s : State) (t : Tree) (n : Nat) : Bool :=
  !(numbersWhere s.records fun _ r => r.state == .parked && r.tree == some t && r.profile == n).isEmpty

/-- The committed load that a change of profile `n` to `p` would give a tree (R53). -/
def State.loadWith (s : State) (t : Tree) (n : Nat) (p : Profile) : Nat :=
  (s.load t).committed - s.activeWith t n * (s.profile n).share + s.activeWith t n * p.share

/-- A tree passes the budget check of a change (R53). -/
def State.budgetPasses (s : State) (n : Nat) (p : Profile) (t : Tree) : Bool :=
  decide (s.loadWith t n p ≤ (s.load t).committed) ||
    decide (s.loadWith t n p + (s.load t).release ≤ (s.engine t).params.k)

/-- The load of a tree after a taken change (R53). -/
def State.applyLoad (s : State) (n : Nat) (p : Profile) (t : Tree) : State :=
  let new := s.loadWith t n p
  let due := s.parkedWith t n
  s.modLoad t fun x =>
    { (if new ≤ x.committed then x.drop (x.committed - new) else x.add (new - x.committed)) with
      scanDue := x.scanDue || due }

/-- The over flags of every record that names a profile, evaluated (R177). -/
def State.evalProfile (s : State) (n : Nat) : State :=
  (numbersWhere s.records fun _ r => r.profile == n).foldl (fun s k => s.evalOver k) s

def allTrees : List Tree := [0, 1, 2, 3]

def State.serveSetProfile (s : State) (l : LinkId) (n : Nat) (v : ProfileValues) : State :=
  if emptySelection v.toList then s.answer l .badRequest .none
  else
    let new := (s.profile n).set v
    match allTrees.find? fun t => !s.budgetPasses n new.1 t with
    | some t => s.answer l .overBudget (s.budgetData t)
    | none =>
      let s := allTrees.foldl (fun s t => s.applyLoad n new.1 t) s
      ((s.modProfile n fun _ => new.1).evalProfile n).answer l (if new.2 then .okAdjusted else .ok) (.profile new.1)

def State.reqSetProfile (l : LinkId) (seq profile : Nat) (v : ProfileValues) (s : State) : State :=
  s.request l (.setProfile l seq profile v) .control fun s => s.withProfile l profile (s.serveSetProfile l profile v)

/-- SET_PROFILE (R53, R177). -/
def execSetProfile (l : LinkId) (seq profile : Nat) (v : ProfileValues) (s : State) :
    Host.Outcome State Fault Refusal := live s (s.reqSetProfile l seq profile v)

/-! ## Reads (R64) -/

def State.reqReadRecord (l : LinkId) (seq tag : Nat) (s : State) : State :=
  s.request l (.readRecord l seq tag) .read fun s =>
    s.withTag l tag fun k => s.needRecord l k (s.answer l .ok (.record (s.record k) (s.departure k)))

/-- READ_RECORD (R64). -/
def execReadRecord (l : LinkId) (seq tag : Nat) (s : State) : Host.Outcome State Fault Refusal :=
  live s (s.reqReadRecord l seq tag)

def State.serveFind (s : State) (l : LinkId) (serial : Serial) : State :=
  match s.lookup serial with
  | some k => s.answer l .ok (.found k (s.record k).tree (s.record k).state)
  | none => s.answer l .noRecord .none

def State.reqFindSerial (l : LinkId) (seq : Nat) (serial : Serial) (s : State) : State :=
  s.request l (.findSerial l seq serial) .read fun s => s.serveFind l serial

/-- FIND_SERIAL (R64). -/
def execFindSerial (l : LinkId) (seq : Nat) (serial : Serial) (s : State) : Host.Outcome State Fault Refusal :=
  live s (s.reqFindSerial l seq serial)

/-- Committed load, release pending and K of each tree (R64). -/
def State.loadViews (s : State) : List (Nat × Nat × Nat) :=
  allTrees.map fun t => ((s.load t).committed, (s.load t).release, (s.engine t).params.k)

def State.reqReadProfile (l : LinkId) (seq profile : Nat) (s : State) : State :=
  s.request l (.readProfile l seq profile) .read fun s =>
    s.withProfile l profile (s.answer l .ok (.loads (s.profile profile) s.loadViews))

/-- READ_PROFILE (R64). -/
def execReadProfile (l : LinkId) (seq profile : Nat) (s : State) : Host.Outcome State Fault Refusal :=
  live s (s.reqReadProfile l seq profile)

end Sys2Proof.Machine
end

