-- ==== Sys2Proof/Machine/ReqTally.lean ====
section
/-! DEFINITION. The requests that the tally unit owns: CLOSE_PERIOD, COLLECT, READ_LIVE and READ_PERIOD (R178, R181, R184,
R185). -/

namespace Sys2Proof.Machine

/-- The tags whose closed set is uncollected, ascending (R178). -/
def State.uncollectedTags (s : State) : List Nat := numbersWhere s.tallies fun _ x => !x.closed.collected

/-- The sets of one record at a close (R178). -/
def Tally.close (x : Tally) (period : Nat) (frame : FrameNo) : Tally :=
  ⟨.zero, ⟨x.live, some period, some frame, x.live.isZero⟩⟩

/-- One record that is not VACANT at a close: its sets, its over flag, and the step to VACANT where it is RETIRED with
its condition holding (R178, R179). -/
def State.closeRecord (s : State) (k : Nat) : State :=
  let s := (s.modTally k (·.close s.period s.frame)).evalOver k
  if (s.record k).state = .retired ∧ s.settled k = true then s.changeState k .vacant true else s

/-- The tags of the records that are not VACANT. -/
def State.occupied (s : State) : List Nat := numbersWhere s.records fun _ r => r.state != .vacant

/-- A close taken: every record that is not VACANT, then the period number and the close frame (R178). -/
def State.closeAll (s : State) : State :=
  let closed := s.occupied.foldl (fun s k => s.closeRecord k) s
  { closed with period := (s.period + 1) % 65536, lastClose := some s.frame }

/-- CLOSE_PERIOD refused while a closed set is uncollected, with their number and the lowest tag; taken otherwise (R178).
R178 gives the list of the tags made VACANT no order; they stand in ascending order (DESIGN CHOICE, log entry 16). -/
def State.serveClose (s : State) (l : LinkId) : State :=
  match s.uncollectedTags with
  | [] =>
    let next := s.closeAll
    next.answer l .ok
      (.closed s.period next.period s.frame next.uncollectedTags.length
        (s.occupied.filter fun k => (next.record k).state == .vacant))
  | k :: rest => s.answer l .uncollected (.uncollected (rest.length + 1) k)

def State.reqClosePeriod (l : LinkId) (seq : Nat) (s : State) : State :=
  s.request l (.closePeriod l seq) .tally fun s => s.serveClose l

/-- CLOSE_PERIOD (R178, R179). -/
def execClosePeriod (l : LinkId) (seq : Nat) (s : State) : Host.Outcome State Fault Refusal :=
  live s (s.reqClosePeriod l seq)

/-- A closed set marked collected, and the step to VACANT of a RETIRED record with a zero live set (R181). -/
def State.collectSet (s : State) (k : Nat) : State :=
  let s := s.modTally k fun x => { x with closed := { x.closed with collected := true } }
  if (s.record k).state = .retired ∧ s.settled k = true then s.changeState k .vacant true else s

def State.serveCollect (s : State) (l : LinkId) (k : Nat) : State :=
  let closed := (s.tally k).closed
  let r := s.record k
  if closed.collected then s.answer l .noData (.closedInfo closed.period closed.closeFrame)
  else
    let next := s.collectSet k
    next.answer l .ok
      (.collected
        { set := closed.set
          period := closed.period
          closeFrame := closed.closeFrame
          tag := k
          tree := r.tree
          serial := r.serial
          state := r.state
          left := (next.record k).state })

/-- COLLECT with its tag in range. A second COLLECT of a tag whose record the first made VACANT is answered NO_RECORD by
R181, although the table of R183 answers a second COLLECT NO_DATA (DESIGN CHOICE, log entry 37). -/
def State.reqCollect (l : LinkId) (seq tag : Nat) (s : State) : State :=
  s.request l (.collect l seq tag) .tally fun s => s.withTag l tag fun k => s.needRecord l k (s.serveCollect l k)

/-- COLLECT (R181). -/
def execCollect (l : LinkId) (seq tag : Nat) (s : State) : Host.Outcome State Fault Refusal :=
  live s (s.reqCollect l seq tag)

/-- What READ_LIVE returns (R184). -/
def State.liveView (s : State) (k : Nat) : LiveView :=
  let r := s.record k
  let q := (s.profile r.profile).q
  { state := r.state
    tree := r.tree
    profile := r.profile
    q := q
    threshold := if q = 0 then none else some (threshold q)
    live := (s.tally k).live
    period := s.period
    isOver := r.isOver
    closed := (s.tally k).closed }

def State.reqReadLive (l : LinkId) (seq tag : Nat) (s : State) : State :=
  s.request l (.readLive l seq tag) .read fun s =>
    s.withTag l tag fun k => s.needRecord l k (s.answer l .ok (.live (s.liveView k)))

/-- READ_LIVE (R184). -/
def execReadLive (l : LinkId) (seq tag : Nat) (s : State) : Host.Outcome State Fault Refusal :=
  live s (s.reqReadLive l seq tag)

/-- What READ_PERIOD returns (R185). -/
def State.periodView (s : State) : PeriodView where
  period := s.period
  lastClose := s.lastClose
  uncollected := s.uncollectedTags.length
  lowest := s.uncollectedTags.head?
  retired := (numbersWhere s.records fun _ r => r.state == .retired).length
  wouldTake := s.uncollectedTags.isEmpty

def State.reqReadPeriod (l : LinkId) (seq : Nat) (s : State) : State :=
  s.request l (.readPeriod l seq) .read fun s => s.answer l .ok (.period s.periodView)

/-- READ_PERIOD (R185). -/
def execReadPeriod (l : LinkId) (seq : Nat) (s : State) : Host.Outcome State Fault Refusal :=
  live s (s.reqReadPeriod l seq)

end Sys2Proof.Machine
end

