-- ==== Sys2Proof/Machine/ReqTree.lean ====
section
/-! DEFINITION. The requests that a tree engine owns: ENABLE_TREE, DISABLE_TREE, SET_TREE, READ_TREE, READ_PLAN and
RESUME_TREE (R4, R5, R8, R9, R127, R167). -/

namespace Sys2Proof.Machine

/-- ENABLE_TREE taken on a DISABLED tree makes an enable pending, or joins the pending one (R4). -/
def State.serveEnable (s : State) (l : LinkId) (t : Tree) : State :=
  if (s.engine t).state = .disabled then s.modEngine t fun e => { e with enableWaiters := e.enableWaiters ++ [l] }
  else s.answer l .state .none

def State.reqEnableTree (l : LinkId) (seq tree : Nat) (s : State) : State :=
  s.request l (.enableTree l seq tree) .control fun s => s.withTree l tree fun t => s.serveEnable l t

/-- ENABLE_TREE (R4, R193). -/
def execEnableTree (l : LinkId) (seq tree : Nat) (s : State) : Host.Outcome State Fault Refusal :=
  live s (s.reqEnableTree l seq tree)

/-- DISABLE_TREE taken on a RUNNING or CUT tree makes a disable pending, or joins the pending one (R5). -/
def State.serveDisable (s : State) (l : LinkId) (t : Tree) : State :=
  if (s.engine t).state = .disabled then s.answer l .state .none
  else s.modEngine t fun e => { e with disableWaiters := e.disableWaiters ++ [l] }

def State.reqDisableTree (l : LinkId) (seq tree : Nat) (s : State) : State :=
  s.request l (.disableTree l seq tree) .control fun s => s.withTree l tree fun t => s.serveDisable l t

/-- DISABLE_TREE (R5, R193). -/
def execDisableTree (l : LinkId) (seq tree : Nat) (s : State) : Host.Outcome State Fault Refusal :=
  live s (s.reqDisableTree l seq tree)

/-- The parameter set written whole, the interval d set to the new D, and a change of CUT_IN assertion reported (R8,
R19). -/
def State.writeParams (s : State) (t : Tree) (p : TreeParams) : State :=
  let before := (s.engine t).cutInAsserted
  let s := (s.modEngine t fun e => { e with params := p }).modEnrol t fun e => { e with d := p.d }
  let after := (s.engine t).cutInAsserted
  if before = after then s else s.modMail fun m => { m with cutIns := m.cutIns ++ [⟨t, after⟩] }

/-- SET_TREE by the state of its tree and its values (R8; log entry 19). -/
def State.serveSetTree (s : State) (l : LinkId) (t : Tree) (v : TreeValues) : State :=
  let e := s.engine t
  if e.state ≠ .disabled ∨ e.enablePending = true then s.answer l .treeRunning .none
  else if emptySelection v.toList then s.answer l .badRequest .none
  else
    match e.params.set v with
    | none => s.answer l .badRequest .none
    | some (p, adjusted) => (s.writeParams t p).answer l (if adjusted then .okAdjusted else .ok) (.params p)

def State.reqSetTree (l : LinkId) (seq tree : Nat) (v : TreeValues) (s : State) : State :=
  s.request l (.setTree l seq tree v) .control fun s => s.withTree l tree fun t => s.serveSetTree l t v

/-- SET_TREE (R8). -/
def execSetTree (l : LinkId) (seq tree : Nat) (v : TreeValues) (s : State) : Host.Outcome State Fault Refusal :=
  live s (s.reqSetTree l seq tree v)

/-- What READ_TREE returns (R9). -/
def State.treeView (s : State) (t : Tree) : TreeView :=
  let e := s.engine t
  { state := e.state
    enablePending := e.enablePending
    disablePending := e.disablePending
    params := e.params
    mode := (s.enrol t).mode
    frame := s.frame
    urgent := e.urgent.length
    normal := e.normal.length
    places := e.places.toList.map fun p => p.map fun x => (x.entry.dir, x.carriage)
    awaited := e.expect.length
    queued := e.queuedOctets
    light := e.light.level
    cutIn := e.cutInAsserted }

def State.reqReadTree (l : LinkId) (seq tree : Nat) (s : State) : State :=
  s.request l (.readTree l seq tree) .read fun s => s.withTree l tree fun t => s.answer l .ok (.tree (s.treeView t))

/-- READ_TREE (R9). -/
def execReadTree (l : LinkId) (seq tree : Nat) (s : State) : Host.Outcome State Fault Refusal :=
  live s (s.reqReadTree l seq tree)

def State.reqReadPlan (l : LinkId) (seq tree : Nat) (s : State) : State :=
  s.request l (.readPlan l seq tree) .read fun s =>
    s.withTree l tree fun t => s.answer l .ok (.plan (s.engine t).surplusPtr (s.engine t).planForce)

/-- READ_PLAN (R127). -/
def execReadPlan (l : LinkId) (seq tree : Nat) (s : State) : Host.Outcome State Fault Refusal :=
  live s (s.reqReadPlan l seq tree)

/-- RESUME_TREE by the state of its tree: one that finds a resume pending joins it, and any other is judged by the cut input
and the light (R167). -/
def State.serveResume (s : State) (l : LinkId) (t : Tree) : State :=
  let e := s.engine t
  if e.state ≠ .cut then s.answer l .state .none
  else if e.resumePending then s.answer l .ok .none
  else if e.cutInAsserted then s.answer l .cutActive .none
  else if e.light.level then s.answer l .lightPresent .none
  else (s.modEngine t fun e => { e with resumePending := true }).answer l .ok .none

def State.reqResumeTree (l : LinkId) (seq tree : Nat) (s : State) : State :=
  s.request l (.resumeTree l seq tree) .control fun s => s.withTree l tree fun t => s.serveResume l t

/-- RESUME_TREE (R167). -/
def execResumeTree (l : LinkId) (seq tree : Nat) (s : State) : Host.Outcome State Fault Refusal :=
  live s (s.reqResumeTree l seq tree)

end Sys2Proof.Machine
end

