-- ==== Sys2Proof/Machine/ReqWatch.lean ====
section
/-! DEFINITION. The requests that the light watch and the hunt controllers own: READ_LIGHT, READ_LOG_STATUS,
READ_OBSERVATION, CLEAR_OBSERVATION, CLEAR_OVERFLOW, HUNT, ABORT_HUNT and READ_HUNT (R143 to R146, R148, R162, R169). -/

namespace Sys2Proof.Machine

/-- The tags of the LASER_SHUTs that the light watch keeps for a tree, oldest first (R146; DESIGN CHOICE, log entry 32). -/
def State.keptShuts (s : State) (t : Tree) : List Nat :=
  (s.kept.filter fun x => x.tree == t && x.entry.origin == .strikeShut).filterMap fun x =>
    match x.entry.dir with
    | .laserShut k => some k
    | _ => none

/-- What READ_LIGHT returns (R146). No rule orders the frame numbers of the interval table's plans: they stand oldest first
(DESIGN CHOICE, log entry 32). -/
def State.lightView (s : State) (t : Tree) : LightView :=
  let w := s.light t
  let p := (s.engine t).params
  { tailTol := p.tailTol
    strikeLim := p.strikeLim
    autoHunt := p.autoHunt
    table := w.table.map (·.frame)
    run := w.run.map fun x => (x.frame, x.grain, x.attribution)
    closed := w.closed
    current := w.current
    lit := w.litCount
    shuts := s.keptShuts t }

def State.reqReadLight (l : LinkId) (seq tree : Nat) (s : State) : State :=
  s.request l (.readLight l seq tree) .read fun s =>
    s.withTree l tree fun t => s.answer l .ok (.light (s.lightView t))

/-- READ_LIGHT (R146). -/
def execReadLight (l : LinkId) (seq tree : Nat) (s : State) : Host.Outcome State Fault Refusal :=
  live s (s.reqReadLight l seq tree)

/-- Log record `n`, 0 to 15: pending with an observation, or free (7.6). -/
def State.logRecord (s : State) (n : Nat) : Option Observation := readAt s.log (n + 1) none

def State.reqReadLogStatus (l : LinkId) (seq : Nat) (s : State) : State :=
  s.request l (.readLogStatus l seq) .read fun s =>
    s.answer l .ok
      (.logStatus (s.log.toList.countP (·.isSome)) (s.log.toList.findIdx? (·.isSome)) s.overflow)

/-- READ_LOG_STATUS (R143). -/
def execReadLogStatus (l : LinkId) (seq : Nat) (s : State) : Host.Outcome State Fault Refusal :=
  live s (s.reqReadLogStatus l seq)

def State.serveReadObservation (s : State) (l : LinkId) (index : Nat) : State :=
  if 16 ≤ index then s.answer l .badRequest .none
  else
    match s.logRecord index with
    | some o => s.answer l .ok (.observation o)
    | none => s.answer l .noData .none

def State.reqReadObservation (l : LinkId) (seq index : Nat) (s : State) : State :=
  s.request l (.readObservation l seq index) .read fun s => s.serveReadObservation l index

/-- READ_OBSERVATION (R143). -/
def execReadObservation (l : LinkId) (seq index : Nat) (s : State) : Host.Outcome State Fault Refusal :=
  live s (s.reqReadObservation l seq index)

def State.serveClearObservation (s : State) (l : LinkId) (index : Nat) : State :=
  if 16 ≤ index then s.answer l .badRequest .none
  else
    match s.logRecord index with
    | some o => { s with log := updateAt s.log (index + 1) fun _ => none }.answer l .ok (.observation o)
    | none => s.answer l .noData .none

def State.reqClearObservation (l : LinkId) (seq index : Nat) (s : State) : State :=
  s.request l (.clearObservation l seq index) .control fun s => s.serveClearObservation l index

/-- CLEAR_OBSERVATION (R144). -/
def execClearObservation (l : LinkId) (seq index : Nat) (s : State) : Host.Outcome State Fault Refusal :=
  live s (s.reqClearObservation l seq index)

def State.reqClearOverflow (l : LinkId) (seq : Nat) (s : State) : State :=
  s.request l (.clearOverflow l seq) .control fun s => { s with overflow := false }.answer l .ok (.flag s.overflow)

/-- CLEAR_OVERFLOW (R145). -/
def execClearOverflow (l : LinkId) (seq : Nat) (s : State) : Host.Outcome State Fault Refusal :=
  live s (s.reqClearOverflow l seq)

def State.serveHunt (s : State) (l : LinkId) (t : Tree) : State :=
  if s.huntCanStart t then (s.startHunt t).answer l .ok .none else s.answer l .state .none

def State.reqHunt (l : LinkId) (seq tree : Nat) (s : State) : State :=
  s.request l (.hunt l seq tree) .control fun s => s.withTree l tree fun t => s.serveHunt l t

/-- HUNT (R148, R149). -/
def execHunt (l : LinkId) (seq tree : Nat) (s : State) : Host.Outcome State Fault Refusal :=
  live s (s.reqHunt l seq tree)

def State.serveAbort (s : State) (l : LinkId) (t : Tree) : State :=
  let h := s.hunt t
  if h.state = .idle then s.answer l .state .none
  else ((s.endHunt t .aborted).offerRelease t).answer l .ok (.aborted h.state h.suspects)

def State.reqAbortHunt (l : LinkId) (seq tree : Nat) (s : State) : State :=
  s.request l (.abortHunt l seq tree) .control fun s => s.withTree l tree fun t => s.serveAbort l t

/-- ABORT_HUNT (R162). -/
def execAbortHunt (l : LinkId) (seq tree : Nat) (s : State) : Host.Outcome State Fault Refusal :=
  live s (s.reqAbortHunt l seq tree)

/-- What READ_HUNT returns (R169). The tests in flight stand oldest first (DESIGN CHOICE, log entry 32). -/
def State.huntView (s : State) (t : Tree) : HuntView where
  hunt := s.hunt t
  ending := (s.kept.filter (Kept.isEnding t)).map (·.entry.dir)
  resumePending := (s.engine t).resumePending
  cutIn := (s.engine t).cutInAsserted

def State.reqReadHunt (l : LinkId) (seq tree : Nat) (s : State) : State :=
  s.request l (.readHunt l seq tree) .read fun s => s.withTree l tree fun t => s.answer l .ok (.hunt (s.huntView t))

/-- READ_HUNT (R169). -/
def execReadHunt (l : LinkId) (seq tree : Nat) (s : State) : Host.Outcome State Fault Refusal :=
  live s (s.reqReadHunt l seq tree)

end Sys2Proof.Machine
end

