-- ==== Sys2Proof/Machine/Malformed.lean ====
section
/-! DEFINITION. Write transactions given by their octets (R188, R191, R205): one that spells a request is served as that
request, any other that carries an octet is answered BAD_REQUEST. The meaning of MALFORMED_REQUEST. -/

namespace Sys2Proof.Machine

/-- The step of a request; a command that is no request has none. -/
def requestStep (i : Instr) (s : State) : State :=
  match i with
  | .enableTree l seq tree => s.reqEnableTree l seq tree
  | .disableTree l seq tree => s.reqDisableTree l seq tree
  | .setTree l seq tree values => s.reqSetTree l seq tree values
  | .readTree l seq tree => s.reqReadTree l seq tree
  | .readPlan l seq tree => s.reqReadPlan l seq tree
  | .provision l seq serial tree profile => s.reqProvision l seq serial tree profile
  | .assignProfile l seq tag profile => s.reqAssignProfile l seq tag profile
  | .retire l seq tag => s.reqRetire l seq tag
  | .rerange l seq tag => s.reqRerange l seq tag
  | .restore l seq tag => s.reqRestore l seq tag
  | .setProfile l seq profile values => s.reqSetProfile l seq profile values
  | .readRecord l seq tag => s.reqReadRecord l seq tag
  | .findSerial l seq serial => s.reqFindSerial l seq serial
  | .readProfile l seq profile => s.reqReadProfile l seq profile
  | .setEnrolment l seq tree mode => s.reqSetEnrolment l seq tree mode
  | .readEnrolment l seq tree => s.reqReadEnrolment l seq tree
  | .dismissStranger l seq index => s.reqDismissStranger l seq index
  | .readStranger l seq => s.reqReadStranger l seq
  | .readTracking l seq tag => s.reqReadTracking l seq tag
  | .readLight l seq tree => s.reqReadLight l seq tree
  | .readLogStatus l seq => s.reqReadLogStatus l seq
  | .readObservation l seq index => s.reqReadObservation l seq index
  | .clearObservation l seq index => s.reqClearObservation l seq index
  | .clearOverflow l seq => s.reqClearOverflow l seq
  | .hunt l seq tree => s.reqHunt l seq tree
  | .abortHunt l seq tree => s.reqAbortHunt l seq tree
  | .resumeTree l seq tree => s.reqResumeTree l seq tree
  | .readHunt l seq tree => s.reqReadHunt l seq tree
  | .closePeriod l seq => s.reqClosePeriod l seq
  | .collect l seq tag => s.reqCollect l seq tag
  | .readLive l seq tag => s.reqReadLive l seq tag
  | .readPeriod l seq => s.reqReadPeriod l seq
  | .readAttention l seq => s.reqReadAttention l seq
  | .setAttentionMask l seq mask => s.reqSetAttentionMask l seq mask
  | .readLinks l seq => s.reqReadLinks l seq
  | .powerOnReset | .resetN | .release .. | .frameBoundary | .compileReadRecord .. | .compileEnd .. | .offerDelivered ..
  | .settleMarkSettled .. | .departureClears .. | .rxResetPulse .. | .inputSample .. | .cutInAssertion ..
  | .cutInDeassertion .. | .autoHuntTrigger .. | .lockCapture .. | .headerReceipt .. | .announcePayloadEnd ..
  | .planLeavesList .. | .validBurstReport .. | .missReport .. | .delaySample .. | .stateChangeReport ..
  | .lightWatchReport .. | .strike .. | .cleanRun .. | .discoveryReport .. | .discoveryWindowEnd ..
  | .rangingAttemptReport .. | .darkWindowEnd .. | .directiveRetry .. | .downstreamPacketArrival .. | .tallyUpOctets ..
  | .tallyDownOctets .. | .tallyDispatch .. | .attentionLatch .. | .writeDiscarded .. | .readTransaction ..
  | .disregardedTransaction .. | .malformedRequest .. => s

/-- The octets that a write of any length leaves in the request slot, which holds 64 (R205). -/
def slotOctets (octets : List Byte) : List Byte := octets.take 64

/-- A write transaction that spells no request is taken and answered BAD_REQUEST with the code and the sequence number it
carried (R188, R191, R194). -/
def State.refuseWrite (s : State) (l : LinkId) (code seq : Byte) (rest : List Byte) : State :=
  s.write l ⟨code.toNat, seq, slotOctets (code :: seq :: rest)⟩ fun s => s.answer l .badRequest .none

/-- A write transaction cut short after its request code, taken, draws a free value as the sequence number of its answer
(R188, R194; log entry 7). -/
def State.refuseCutShort (s : State) (l : LinkId) (code : Byte) : State :=
  s.write l ⟨code.toNat, Config.sequenceOfCutShort s.freeCount, [code]⟩ fun s =>
    { s.answer l .badRequest .none with freeCount := s.freeCount + 1 }

/-- A write transaction by the octets after its command octet (R188, R191). One without an octet leaves the link as it
stands. -/
def State.writeOctets (s : State) (l : LinkId) (octets : List Byte) : State :=
  match octets with
  | [] => s.transaction l s
  | code :: rest =>
    match parseRequest l octets with
    | some i => requestStep i s
    | none =>
      match rest with
      | [] => s.refuseCutShort l code
      | seq :: rest => s.refuseWrite l code seq rest

/-- MALFORMED_REQUEST (R188, R191, R205; log entry 20). -/
def execMalformedRequest (l : LinkId) (octets : List Byte) (s : State) : Host.Outcome State Fault Refusal :=
  live s (s.writeOctets l octets)

end Sys2Proof.Machine
end

