-- ==== Sys2Proof/Machine/Reports.lean ====
section
/-! DEFINITION. Reports taken by the roster controller (R50, R100), the tally unit (spec/09 9.2) and the link unit (R195),
each applied only while its tag is a record of its tree (R36, R125, R172). The meanings of VALID_BURST_REPORT, MISS_REPORT,
TALLY_UP_OCTETS, TALLY_DOWN_OCTETS, TALLY_DISPATCH and ATTENTION_LATCH. -/

namespace Sys2Proof.Machine

/-- A valid burst stored in its record: backlog, miss run, outstanding grants (R30, R36, R50). -/
def DropRecord.valid (r : DropRecord) (backlog payload : Nat) : DropRecord :=
  { r with backlog := backlog, missRun := 0, outstanding := r.outstanding - payload }

def State.takeValid (s : State) (r : ValidReport) : State :=
  if s.isRecordOf r.tree r.tag then s.modRecord r.tag (·.valid r.backlog r.payload) else s

/-- VALID_BURST_REPORT (R30, R36, R50). -/
def execValidBurstReport (index : Nat) (s : State) : Host.Outcome State Fault Refusal :=
  live s
    (match takeNth s.mail.valids index with
    | none => s
    | some (r, rest) => (s.modMail fun m => { m with valids := rest }).takeValid r)

/-- A miss stored in its record: the miss run rises, stopping at 8, and outstanding grants fall (R100). -/
def DropRecord.miss (r : DropRecord) (payload : Nat) : DropRecord :=
  { r with missRun := min 8 (r.missRun + 1), outstanding := r.outstanding - payload }

/-- A miss report; an ACTIVE record whose run reaches 8 is suspended (R100, R103). -/
def State.takeMiss (s : State) (r : MissReport) : State :=
  if s.isRecordOf r.tree r.tag then
    let s := s.modRecord r.tag (·.miss r.payload)
    if 8 ≤ (s.record r.tag).missRun then s.suspendFrom r.tag .active else s
  else s

/-- MISS_REPORT (R100). -/
def execMissReport (index : Nat) (s : State) : Host.Outcome State Fault Refusal :=
  live s
    (match takeNth s.mail.misses index with
    | none => s
    | some (r, rest) => (s.modMail fun m => { m with misses := rest }).takeMiss r)

/-- User octets counted, with the clamp marker, and the over flag evaluated in the same step (R171, R173, R176). -/
def State.takeUp (s : State) (r : UpReport) : State :=
  if s.isRecordOf r.tree r.tag then
    (s.modLive r.tag fun x =>
      let y := x.addUp r.octets
      { y with clamped := y.clamped || r.clamped }).evalOver r.tag
  else s

/-- TALLY_UP_OCTETS (R173). -/
def execTallyUpOctets (index : Nat) (s : State) : Host.Outcome State Fault Refusal :=
  live s
    (match takeNth s.mail.ups index with
    | none => s
    | some (r, rest) => (s.modMail fun m => { m with ups := rest }).takeUp r)

/-- A placed packet counted (R174). -/
def State.takeDown (s : State) (r : DownReport) : State :=
  if s.isRecordOf r.tree r.tag then s.modLive r.tag (·.addDown r.octets) else s

/-- TALLY_DOWN_OCTETS (R174). -/
def execTallyDownOctets (index : Nat) (s : State) : Host.Outcome State Fault Refusal :=
  live s
    (match takeNth s.mail.downs index with
    | none => s
    | some (r, rest) => (s.modMail fun m => { m with downs := rest }).takeDown r)

/-- What a dispatch report adds for one tag: 1 withheld frame for a tag of the withheld list or of a cut plan, and for a
BURST entry its grains, with 1 over frame where the tag is in the over list (R123, R124, R175). -/
def TallySet.addDispatch (x : TallySet) (r : DispatchReport) : TallySet :=
  if r.withheld then x.addWithheld 1
  else if r.isOver then (x.addGranted r.grains).addOver 1
  else x.addGranted r.grains

def State.takeDispatch (s : State) (r : DispatchReport) : State :=
  if s.isRecordOf r.tree r.tag then s.modLive r.tag (·.addDispatch r) else s

/-- TALLY_DISPATCH: one tag of a dispatch report is counted (R175). -/
def execTallyDispatch (index : Nat) (s : State) : Host.Outcome State Fault Refusal :=
  live s
    (match takeNth s.mail.dispatches index with
    | none => s
    | some (r, rest) => (s.modMail fun m => { m with dispatches := rest }).takeDispatch r)

/-- ATTENTION_LATCH: one report to the link unit is taken; a state change that latches nothing is taken with no effect
(R42, R195). -/
def execAttentionLatch (index : Nat) (s : State) : Host.Outcome State Fault Refusal :=
  live s
    (match takeNth s.mail.attention index with
    | none => s
    | some (r, rest) => (s.modMail fun m => { m with attention := rest }).takeReport r)

end Sys2Proof.Machine
end

