-- ==== Sys2Proof/Machine/Reset.lean ====
section
/-! DEFINITION. Reset and release (spec/11 11.6). The meanings of POWER_ON_RESET, RESET_N and RELEASE. -/

namespace Sys2Proof.Machine

/-- The role that two strap levels latch (10.1). -/
def Straps.role (x : Straps) : Role :=
  match x.role1, x.role0 with
  | false, false => .off
  | false, true => .control
  | true, false => .tally
  | true, true => .control

/-- A reset taken: every block's values are gone, and with them the transactions and requests in progress; the latched
roles hold until release (R186, R187, R206; log entry 18). -/
def State.fallIntoReset (s : State) : State :=
  { State.resetWith (s.links.map (·.role)) (Vector.replicate 3 false) s.freeCount s.pending with
    powerHeld := s.powerHeld
    resetHeld := s.resetHeld }

/-- POWER_ON_RESET: power-on reset holds the part (R206). -/
def execPowerOnReset (s : State) : Host.Outcome State Fault Refusal := .next { s.fallIntoReset with powerHeld := true }

/-- RESET_N: the low pin holds the part (R206). -/
def execResetN (s : State) : Host.Outcome State Fault Refusal := .next { s.fallIntoReset with resetHeld := true }

/-- The part at release: each role latched from its straps, a transaction whose chip select is still asserted to be
disregarded whole, frame 0 begun (R186, R206). -/
def State.released (s : State) (straps : Vector Straps 3) (selected : Vector Bool 3) : State :=
  State.resetWith (straps.map Straps.role) selected s.freeCount s.pending

/-- RELEASE: the moment when neither reset holds the part any longer; no effect on a part that none holds (R206; log
entry 18). -/
def execRelease (straps : Vector Straps 3) (selected : Vector Bool 3) (s : State) : Host.Outcome State Fault Refusal :=
  .next (if s.powerHeld || s.resetHeld then s.released straps selected else s)

end Sys2Proof.Machine
end

