-- ==== Sys2Proof/Machine/Dispatch.lean ====
section
/-! DEFINITION. The meaning of every command: one arm per row of spec/opcode_table.json, each one call of its meaning. -/

namespace Sys2Proof.Machine

def exec (i : Instr) (s : State) : Host.Outcome State Fault Refusal :=
  match i with
  | .powerOnReset => Sys2Proof.Machine.execPowerOnReset s
  | .resetN => Sys2Proof.Machine.execResetN s
  | .release straps selected => Sys2Proof.Machine.execRelease straps selected s
  | .frameBoundary => Sys2Proof.Machine.execFrameBoundary s
  | .compileReadRecord tree => Sys2Proof.Machine.execCompileReadRecord tree s
  | .compileEnd tree => Sys2Proof.Machine.execCompileEnd tree s
  | .offerDelivered tag => Sys2Proof.Machine.execOfferDelivered tag s
  | .settleMarkSettled tag => Sys2Proof.Machine.execSettleMarkSettled tag s
  | .departureClears tag => Sys2Proof.Machine.execDepartureClears tag s
  | .rxResetPulse tree offset => Sys2Proof.Machine.execRxResetPulse tree offset s
  | .inputSample tree sample light cutIn => Sys2Proof.Machine.execInputSample tree sample light cutIn s
  | .cutInAssertion tree => Sys2Proof.Machine.execCutInAssertion tree s
  | .cutInDeassertion tree => Sys2Proof.Machine.execCutInDeassertion tree s
  | .autoHuntTrigger tree => Sys2Proof.Machine.execAutoHuntTrigger tree s
  | .lockCapture tree offset phase => Sys2Proof.Machine.execLockCapture tree offset phase s
  | .headerReceipt tree header payload => Sys2Proof.Machine.execHeaderReceipt tree header payload s
  | .announcePayloadEnd tree payload => Sys2Proof.Machine.execAnnouncePayloadEnd tree payload s
  | .planLeavesList tree offset => Sys2Proof.Machine.execPlanLeavesList tree offset s
  | .validBurstReport index => Sys2Proof.Machine.execValidBurstReport index s
  | .missReport index => Sys2Proof.Machine.execMissReport index s
  | .delaySample index => Sys2Proof.Machine.execDelaySample index s
  | .stateChangeReport index => Sys2Proof.Machine.execStateChangeReport index s
  | .lightWatchReport index => Sys2Proof.Machine.execLightWatchReport index s
  | .strike index => Sys2Proof.Machine.execStrike index s
  | .cleanRun index => Sys2Proof.Machine.execCleanRun index s
  | .discoveryReport tree => Sys2Proof.Machine.execDiscoveryReport tree s
  | .discoveryWindowEnd tree => Sys2Proof.Machine.execDiscoveryWindowEnd tree s
  | .rangingAttemptReport tree => Sys2Proof.Machine.execRangingAttemptReport tree s
  | .darkWindowEnd tree => Sys2Proof.Machine.execDarkWindowEnd tree s
  | .directiveRetry tree producer => Sys2Proof.Machine.execDirectiveRetry tree producer s
  | .downstreamPacketArrival tagPrefix octets => Sys2Proof.Machine.execDownstreamPacketArrival tagPrefix octets s
  | .tallyUpOctets index => Sys2Proof.Machine.execTallyUpOctets index s
  | .tallyDownOctets index => Sys2Proof.Machine.execTallyDownOctets index s
  | .tallyDispatch index => Sys2Proof.Machine.execTallyDispatch index s
  | .attentionLatch index => Sys2Proof.Machine.execAttentionLatch index s
  | .writeDiscarded link => Sys2Proof.Machine.execWriteDiscarded link s
  | .readTransaction link clocked => Sys2Proof.Machine.execReadTransaction link clocked s
  | .disregardedTransaction link command => Sys2Proof.Machine.execDisregardedTransaction link command s
  | .malformedRequest link octets => Sys2Proof.Machine.execMalformedRequest link octets s
  | .enableTree link seq tree => Sys2Proof.Machine.execEnableTree link seq tree s
  | .disableTree link seq tree => Sys2Proof.Machine.execDisableTree link seq tree s
  | .setTree link seq tree values => Sys2Proof.Machine.execSetTree link seq tree values s
  | .readTree link seq tree => Sys2Proof.Machine.execReadTree link seq tree s
  | .readPlan link seq tree => Sys2Proof.Machine.execReadPlan link seq tree s
  | .provision link seq serial tree profile => Sys2Proof.Machine.execProvision link seq serial tree profile s
  | .assignProfile link seq tag profile => Sys2Proof.Machine.execAssignProfile link seq tag profile s
  | .retire link seq tag => Sys2Proof.Machine.execRetire link seq tag s
  | .rerange link seq tag => Sys2Proof.Machine.execRerange link seq tag s
  | .restore link seq tag => Sys2Proof.Machine.execRestore link seq tag s
  | .setProfile link seq profile values => Sys2Proof.Machine.execSetProfile link seq profile values s
  | .readRecord link seq tag => Sys2Proof.Machine.execReadRecord link seq tag s
  | .findSerial link seq serial => Sys2Proof.Machine.execFindSerial link seq serial s
  | .readProfile link seq profile => Sys2Proof.Machine.execReadProfile link seq profile s
  | .setEnrolment link seq tree mode => Sys2Proof.Machine.execSetEnrolment link seq tree mode s
  | .readEnrolment link seq tree => Sys2Proof.Machine.execReadEnrolment link seq tree s
  | .dismissStranger link seq index => Sys2Proof.Machine.execDismissStranger link seq index s
  | .readStranger link seq => Sys2Proof.Machine.execReadStranger link seq s
  | .readTracking link seq tag => Sys2Proof.Machine.execReadTracking link seq tag s
  | .readLight link seq tree => Sys2Proof.Machine.execReadLight link seq tree s
  | .readLogStatus link seq => Sys2Proof.Machine.execReadLogStatus link seq s
  | .readObservation link seq index => Sys2Proof.Machine.execReadObservation link seq index s
  | .clearObservation link seq index => Sys2Proof.Machine.execClearObservation link seq index s
  | .clearOverflow link seq => Sys2Proof.Machine.execClearOverflow link seq s
  | .hunt link seq tree => Sys2Proof.Machine.execHunt link seq tree s
  | .abortHunt link seq tree => Sys2Proof.Machine.execAbortHunt link seq tree s
  | .resumeTree link seq tree => Sys2Proof.Machine.execResumeTree link seq tree s
  | .readHunt link seq tree => Sys2Proof.Machine.execReadHunt link seq tree s
  | .closePeriod link seq => Sys2Proof.Machine.execClosePeriod link seq s
  | .collect link seq tag => Sys2Proof.Machine.execCollect link seq tag s
  | .readLive link seq tag => Sys2Proof.Machine.execReadLive link seq tag s
  | .readPeriod link seq => Sys2Proof.Machine.execReadPeriod link seq s
  | .readAttention link seq => Sys2Proof.Machine.execReadAttention link seq s
  | .setAttentionMask link seq mask => Sys2Proof.Machine.execSetAttentionMask link seq mask s
  | .readLinks link seq => Sys2Proof.Machine.execReadLinks link seq s

end Sys2Proof.Machine
end

