-- ==== Sys2Proof/Safety.lean ====
section
/-! DEFINITION. What the statements about the part say it with: when the part takes a command, when a link takes a
request, what a served request leaves on its link, what requests name, and the invariants that every step keeps. -/

namespace Sys2Proof.Machine

/-! ## The part and its links -/

/-- Neither power-on reset nor RESET_N holds the part (R206). -/
abbrev State.OutOfReset (s : State) : Prop := s.powerHeld = false ∧ s.resetHeld = false

/-- A link that can be spoken to: active (R186), its chip select not held over the release of reset (R206). -/
abbrev State.Hears (s : State) (l : LinkId) : Prop := (s.link l).role ≠ .off ∧ (s.link l).straddling = false

/-- A link takes a write as a request: it hears it and is not BUSY (R188, R189). -/
abbrev State.Takes (s : State) (l : LinkId) : Prop := s.OutOfReset ∧ s.Hears l ∧ (s.link l).state ≠ .busy

/-- A link takes requests of a class, and its role allows them (R186, R191, R201). -/
abbrev State.Serves (s : State) (l : LinkId) (cls : RequestClass) : Prop :=
  s.Takes l ∧ (s.link l).role.allows cls = true

/-- The link with a taken request in its slot, not yet answered (R188). -/
def Link.asked (x : Link) (i : Instr) : Link where
  role := x.role
  state := .busy
  request := some ⟨i.requestCode, BitVec.ofNat 8 i.requestSeq, i.requestFrame⟩
  response := none
  discarded := false
  flags := x.flags
  straddling := x.straddling
  sdo := .zeros

/-- The link with a taken request answered: READY, the response in its slot, the data output zeros throughout the write
(R188, R192, R194, R205). -/
def Link.served (x : Link) (code : Nat) (seq : Byte) (status : Status) (data : ResponseData) : Link where
  role := x.role
  state := .ready
  request := none
  response := some ⟨code, seq, false, status, data⟩
  discarded := false
  flags := x.flags
  straddling := x.straddling
  sdo := .zeros

/-- A state with the request of one link taken and waiting, all else as it was. -/
def State.asked (s : State) (l : LinkId) (i : Instr) : State :=
  { s with links := s.links.set l.val ((s.link l).asked i) }

/-- A state with the request of one link answered, all else as it was. -/
def State.served (s : State) (l : LinkId) (code seq : Nat) (status : Status) (data : ResponseData) : State :=
  { s with links := s.links.set l.val ((s.link l).served code (BitVec.ofNat 8 seq) status data) }

end Sys2Proof.Machine

namespace Sys2Proof

/-! ## What requests name (the catalogue of spec/10 10.6) -/

/-- The class of a request; none for a command that is no request. -/
def Instr.requestClass (i : Instr) : Option Machine.RequestClass :=
  match i.requestCode with
  | 1 | 2 | 3 | 6 | 7 | 8 | 9 | 10 | 11 | 15 | 17 | 23 | 24 | 25 | 26 | 27 => some .control
  | 29 | 30 => some .tally
  | 4 | 5 | 12 | 13 | 14 | 16 | 18 | 19 | 20 | 21 | 22 | 28 | 31 | 32 | 33 | 34 | 35 => some .read
  | _ => none

/-- The link whose transaction a command is, where it is one. -/
def Instr.transactionLink (i : Instr) : Option LinkId :=
  match i with
  | .writeDiscarded l | .readTransaction l _ | .disregardedTransaction l _ | .malformedRequest l _ => some l
  | i => i.requestSource.map (·.1)

/-- The tree number a request names. -/
def Instr.namedTree (i : Instr) : Option Nat :=
  match i with
  | .enableTree _ _ t | .disableTree _ _ t | .setTree _ _ t _ | .readTree _ _ t | .readPlan _ _ t
  | .provision _ _ _ t _ | .setEnrolment _ _ t _ | .readEnrolment _ _ t | .readLight _ _ t | .hunt _ _ t
  | .abortHunt _ _ t | .resumeTree _ _ t | .readHunt _ _ t => some t
  | _ => none

/-- The tag a request names. -/
def Instr.namedTag (i : Instr) : Option Nat :=
  match i with
  | .assignProfile _ _ k _ | .retire _ _ k | .rerange _ _ k | .restore _ _ k | .readRecord _ _ k
  | .readTracking _ _ k | .collect _ _ k | .readLive _ _ k => some k
  | _ => none

/-- The profile a request names. -/
def Instr.namedProfile (i : Instr) : Option Nat :=
  match i with
  | .provision _ _ _ _ p | .assignProfile _ _ _ p | .setProfile _ _ p _ | .readProfile _ _ p => some p
  | _ => none

end Sys2Proof

namespace Sys2Proof.Machine

/-! ## Values -/

/-- The value a SET_TREE or SET_PROFILE leaves in force: the named one moved to the nearer limit of its range, or the one
before (R8, R53). -/
def valueAfter (lo hi : Nat) (value : Option Nat) (before : Nat) : Nat :=
  (value.map fun n => if n < lo then lo else if hi < n then hi else n).getD before

/-! ## The hunt's directives (R14, R16, R161) -/

/-- The directives that the hunt controller of a tree keeps, in the order first refused. -/
def State.huntKept (s : State) (t : Tree) : List Kept :=
  s.kept.filter fun y => y.tree == t && y.entry.origin.producer == .hunt

/-- Those that an ending does not abandon: all but the directives of a round (R161). -/
def State.endingKept (s : State) (t : Tree) : List Directive :=
  ((s.huntKept t).filter fun y => y.entry.origin != .huntRound).map (·.entry.dir)

/-- How many new directives the urgent lane of a tree takes from the hunt controller while it still keeps these: as many as
the lane has room for below its 8 where it keeps none, and none where it keeps some (R14, R16). -/
def State.huntRoom (s : State) (t : Tree) (still : List Directive) : Nat :=
  if still = [] then 8 - (s.engine t).urgent.length else 0

/-- From `s` to `u` the hunt controller of a tree, still keeping the directives `still`, has offered `offered` to the urgent
lane, in order: those the lane has room for stand at its tail, the others are kept behind those kept before. -/
def State.HuntOffered (s u : State) (t : Tree) (still offered : List Directive) : Prop :=
  (u.engine t).urgent.map (·.dir) = (s.engine t).urgent.map (·.dir) ++ offered.take (s.huntRoom t still) ∧
    (u.huntKept t).map (·.entry.dir) = still ++ offered.drop (s.huntRoom t still)

/-! ## Reset -/

/-- What each block holds after power-on reset or RESET_N (R10, R41, R52, R67, R81, R90, R129, R147, R170, R187), with no
report in flight between two blocks (log entry 3), but for the roles, the marks of transactions that straddle the release,
what holds the part, and the queue. -/
def State.BlocksReset (t : State) : Prop :=
  (∀ x : Tree,
    ((t.engine x).state = .disabled ∧ (t.engine x).enableWaiters = [] ∧ (t.engine x).disableWaiters = [] ∧
      (t.engine x).resumePending = false ∧
      (t.engine x).params = ⟨150000, 50000, 8, 4, 6000, 16, 128, 256, 4, 32, 2, 4, true, .highWhenCut⟩ ∧
      (t.engine x).planForce = none ∧ (t.engine x).planPrep = none ∧ (t.engine x).compile = none ∧
      (t.engine x).surplusPtr = 1 ∧ (t.engine x).expect = [] ∧ (t.engine x).urgent = [] ∧ (t.engine x).normal = [] ∧
      (t.engine x).places.toList = [none, none, none, none] ∧ (t.engine x).queue = [] ∧ (t.engine x).down = none ∧
      (t.engine x).light = ⟨false, []⟩ ∧ (t.engine x).cutIn = ⟨false, []⟩ ∧ (t.engine x).rxPulse = none ∧
      (t.engine x).receptions = [] ∧ (t.engine x).lastAnnounce = none ∧
      (t.engine x).txEnable = false ∧ (t.engine x).cutOut = false) ∧
    (t.load x).committed = 0 ∧ (t.load x).release = 0 ∧ (t.load x).scanDue = false ∧
    ((t.enrol x).mode = .closed ∧ (t.enrol x).d = 16 ∧ (t.enrol x).count = 0 ∧ (t.enrol x).seqNo = 0 ∧
      (t.enrol x).queue = [] ∧ (t.enrol x).lastDiscovery = none ∧ (t.enrol x).attempt = none ∧ (t.enrol x).notes = []) ∧
    ((t.light x).table = [] ∧ (t.light x).run = none ∧ (t.light x).closed = [] ∧ (t.light x).current = none) ∧
    ((t.hunt x).state = .idle ∧ (t.hunt x).suspects = none ∧ (t.hunt x).hold = none ∧ (t.hunt x).verified = none ∧
      (t.hunt x).round = 0 ∧ (t.hunt x).count = 0 ∧ (t.hunt x).tests = [] ∧ (t.hunt x).pendingTest = .absent ∧
      (t.hunt x).requested = 0 ∧ (t.hunt x).firstLit = false ∧
      (t.hunt x).roundDirs = [] ∧ (t.hunt x).cutPending = false ∧ (t.hunt x).outcome = none)) ∧
  (∀ k, t.record k = ⟨.vacant, none, none, 0, 0, false, false, 0, 0, 0, 0, 0, 0, .none, false, none⟩) ∧
  (∀ k, t.tracker k = ⟨[], .none, .offer, 0⟩) ∧
  (∀ k, t.tally k = ⟨⟨0, 0, 0, 0, 0, false, false⟩, ⟨⟨0, 0, 0, 0, 0, false, false⟩, none, none, true⟩⟩) ∧
  (∀ n, t.profile n = ⟨0, 64, 2000, 1, 100, 0⟩) ∧
  (∀ n, t.stranger n = none) ∧ (∀ n, t.logRecord n = none) ∧ t.overflow = false ∧ t.kept = [] ∧ t.period = 0 ∧
  t.lastClose = none ∧ t.mail = ⟨[], [], [], [], [], [], [], [], [], [], [], [], [], [], [], []⟩ ∧
  (∀ l : LinkId,
    (t.link l).state = .idle ∧ (t.link l).request = none ∧ (t.link l).response = none ∧
      (t.link l).discarded = false ∧ (t.link l).sdo = .notDriven ∧ (t.link l).attn = false ∧
      ∀ f ∈ (t.link l).flags.toList, f.latched = false ∧ f.count = 0 ∧ f.shown = false)

/-! ## Invariants -/

/-- No lane holds more than its capacity (the table of spec/01 1.5). -/
abbrev State.LanesInv (s : State) : Prop :=
  ∀ t : Tree, (s.engine t).urgent.length ≤ 8 ∧ (s.engine t).normal.length ≤ 32

/-- A link's slots match its state; an OFF link stays IDLE, with no flag latched (R186 to R188, R192). -/
abbrev Link.Sound (x : Link) : Prop :=
  (x.state = .busy ↔ x.request.isSome) ∧ (x.state = .ready ↔ x.response.isSome) ∧
    (x.role = .off → x.state = .idle ∧ ∀ f ∈ x.flags.toList, f.latched = false ∧ f.count = 0)

abbrev State.LinksInv (s : State) : Prop := ∀ l : LinkId, (s.link l).Sound

/-- The five tallies of a set fit their 48 bits (R171). -/
abbrev TallySet.Fits (x : TallySet) : Prop :=
  x.up ≤ tallyMax ∧ x.down ≤ tallyMax ∧ x.granted ≤ tallyMax ∧ x.withheld ≤ tallyMax ∧ x.overFrames ≤ tallyMax

def State.TalliesInv (s : State) : Prop :=
  ∀ k : Nat, (s.tally k).live.Fits ∧ (s.tally k).closed.set.Fits

/-- The counters of a drop record stay in the ranges of the table of spec/03 3.1. -/
abbrev DropRecord.Ranged (r : DropRecord) : Prop :=
  r.outstanding ≤ 40000 ∧ r.missRun ≤ 8 ∧ r.strikes ≤ 15 ∧ r.cleanRun ≤ 1024 ∧ r.rangeAttempts ≤ 3

def State.RecordsInv (s : State) : Prop := ∀ k : Nat, (s.record k).Ranged

/-- At most one record holds a given serial in the lookup (R47). -/
def State.LookupInv (s : State) : Prop :=
  ∀ (j k : Nat) (serial : Serial),
    (s.record j).state.inLookup = true → (s.record k).state.inLookup = true →
      (s.record j).serial = some serial → (s.record k).serial = some serial → j = k

/-- The committed load of each tree is the sum of F + A + O over its ACTIVE records, and with the release pending it stays
within K; a DISABLED tree has no ACTIVE record and no release pending (R6, R54). -/
def State.BudgetInv (s : State) : Prop :=
  (∀ k : Nat, (s.record k).state = .active → (s.record k).tree.isSome) ∧
    ∀ t : Tree,
      (s.load t).committed =
        (((List.range' 1 256).filter fun k => (s.record k).state == .active && (s.record k).tree == some t).map fun k =>
          s.loadOf k).sum ∧
      (s.load t).committed + (s.load t).release ≤ (s.engine t).params.k ∧
      ((s.engine t).state = .disabled →
        (s.load t).release = 0 ∧ ∀ k, ¬ ((s.record k).state = .active ∧ (s.record k).tree = some t))

end Sys2Proof.Machine
end

