-- ==== Sys2Proof/Certificates/Slice0/Obligations.lean ====
section
/-! DEFINITION. The statements about the EC-416, from the numbered rules of spec/: the machine and its reset, the links,
then block by block what each command does and what it leaves as it was. A record update says the frame: every field it
does not name is unchanged. -/

section

open Sys2Proof Sys2Proof.Machine

/-! ## The machine and its reset -/

/-- A step runs the command at the front of the queue on the state with the queue's rest. The model's own form of a block
(log entry 2); spec/95 names the steps.

With no command waiting the part idles: the model's choice, log entry 2. -/
def Obligations.StepRunsTheFrontCommandOrIdles : Prop :=
  (∀ (c : Instr) (rest : List Instr) (s : State), step { s with pending := c :: rest } = exec c { s with pending := rest }) ∧
  (∀ s : State, s.pending = [] → step s = .next s)

/-- No rule of the spec stops the part: every command answers a next state, from every state.

No command puts a command on the queue, or takes one from it. -/
def Obligations.EveryCommandAnswersAndKeepsTheQueue : Prop :=
  (∀ (c : Instr) (s : State), ∃ t, exec c s = .next t) ∧
  (∀ (c : Instr) (s t : State), exec c s = .next t → t.pending = s.pending)

/-- Power-on reset and a low RESET_N hold the part and put every block at its reset values; requests and transactions in
progress are lost, with every reception, every unresolved ranging attempt and every report from one block to another that is
still on its way (log entry 3). Taken at the moment the reset falls, with the latched roles held until release (log entry 18).

While either holds the part, no event is taken: nothing but a reset or the release changes it (R206).

At release every block holds its reset values, frame 0 begins, each role is latched from its straps, and a transaction
whose chip select is still asserted is to be disregarded whole (R1, R186, R206). A release of a part that nothing holds
has no effect (log entry 18). -/
def Obligations.ResetsHoldThePartUntilReleaseBeginsFrameZero : Prop :=
  (∀ s : State,
    (∃ t, exec .powerOnReset s = .next t ∧ t.powerHeld = true ∧ t.resetHeld = s.resetHeld ∧ t.BlocksReset ∧
      (∀ l : LinkId, (t.link l).role = (s.link l).role) ∧ t.pending = s.pending) ∧
    (∃ t, exec .resetN s = .next t ∧ t.resetHeld = true ∧ t.powerHeld = s.powerHeld ∧ t.BlocksReset ∧
      (∀ l : LinkId, (t.link l).role = (s.link l).role) ∧ t.pending = s.pending)) ∧
  (∀ (c : Instr) (s : State), ¬ s.OutOfReset → c ≠ .powerOnReset → c ≠ .resetN →
    (∀ straps selected, c ≠ .release straps selected) → exec c s = .next s) ∧
  (∀ (straps : Vector Straps 3) (selected : Vector Bool 3) (s : State),
    (¬ s.OutOfReset → ∃ t, exec (.release straps selected) s = .next t ∧ t.OutOfReset ∧ t.frame = 0 ∧ t.stepOffset = 0 ∧
      t.BlocksReset ∧ t.pending = s.pending ∧
      ∀ l : LinkId, (t.link l).straddling = selected[l.val] ∧
        (t.link l).role =
          if straps[l.val].role1 then (if straps[l.val].role0 then .control else .tally)
          else (if straps[l.val].role0 then .control else .off)) ∧
    (s.OutOfReset → exec (.release straps selected) s = .next s))

/-! ## Invariants of every step -/

/-- A lane never holds more than its capacity, 8 urgent and 32 normal directives, whatever the step (R14 and the lane
table). -/
def Obligations.EveryStepKeepsTheLaneCapacities : Prop :=
  ∀ s t : State, s.LanesInv → step s = .next t → t.LanesInv

/-- Every step keeps a link's slots in agreement with its state, and an OFF link IDLE with no flag latched (R186 to R188,
R192, R195). -/
def Obligations.EveryStepKeepsTheLinksSound : Prop :=
  ∀ s t : State, s.LinksInv → step s = .next t → t.LinksInv

/-- No step carries a tally past 281,474,976,710,655 (R171), nor a counter of a drop record past the range of its field
(spec/03 3.1). -/
def Obligations.EveryStepKeepsTalliesAndCountersInRange : Prop :=
  ∀ s t : State, s.TalliesInv → s.RecordsInv → step s = .next t → t.TalliesInv ∧ t.RecordsInv

/-- No step leaves one serial with two records of the lookup (R47). -/
def Obligations.EveryStepKeepsTheLookupUnique : Prop :=
  ∀ s t : State, s.LookupInv → step s = .next t → t.LookupInv

/-- The invariants hold of the part right after reset. -/
def Obligations.ResetMeetsTheInvariants : Prop :=
  State.reset.LanesInv ∧ State.reset.LinksInv ∧ State.reset.TalliesInv ∧ State.reset.RecordsInv ∧ State.reset.LookupInv ∧
    State.reset.BudgetInv

/-! ## Request frames -/

/-- The octets of a well-formed request, parsed, give back that request: no bit of a request frame is dropped (R205). -/
def Obligations.RequestFramesParseBack : Prop :=
  ∀ (i : Instr) (l : LinkId) (seq : Nat), i.wellFormed = true → i.requestSource = some (l, seq) →
    parseRequest l i.requestFrame = some i

/-! ## Links (spec/10) -/

/-- A request of a class that the role of its link does not allow is answered DENIED, and changes nothing but its own
link's slots (R191, R201). -/
def Obligations.ARequestOfAnotherRoleIsDenied : Prop :=
  ∀ (i : Instr) (l : LinkId) (seq : Nat) (cls : RequestClass) (s : State),
    i.requestSource = some (l, seq) → i.requestClass = some cls → s.Takes l → (s.link l).role.allows cls = false →
      exec i s = .next (s.served l i.requestCode seq .denied .none)

/-- Every write on a BUSY link is discarded whatever it carries: the discarded-write marker is set, the data output drives
zeros, and nothing else in the part changes (R189, R205). A WRITE_DISCARDED on a link that is not BUSY has no effect, since
a write there is taken.

An OFF link ignores every transaction (R186). On an active link, the transaction that straddles the release of reset is
disregarded whole: it changes nothing but that the next one is taken (R206). -/
def Obligations.BusyOffAndStraddlingLinksTakeNothing : Prop :=
  (∀ (i : Instr) (l : LinkId) (s : State), s.OutOfReset → s.Hears l → (s.link l).state = .busy →
    ((∃ seq, i.requestSource = some (l, seq)) ∨ i = .writeDiscarded l ∨
      (∃ o rest, i = .malformedRequest l (o :: rest))) →
      exec i s = .next (s.modLink l fun x => { x with discarded := true, sdo := .zeros })) ∧
  (∀ (l : LinkId) (s : State), s.OutOfReset → s.Hears l → (s.link l).state ≠ .busy →
    exec (.writeDiscarded l) s = .next s) ∧
  (∀ (i : Instr) (l : LinkId) (s : State), i.transactionLink = some l → s.OutOfReset →
    ((s.link l).role = .off → exec i s = .next s) ∧
    ((s.link l).role ≠ .off → (s.link l).straddling = true →
      (∀ c, i = .disregardedTransaction l c → c ≠ 16 ∧ c ≠ 32) →
      exec i s = .next (s.modLink l fun x => { x with straddling := false, sdo := .notDriven })))

/-- A tree number above 3 or a tag outside 1 to 256 is answered BAD_REQUEST; so is a profile above 15 on a request whose
tree or tag is in range. Nothing else changes (R191, R53, R57, R59, R64). That a profile above 15 is answered before a
VACANT tag or a known serial is the model's choice, log entry 29.

A request that names a VACANT tag, every parameter in range, is answered NO_RECORD, and changes nothing else (spec/03
3.7, R104, R181, R184). That this holds of a COLLECT of a tag that an earlier COLLECT made VACANT is the model's choice, log
entry 37. -/
def Obligations.BadNumbersAndVacantTagsAreRefused : Prop :=
  (∀ (i : Instr) (l : LinkId) (seq : Nat) (cls : RequestClass) (s : State),
    i.requestSource = some (l, seq) → i.requestClass = some cls → s.Serves l cls →
      ((∃ n, i.namedTree = some n ∧ 4 ≤ n) ∨ (∃ k, i.namedTag = some k ∧ (k = 0 ∨ 257 ≤ k)) ∨
        ((∀ n, i.namedTree = some n → n < 4) ∧ (∀ k, i.namedTag = some k → 1 ≤ k ∧ k ≤ 256) ∧
          ∃ p, i.namedProfile = some p ∧ 16 ≤ p)) →
        exec i s = .next (s.served l i.requestCode seq .badRequest .none)) ∧
  (∀ (i : Instr) (l : LinkId) (seq k : Nat) (cls : RequestClass) (s : State),
    i.requestSource = some (l, seq) → i.requestClass = some cls → s.Serves l cls → i.namedTag = some k →
      1 ≤ k → k ≤ 256 → (∀ p, i.namedProfile = some p → p < 16) → (s.record k).state = .vacant →
        exec i s = .next (s.served l i.requestCode seq .noRecord .none))

/-- A write of octets that spell no request is answered BAD_REQUEST with the code and the sequence number it carried; cut
short before its sequence number, with a number the spec does not give, one free value drawn. Nothing else changes (R188,
R191, R194; log entries 7, 20).

A write transaction whose octets spell a request is served as that request (R188, R192). -/
def Obligations.WrittenOctetsAreServedOrAnsweredBadRequest : Prop :=
  (∀ (l : LinkId) (s : State), s.Takes l →
    (∀ (code seq : Byte) (rest : List Byte), parseRequest l (code :: seq :: rest) = none →
      exec (.malformedRequest l (code :: seq :: rest)) s =
        .next (s.served l code.toNat seq.toNat .badRequest .none)) ∧
    (∀ code : Byte, ∃ seq : Byte, exec (.malformedRequest l [code]) s =
      .next { s.served l code.toNat seq.toNat .badRequest .none with freeCount := s.freeCount + 1 }) ∧
    exec (.malformedRequest l []) s = .next s) ∧
  (∀ (i : Instr) (l : LinkId) (seq : Nat) (s : State), i.wellFormed = true → i.requestSource = some (l, seq) →
    exec (.malformedRequest l i.requestFrame) s = exec i s)

/-- A read transaction of `clocked` octets returns the response frame on a READY link and the PENDING marker on any other,
cut or filled to that many octets, and consumes nothing: only what the data output drives changes (R190, R205).

A transaction whose command octet is neither 16 nor 32 leaves its link as it stands and does not drive the data output
(R205). -/
def Obligations.ReadsAndStrayTransactionsOnlyDriveTheOutput : Prop :=
  (∀ (l : LinkId) (clocked : Nat) (s : State), s.OutOfReset → s.Hears l →
    exec (.readTransaction l clocked) s =
      .next (s.modLink l fun x =>
        { x with
          sdo := .octets
            (let frame := match x.state, x.response with
              | .ready, some r => r.octets
              | _, _ => [0xF0#8]
            (frame ++ List.replicate (clocked - frame.length) 0x00#8).take clocked) })) ∧
  (∀ (l : LinkId) (command : Nat) (s : State), s.OutOfReset → s.Hears l → command ≠ 16 → command ≠ 32 →
    exec (.disregardedTransaction l command) s = .next (s.modLink l fun x => { x with sdo := .notDriven }))

/-- A report of a latching event, once taken, latches its flag and raises its count, stopping at 255, on every active link in
one step, and on no OFF link, and nothing else changes (R195).

Each change of a record's state is reported to the link unit with the tag, the old and new state and whether a link request
caused it. Taken, one that no request caused latches ROSTER so, and so does the step from RETIRED to VACANT; any other that a
request caused latches nothing (R42). -/
def Obligations.ALatchingEventReachesEveryActiveLink : Prop :=
  (∀ (index : Nat) (report : LinkReport) (s : State), s.OutOfReset → s.mail.attention[index]? = some report →
    let taken : State := { s with mail := { s.mail with attention := s.mail.attention.eraseIdx index } }
    (∀ kind,
      (report = .event kind ∨ ∃ k before after byRequest, report = .change k before after byRequest ∧ kind = .roster ∧
        (byRequest = false ∨ (before = .retired ∧ after = .vacant))) →
      ∃ t, exec (.attentionLatch index) s = .next t ∧ t = { taken with links := t.links } ∧
        ∀ l : LinkId,
          ((s.link l).role = .off → t.link l = s.link l) ∧
          ((s.link l).role ≠ .off →
            ((t.link l).flags.get kind).latched = true ∧
            ((t.link l).flags.get kind).count = min 255 (((s.link l).flags.get kind).count + 1) ∧
            ((t.link l).flags.get kind).shown = ((s.link l).flags.get kind).shown ∧
            (∀ other, other ≠ kind → (t.link l).flags.get other = (s.link l).flags.get other) ∧
            t.link l = { s.link l with flags := (t.link l).flags })) ∧
    (∀ k before after, report = .change k before after true → ¬ (before = .retired ∧ after = .vacant) →
      exec (.attentionLatch index) s = .next taken)) ∧
  (∀ (s : State) (k : Nat) (new : RecState) (byRequest : Bool), (s.record k).state ≠ new →
    (s.changeState k new byRequest).mail.attention =
      s.mail.attention ++ [.change k (s.record k).state new byRequest])

/-- The ATTN line of a link is asserted exactly while the link is active and one of its flags is both latched and shown: it
follows that condition at once, whatever changed it, and an OFF link's is deasserted. After reset no ATTN line asserts
(R197). -/
def Obligations.AttnFollowsTheLatchedAndShownFlags : Prop :=
  (∀ (s : State) (l : LinkId),
    (s.link l).attn = true ↔
      (s.link l).role ≠ .off ∧ ∃ kind, ((s.link l).flags.get kind).latched = true ∧ ((s.link l).flags.get kind).shown = true) ∧
  (∀ (s t : State) (c : Instr) (l : LinkId),
    (c = .powerOnReset ∨ c = .resetN ∨ (¬ s.OutOfReset ∧ ∃ straps selected, c = .release straps selected)) →
      exec c s = .next t →
        (t.link l).attn = false ∧ ∀ kind, ((t.link l).flags.get kind).shown = false)

/-- READ_ATTENTION returns the five flags with their counts and mask and the role, and clears the flags and counts of its
own link alone, its mask kept (R198).

SET_ATTENTION_MASK writes the five settings together, 1 shown and 0 hidden, clearing no flag and changing no count; any
other setting makes it BAD_REQUEST with no change (R199). -/
def Obligations.AttentionIsReadClearedAndMasked : Prop :=
  (∀ (l : LinkId) (seq : Nat) (s : State), s.Serves l .read →
    ∃ t, exec (.readAttention l seq) s = .next t ∧
      t = { s with links := s.links.set l.val (t.link l) } ∧
      t.link l =
        { (s.link l).served 33 (BitVec.ofNat 8 seq) .ok (.attention (s.link l).flags (s.link l).role) with
          flags := (t.link l).flags } ∧
      (∀ kind, (t.link l).flags.get kind = ⟨false, 0, ((s.link l).flags.get kind).shown⟩) ∧ (t.link l).attn = false) ∧
  (∀ (l : LinkId) (seq : Nat) (mask : MaskValues) (s : State), s.Serves l .read →
    ((∀ n ∈ mask.toList, n ≤ 1) →
      ∃ t, exec (.setAttentionMask l seq mask) s = .next t ∧
        t = { s with links := s.links.set l.val (t.link l) } ∧
        t.link l =
          { (s.link l).served 34 (BitVec.ofNat 8 seq) .ok (.mask (mask.toList.map fun n => n == 1)) with
            flags := (t.link l).flags } ∧
        (t.link l).flags.toList.map (·.shown) = mask.toList.map (fun n => n == 1) ∧
        ∀ kind, ((t.link l).flags.get kind).latched = ((s.link l).flags.get kind).latched ∧
          ((t.link l).flags.get kind).count = ((s.link l).flags.get kind).count) ∧
    ((∃ n ∈ mask.toList, 2 ≤ n) →
      exec (.setAttentionMask l seq mask) s = .next (s.served l 34 seq .badRequest .none)))

/-! ## Tree engines: requests (spec/01) -/

/-- ENABLE_TREE on a DISABLED tree makes an enable pending or joins it, its link left BUSY with the request frame in its
slot; on any other tree it is refused STATE (R4, R188, R193).

DISABLE_TREE on a RUNNING or CUT tree makes a disable pending or joins it, its link left BUSY; on a DISABLED tree, an
enable pending or not, it is refused STATE (R4, R5, R193).

RESUME_TREE is refused STATE on a tree that is not CUT. On a CUT tree with a resume pending it joins it and is answered OK,
whatever the inputs are. With none pending it is refused CUT_ACTIVE while CUT_IN is asserted and LIGHT_PRESENT while the
qualified LIGHT level is present; otherwise the resume is pending and the answer is OK at once (R167). -/
def Obligations.EnableDisableAndResumeWaitOrAreRefused : Prop :=
  (∀ (l : LinkId) (seq : Nat) (t : Tree) (s : State), s.Serves l .control →
    ((s.engine t).state = .disabled →
      exec (.enableTree l seq t.val) s =
        .next ((s.asked l (.enableTree l seq t.val)).modEngine t fun e => { e with enableWaiters := e.enableWaiters ++ [l] })) ∧
    ((s.engine t).state ≠ .disabled →
      exec (.enableTree l seq t.val) s = .next (s.served l 1 seq .state .none))) ∧
  (∀ (l : LinkId) (seq : Nat) (t : Tree) (s : State), s.Serves l .control →
    ((s.engine t).state ≠ .disabled →
      exec (.disableTree l seq t.val) s =
        .next ((s.asked l (.disableTree l seq t.val)).modEngine t fun e => { e with disableWaiters := e.disableWaiters ++ [l] })) ∧
    ((s.engine t).state = .disabled →
      exec (.disableTree l seq t.val) s = .next (s.served l 2 seq .state .none))) ∧
  (∀ (l : LinkId) (seq : Nat) (t : Tree) (s : State), s.Serves l .control →
    ((s.engine t).state ≠ .cut → exec (.resumeTree l seq t.val) s = .next (s.served l 27 seq .state .none)) ∧
    ((s.engine t).state = .cut → (s.engine t).resumePending = true →
      exec (.resumeTree l seq t.val) s = .next (s.served l 27 seq .ok .none)) ∧
    ((s.engine t).state = .cut → (s.engine t).resumePending = false → (s.engine t).cutInAsserted = true →
      exec (.resumeTree l seq t.val) s = .next (s.served l 27 seq .cutActive .none)) ∧
    ((s.engine t).state = .cut → (s.engine t).resumePending = false → (s.engine t).cutInAsserted = false →
      (s.engine t).light.level = true →
      exec (.resumeTree l seq t.val) s = .next (s.served l 27 seq .lightPresent .none)) ∧
    ((s.engine t).state = .cut → (s.engine t).resumePending = false → (s.engine t).cutInAsserted = false →
      (s.engine t).light.level = false →
      exec (.resumeTree l seq t.val) s =
        .next ((s.served l 27 seq .ok .none).modEngine t fun e => { e with resumePending := true })))

/-- SET_TREE is refused TREE_RUNNING on a tree that is not DISABLED or has an enable pending; with an empty selection or a
two-valued parameter outside its two it is BAD_REQUEST; otherwise every named value is clamped and written, d becomes the
new D, and the response carries the set in force, OK_ADJUSTED exactly where a value was clamped (R8). The order of the
first two tests is log entry 19. -/
def Obligations.SetTreeWritesTheNamedParametersClamped : Prop :=
  ∀ (l : LinkId) (seq : Nat) (t : Tree) (v : TreeValues) (s : State), s.Serves l .control →
    ((s.engine t).state ≠ .disabled ∨ (s.engine t).enableWaiters ≠ [] →
      exec (.setTree l seq t.val v) s = .next (s.served l 3 seq .treeRunning .none)) ∧
    ((s.engine t).state = .disabled → (s.engine t).enableWaiters = [] →
      ((v = {} ∨ (∃ n, v.autoHunt = some n ∧ 2 ≤ n) ∨ (∃ n, v.cutPol = some n ∧ 2 ≤ n)) →
        exec (.setTree l seq t.val v) s = .next (s.served l 3 seq .badRequest .none)) ∧
      (v ≠ {} → (∀ n, v.autoHunt = some n → n ≤ 1) → (∀ n, v.cutPol = some n → n ≤ 1) →
        ∃ u p status, exec (.setTree l seq t.val v) s = .next u ∧
          p = (
            let q := (s.engine t).params
            { tTarget := valueAfter 50000 262143 v.tTarget q.tTarget
              z := valueAfter 1000 50000 v.z q.z
              g := valueAfter 4 32 v.g q.g
              p := valueAfter 2 16 v.p q.p
              k := valueAfter 0 6000 v.k q.k
              d := valueAfter 4 64 v.d q.d
              wr := valueAfter 64 512 v.wr q.wr
              wd := valueAfter 32 2000 v.wd q.wd
              driftTol := valueAfter 1 64 v.driftTol q.driftTol
              driftLim := valueAfter 8 256 v.driftLim q.driftLim
              tailTol := valueAfter 1 16 v.tailTol q.tailTol
              strikeLim := valueAfter 1 15 v.strikeLim q.strikeLim
              autoHunt := (v.autoHunt.map fun n => n == 1).getD q.autoHunt
              cutPol := (v.cutPol.map fun n => if n = 1 then .lowWhenCut else .highWhenCut).getD q.cutPol } : TreeParams) ∧
          (status = .okAdjusted ↔
            (∃ x ∈ [(v.tTarget, p.tTarget), (v.z, p.z), (v.g, p.g), (v.p, p.p), (v.k, p.k), (v.d, p.d), (v.wr, p.wr),
              (v.wd, p.wd), (v.driftTol, p.driftTol), (v.driftLim, p.driftLim), (v.tailTol, p.tailTol),
              (v.strikeLim, p.strikeLim)], ∃ n, x.1 = some n ∧ x.2 ≠ n)) ∧
          (status = .ok ∨ status = .okAdjusted) ∧
          u = { (s.modEngine t fun e => { e with params := p }).modEnrol t fun e => { e with d := p.d } with
            links := s.links.set l.val ((s.link l).served 3 (BitVec.ofNat 8 seq) status (.params p))
            mail := { s.mail with
              cutIns := s.mail.cutIns ++
                if (u.engine t).cutInAsserted = (s.engine t).cutInAsserted then []
                else [⟨t, (u.engine t).cutInAsserted⟩] } }))

/-! ## The frame boundary (spec/01) -/

/-- A frame boundary begins the frame one greater, modulo 16,777,216, at step offset 0 (R1). It changes no profile, no
tally, no stranger, no log record and no period, and no command that waits.

With every tree DISABLED and no enable pending, the frame numbers still advance, and a boundary does nothing but that
and end the marks whose frame count was over in the frame before it: an offer is delivered, a settle is over, a departure
has cleared (R1, R7). A mark whose count this very boundary ends changes by its own command or at the next boundary: the
model's reading, log entry 5, by which the clauses about marks stand. -/
def Obligations.TheBoundaryCountsFramesInEveryTreeState : Prop :=
  (∀ s : State, s.OutOfReset →
    ∃ t, exec .frameBoundary s = .next t ∧ t.frame.toNat = (s.frame.toNat + 1) % 16777216 ∧ t.stepOffset = 0 ∧
      t = { s with
        frame := t.frame
        stepOffset := t.stepOffset
        engines := t.engines
        loads := t.loads
        enrols := t.enrols
        lights := t.lights
        hunts := t.hunts
        records := t.records
        trackers := t.trackers
        kept := t.kept
        links := t.links
        mail := t.mail }) ∧
  (∀ s : State, s.OutOfReset →
    (∀ t : Tree, (s.engine t).state = .disabled ∧ (s.engine t).enableWaiters = [] ∧ (s.engine t).disableWaiters = [] ∧
      (s.engine t).compile = none ∧ (s.engine t).expect = []) →
    ∃ u, exec .frameBoundary s = .next u ∧
      u = { s with frame := s.frame + 1, stepOffset := 0, records := u.records, trackers := u.trackers } ∧
      (∀ k, u.record k =
        { s.record k with
          offer := match (s.record k).offer with
            | .sent f => if 16 ≤ (s.frame - f).toInt then .delivered else .sent f
            | x => x
          departed := (s.record k).departed.filter fun f => decide ((s.frame - f).toInt < 5) }) ∧
      ∀ k, u.tracker k =
        { s.tracker k with
          mark := match (s.tracker k).mark with
            | .carried f => if 16 ≤ (s.frame - f).toInt then .settled else .carried f
            | x => x })

/-- What a boundary makes of a tree's state. A pending disable takes effect before all: DISABLED, no frame sent, plans,
lanes, places and queue empty, parameters kept. A pending enable makes it RUNNING with an empty plan in force; a cut
pending makes a RUNNING tree CUT with an empty plan in force; a pending resume makes a CUT tree RUNNING; and otherwise the
state stays (R4 to R7, R165, R168). Where the state changed, the link unit is told of a TREE event (R196).

Where the model chose: the order disable, enable, cut, resume is log entry 27; that a disable leaves no frame on the fibre
and ends the receptions is log entries 17 and 25; that the discovery count is 0 after the boundary of an enable, and does
not also rise there, is log entry 26. -/
def Obligations.BoundaryTakesTheTreeStateChanges : Prop :=
  ∀ (s u : State) (t : Tree), s.OutOfReset → exec .frameBoundary s = .next u →
    ((s.engine t).disableWaiters ≠ [] →
      (u.engine t).state = .disabled ∧ (u.engine t).planForce = none ∧ (u.engine t).planPrep = none ∧
        (u.engine t).compile = none ∧ (u.engine t).expect = [] ∧ (u.engine t).urgent = [] ∧ (u.engine t).normal = [] ∧
        (u.engine t).places.toList = [none, none, none, none] ∧ (u.engine t).queue = [] ∧ (u.engine t).down = none ∧
        (u.engine t).disableWaiters = [] ∧ (u.engine t).receptions = [] ∧ (u.engine t).lastAnnounce = none ∧
        (u.engine t).resumePending = false ∧ (u.engine t).params = (s.engine t).params) ∧
    ((s.engine t).disableWaiters = [] → (s.engine t).enableWaiters ≠ [] →
      (u.engine t).state = .running ∧ (u.engine t).enableWaiters = [] ∧ (u.enrol t).count = 0 ∧
        (u.engine t).planForce = some ⟨s.frame + 1, .empty, false, none, [], [], [], none⟩) ∧
    ((s.engine t).disableWaiters = [] → (s.engine t).enableWaiters = [] →
      ((s.engine t).state = .running → (s.hunt t).cutPending = true →
        (u.engine t).state = .cut ∧
          (u.engine t).planForce = some ⟨s.frame + 1, .empty, true, none, [], [], [], none⟩) ∧
      ((s.engine t).state = .cut → (s.engine t).resumePending = true →
        (u.engine t).state = .running ∧ (u.engine t).resumePending = false) ∧
      ((s.engine t).state = .running → (s.hunt t).cutPending = false → (u.engine t).state = .running) ∧
      ((s.engine t).state = .cut → (s.engine t).resumePending = false → (u.engine t).state = .cut) ∧
      ((s.engine t).state = .disabled → (u.engine t).state = .disabled)) ∧
    ((u.engine t).state ≠ (s.engine t).state →
      ∃ more, u.mail.attention = s.mail.attention ++ more ∧ .event .tree ∈ more)

/-- A disable as it takes effect suspends the tree's ANNOUNCED, RANGING, ACTIVE and PARKED records, clears the held flag and
the outstanding grants of all its records and keeps every other value of theirs; its load is 0, its ranging queue empty,
its hunt IDLE, its light watch at its reset values, and the delay tracker's items of each of its records too: the sample set
empty, no settle mark, cause OFFER, unplaced count 0; kept directives of the tree are gone; records, trackers and loads of
other trees, and every tally, stay as they are (R6, R90, R129, R147, R170).

The requests joined to a pending enable or disable are answered OK in the step where it takes effect; one of a tree
whose kept RESTORE a disable ends is answered STATE (R4 to R6, R63, R193).

FRAME_BOUNDARY is the step that does all this, with a report of each record it suspends and a TREE event for the change and
one for a hunt it ends (R42, R196), after the marks of offers and departures whose count is over (log entry 5);
beside that, only a DEPART of the tag carried on another tree writes a departure. -/
def Obligations.ADisableSuspendsRecordsAndEndsWaitingRequests : Prop :=
  (∀ (s u : State) (t : Tree) (enabled : Bool), (s.engine t).disableWaiters ≠ [] → s.changeTree t = (u, enabled) →
    (∀ k, s.isRecordOf t k = true →
      u.record k =
        { s.record k with
          state :=
            if (s.record k).state ∈ [RecState.announced, .ranging, .active, .parked] then .suspended
            else (s.record k).state
          held := false
          outstanding := 0 }) ∧
    (∀ k, s.isRecordOf t k = false → u.record k = s.record k ∧ u.tracker k = s.tracker k) ∧
    (∀ k, s.isRecordOf t k = true → u.tracker k = ⟨[], .none, .offer, 0⟩) ∧
    u.load t = ⟨0, 0, false⟩ ∧ (∀ x, x ≠ t → u.load x = s.load x ∧ u.engine x = s.engine x) ∧
    (u.enrol t).queue = [] ∧ (u.enrol t).mode = (s.enrol t).mode ∧ (u.enrol t).d = (s.enrol t).d ∧
    u.light t = ⟨[], none, [], none⟩ ∧ (u.hunt t).state = .idle ∧
    (u.hunt t).outcome = (if (s.hunt t).state = .idle then (s.hunt t).outcome else some (.disabled, s.frame)) ∧
    (∀ x ∈ u.kept, x ∈ s.kept ∧ x.tree ≠ t) ∧ u.tallies = s.tallies ∧ u.frame = s.frame) ∧
  (∀ (s : State) (t : Tree) (l : LinkId) (r : Request), (s.link l).request = some r →
    ((s.engine t).disableWaiters = [] → l ∈ (s.engine t).enableWaiters →
      ((s.changeTree t).1.link l).response = some ⟨r.code, r.seq, (s.link l).discarded, .ok, .none⟩ ∧
        ((s.changeTree t).1.link l).state = .ready) ∧
    (l ∈ (s.engine t).disableWaiters → (∀ x ∈ s.kept, x.tree = t → x.entry.origin ≠ .restore l) →
      ((s.changeTree t).1.link l).response = some ⟨r.code, r.seq, (s.link l).discarded, .ok, .none⟩ ∧
        ((s.changeTree t).1.link l).state = .ready) ∧
    ((s.engine t).disableWaiters ≠ [] → (∃ x ∈ s.kept, x.tree = t ∧ x.entry.origin = .restore l) →
      ((s.changeTree t).1.link l).response = some ⟨r.code, r.seq, (s.link l).discarded, .state, .none⟩ ∧
        ((s.changeTree t).1.link l).state = .ready)) ∧
  (∀ (s u : State) (t : Tree), s.OutOfReset → exec .frameBoundary s = .next u → (s.engine t).disableWaiters ≠ [] →
    let served := fun (k : Nat) => (s.record k).state ∈ [RecState.announced, .ranging, .active, .parked]
    (∀ k, s.isRecordOf t k = true →
      u.tracker k = ⟨[], .none, .offer, 0⟩ ∧
      u.record k =
        { s.record k with
          state := if served k then .suspended else (s.record k).state
          held := false
          outstanding := 0
          offer := match (s.record k).offer with
            | .sent f => if 16 ≤ (s.frame - f).toInt then .delivered else .sent f
            | x => x
          departed := (u.record k).departed } ∧
      ((∀ x ≠ t, ∀ y ∈ (s.engine x).urgent ++ (s.engine x).normal, y.dir ≠ .depart k) →
        (u.record k).departed = (s.record k).departed.filter fun f => decide ((s.frame - f).toInt < 5))) ∧
    u.load t = ⟨0, 0, false⟩ ∧ u.enrol t = { s.enrol t with queue := [], attempt := none } ∧
    u.light t = ⟨[], none, [], none⟩ ∧
    u.hunt t =
      { state := .idle, suspects := none, hold := none, round := 0, count := 0, verified := none, tests := []
        requested := 0, firstLit := false, pendingTest := .absent, roundDirs := [], cutPending := false
        outcome := if (s.hunt t).state = .idle then (s.hunt t).outcome else some (.disabled, s.frame + 1) } ∧
    (∀ x ∈ u.kept, x.tree ≠ t ∧ ∃ y ∈ s.kept, y.tree = x.tree ∧ y.entry = x.entry) ∧ u.tallies = s.tallies ∧
    (∃ more, u.mail.attention = s.mail.attention ++ more ∧
      (∀ k, s.isRecordOf t k = true → served k → .change k (s.record k).state .suspended false ∈ more) ∧
      (if (s.hunt t).state = .idle then 1 else 2) ≤ more.count (.event .tree)) ∧
    (∀ l ∈ (s.engine t).disableWaiters, ∀ r, (s.link l).request = some r →
      (∀ x ∈ s.kept, x.entry.origin ≠ .restore l) →
        (u.link l).response = some ⟨r.code, r.seq, (s.link l).discarded, .ok, .none⟩ ∧ (u.link l).state = .ready) ∧
    (∀ x ∈ s.kept, x.tree = t → ∀ l r, x.entry.origin = .restore l → (s.link l).request = some r →
      (∀ y : Tree, l ∉ (s.engine y).enableWaiters ∧ l ∉ (s.engine y).disableWaiters) →
        (u.link l).response = some ⟨r.code, r.seq, (s.link l).discarded, .state, .none⟩ ∧ (u.link l).state = .ready)) ∧
  (∀ (s u : State) (t : Tree), s.OutOfReset → exec .frameBoundary s = .next u →
    (s.engine t).disableWaiters = [] → ∀ l ∈ (s.engine t).enableWaiters, ∀ r, (s.link l).request = some r →
      (∀ x ∈ s.kept, x.entry.origin ≠ .restore l) →
        (u.link l).response = some ⟨r.code, r.seq, (s.link l).discarded, .ok, .none⟩ ∧ (u.link l).state = .ready)

/-- At dispatch the plan in preparation becomes the plan in force and joins the tail of the expectation list, with an
RX_RESET pulse to drive at grain 0 of its window and at the guard start of each slot, preamble start − G; each planned
record of the tree takes its payload into outstanding grants, saturating at 40,000, and no other record changes; the tally
unit is sent one report for each tag named, which are the ACTIVE records of the tree, each once, where the plan has the cut
mark (R11, R18, R122 to R124, R175).

The light watch enters the plan in its interval table: its frame, for each slot the tag and the grains from preamble start
− tail tolerance to burst end + tail tolerance, and its window; the table keeps the six most recent plans (R130).

A boundary makes the tree state change that is due, if any. A tree then DISABLED does no more. One then RUNNING or CUT does,
in order: the dispatch, with the list and the report; the four places, ascending, the header and the packets; the promotion
scan and, but at an enable, the discovery count; and the start of the compile for the next frame (R4, R6, R11, R15, R40,
R55, R67). Three points of that order are the model's choice: the reports of the dispatch, the naming of a cut plan's ACTIVE
records among them, come before the promotion scan (log entry 9); the count does not also rise at an enable (log entry 26);
the compile begins after the scan (log entry 38). That a plan with its frame ended leaves the list, and a compile in
progress ends, before the boundary is log entry 5. -/
def Obligations.DispatchPutsThePlanInForce : Prop :=
  (∀ (s : State) (t : Tree) (x : Plan), (s.engine t).planPrep = some x → (x.entries.map (·.tag)).Nodup →
    ((s.dispatch t).engine t).planForce = some x ∧ ((s.dispatch t).engine t).planPrep = none ∧
    ((s.dispatch t).engine t).expect = (s.engine t).expect ++
      [⟨x, [], false,
        (if x.window = none then [] else [0]) ++ x.entries.map fun b => b.preamble - (s.engine t).params.g⟩] ∧
    (let p := (s.engine t).params
    let entered : TableEntry :=
      ⟨x.frame, x.entries.map fun b =>
        ⟨b.tag, (b.preamble : Int) - p.tailTol, (b.preamble : Int) + p.p + 3 + b.payload + p.tailTol⟩, x.window⟩
    let table := (s.light t).table ++ [entered]
    (s.dispatch t).light t = { s.light t with table := table.drop (table.length - 6) }) ∧
    (∀ b ∈ x.entries, s.isRecordOf t b.tag = true →
      (s.dispatch t).record b.tag =
        { s.record b.tag with outstanding := min 40000 ((s.record b.tag).outstanding + b.payload) }) ∧
    (∀ k, (k ∉ x.entries.map (·.tag) ∨ s.isRecordOf t k = false) → (s.dispatch t).record k = s.record k) ∧
    (x.cutMark = false →
      (s.dispatch t).mail.dispatches = s.mail.dispatches ++
        (x.entries.map fun b => ⟨t, b.tag, b.payload, false, x.overList.contains b.tag⟩) ++
          x.withheld.map fun k => ⟨t, k, 0, true, false⟩) ∧
    (x.cutMark = true →
      ∃ named : List Nat, named.Nodup ∧ (∀ k, k ∈ named ↔ (s.record k).state = .active ∧ (s.record k).tree = some t) ∧
        (s.dispatch t).mail.dispatches = s.mail.dispatches ++ named.map fun k => ⟨t, k, 0, true, false⟩)) ∧
  (∀ (s u : State) (t : Tree), s.OutOfReset → exec .frameBoundary s = .next u →
    ∃ v w : State,
      (v.frame = s.frame + 1 ∧ v.stepOffset = 0 ∧
        v.engine t =
          { s.engine t with
            expect := (v.engine t).expect
            planPrep := (v.engine t).planPrep
            surplusPtr := (v.engine t).surplusPtr
            compile := none } ∧
        (∃ left, (s.engine t).expect = left ++ (v.engine t).expect) ∧
        ((s.engine t).compile = none →
          (v.engine t).planPrep = (s.engine t).planPrep ∧ (v.engine t).surplusPtr = (s.engine t).surplusPtr) ∧
        ((s.engine t).compile ≠ none → (v.engine t).planPrep ≠ none) ∧
        v.load t = s.load t ∧ v.enrol t = s.enrol t ∧ v.light t = s.light t ∧ v.hunt t = s.hunt t ∧
        (∀ k, s.isRecordOf t k = true →
          v.record k = { s.record k with offer := (v.record k).offer, departed := (v.record k).departed }) ∧
        v.mail.dispatches.filter (·.tree == t) = s.mail.dispatches.filter (·.tree == t) ∧
        v.mail.downs.filter (·.tree == t) = s.mail.downs.filter (·.tree == t)) ∧
      ((s.engine t).enableWaiters = [] → (s.engine t).disableWaiters = [] →
        ((s.engine t).state = .running → (s.hunt t).cutPending = false) →
        ((s.engine t).state = .cut → (s.engine t).resumePending = false) → v.changeTree t = (v, false)) ∧
      w = (v.changeTree t).1.modEngine t (fun x => { x with lastAnnounce := (w.engine t).lastAnnounce }) ∧
      let placed := [0, 1, 2, 3].foldl (fun x i => x.fillPlace t i) (w.dispatch t)
      let scanned := (placed.sendFrame t).promotionScan t
      let counted :=
        if (v.changeTree t).2 = true then scanned
        else scanned.modEnrol t fun x => { x with count := min 64 (x.count + 1) }
      let last := if (w.engine t).state = .disabled then w else counted.startCompile t (s.frame + 2)
      u.engine t = last.engine t ∧ u.load t = last.load t ∧ u.enrol t = last.enrol t ∧ u.light t = last.light t ∧
        u.hunt t = last.hunt t ∧
        (∀ k, s.isRecordOf t k = true → u.record k = { last.record k with departed := (u.record k).departed }) ∧
        u.mail.dispatches.filter (·.tree == t) = last.mail.dispatches.filter (·.tree == t) ∧
        u.mail.downs.filter (·.tree == t) = last.mail.downs.filter (·.tree == t))

/-- A place is free when it is empty or its directive was carried in the three frames before; a free place takes the head
of the urgent lane, else of the normal lane, else stays empty, with this frame f as carriage frame; any other place keeps
its directive (R15).

Each placement is reported. An ENROL_OFFER's makes the offer state of its record sent at f, unless a newer offer for it is
kept or waits in the lane (R76; one abandoned meanwhile: log entry 36). An offer's or a SET_DELAY's lowers the unplaced count,
and the settle mark is carried at f where that is then 0 and stays pending where not (R91; a count of 0 before: log entry
10). A DEPART's makes the departure carried from f while no other is kept or waits (R62; log entry 13). A round directive's
is recorded, and once all of the round are placed the pending test frame is f + 3 (R155). No other placement changes
anything.

The three marks that a frame count ends: an offer sent 16 frames ago is delivered, a settle carried 16 frames ago is
settled, a departure carried 5 frames ago has cleared; before that nothing changes, and nothing else ever does (R62, R76,
R91). Each changes by its own command, after the boundary that ends its count: log entry 5. -/
def Obligations.PlacesAndMarksFollowTheFrameCount : Prop :=
  (∀ (s : State) (t : Tree) (i : Fin 4),
    let e := s.engine t
    let isFree := ∀ x, e.places[i.val] = some x → 3 ≤ (s.frame - x.carriage).toInt
    (¬ isFree → s.fillPlace t i = s) ∧
    (isFree → ∀ x rest, e.urgent = x :: rest →
      s.fillPlace t i =
        (s.modEngine t fun e => { e with urgent := rest, places := e.places.set i.val (some ⟨x, s.frame⟩) }).placed t x) ∧
    (isFree → e.urgent = [] → ∀ x rest, e.normal = x :: rest →
      s.fillPlace t i =
        (s.modEngine t fun e => { e with normal := rest, places := e.places.set i.val (some ⟨x, s.frame⟩) }).placed t x) ∧
    (isFree → e.urgent = [] → e.normal = [] →
      s.fillPlace t i = s.modEngine t fun e => { e with places := e.places.set i.val none })) ∧
  (∀ (s : State) (t : Tree) (x : LaneEntry),
    let settling := fun (k : Nat) =>
      s.modTracker k fun y =>
        if y.unplaced = 0 then y
        else { y with unplaced := y.unplaced - 1, mark := if y.unplaced = 1 then .carried s.frame else .pending }
    let anyWaits := fun (here : Directive → Prop) =>
      (∃ y ∈ s.kept, here y.entry.dir) ∨ ∃ u : Tree, ∃ y ∈ (s.engine u).normal, here y.dir
    (∀ serial k delay, x = ⟨.enrolOffer serial k delay, .offer⟩ →
      let sends := s.isRecordOf t k = true ∧ (s.record k).serial = some serial ∧ (s.record k).offer = .waiting ∧
        ¬ ((∃ y ∈ s.kept, ∃ a b, y.entry = ⟨.enrolOffer a k b, .offer⟩) ∨
          ∃ y ∈ (s.engine t).normal, ∃ a b, y.dir = .enrolOffer a k b)
      (sends → s.placed t x = (settling k).modRecord k fun r => { r with offer := .sent s.frame }) ∧
      (¬ sends → s.placed t x = settling k)) ∧
    (∀ k delay, x.dir = .setDelay k delay → s.placed t x = settling k) ∧
    (∀ k, x.dir = .depart k →
      s.placed t x = (s.modRecord k fun r => { r with departed := some s.frame }) ∧
      (1 ≤ k → k ≤ 256 →
        (anyWaits (· = .depart k) → (s.placed t x).departure k = .pending) ∧
        (¬ anyWaits (· = .depart k) → (s.placed t x).departure k = .carried s.frame))) ∧
    (∀ a b, (x = ⟨.laserHold a b, .huntRound⟩ ∨ x = ⟨.laserRelease a b, .huntRound⟩) →
      s.placed t x =
        s.modHunt t fun h =>
          let dirs := h.roundDirs.map fun y => if y.dir = x.dir then { y with status := .placed s.frame } else y
          { h with
            roundDirs := dirs
            pendingTest :=
              if dirs.all fun y => (match y.status with | .placed _ => true | .waiting | .kept => false) then .frame (s.frame + 3)
              else h.pendingTest }) ∧
    (∀ a b, x.origin ≠ .huntRound →
      (x.dir = .laserShut a ∨ x.dir = .shutLift a ∨ x.dir = .laserHold a b ∨ x.dir = .laserRelease a b) →
        s.placed t x = s)) ∧
  (∀ (k : Nat) (s : State), s.OutOfReset →
    exec (.offerDelivered k) s =
      .next (s.modRecord k fun r =>
        { r with
          offer := match r.offer with
            | .sent f => if 16 ≤ (s.frame - f).toInt then .delivered else .sent f
            | x => x }) ∧
    exec (.settleMarkSettled k) s =
      .next (s.modTracker k fun x =>
        { x with
          mark := match x.mark with
            | .carried f => if 16 ≤ (s.frame - f).toInt then .settled else .carried f
            | y => y }) ∧
    exec (.departureClears k) s =
      .next (s.modRecord k fun r => { r with departed := r.departed.filter fun f => decide ((s.frame - f).toInt < 5) }))

/-- The promotion scan of a boundary: with the release pending above 0 or a scan due, both are cleared first, and the
tree's PARKED records are examined in ascending tag order; each whose F + A + O, added to the committed load, stays within K
becomes ACTIVE, and the others stay. Otherwise nothing changes. After a boundary no tree that is RUNNING or CUT has a
release pending or a scan due (R43, R55).

The downstream frame of a boundary carries the frame number, G, P and Z, the window and the entries of the plan in force,
and in each place its directive with copy number 1, 2 or 3 in the frame of its carriage and the two after. From the head of
the queue it takes the packets whose record is ACTIVE or PARKED on the tree, each 4 octets and its length, discarding the
others, up to the first that would pass 156,000 octets; one report of each packet placed goes to the tally unit, and the
payload space has 156,000 octets (R20, R40, R203). -/
def Obligations.ABoundaryPromotesRecordsAndFillsItsDownstreamFrame : Prop :=
  (∀ (s : State) (t : Tree),
    let l := s.load t
    let u := s.promotionScan t
    (l.release = 0 → l.scanDue = false → u = s) ∧
    (0 < l.release ∨ l.scanDue = true →
      ∃ sum : Nat → Nat,
        let fits := fun k => decide ((s.record k).state = .parked ∧ (s.record k).tree = some t ∧
          sum k + s.loadOf k ≤ (s.engine t).params.k)
        let promoted := (List.range' 1 256).filter fits
        sum 1 = l.committed ∧
        (∀ k, 1 ≤ k → k ≤ 256 → sum (k + 1) = if fits k then sum k + s.loadOf k else sum k) ∧
        u.load t = ⟨sum 257, 0, false⟩ ∧ (∀ x, x ≠ t → u.load x = s.load x) ∧
        (∀ k, u.record k =
          if k ∈ promoted then { s.record k with state := .active, missRun := 0 } else s.record k) ∧
        (∀ k, u.tracker k = if k ∈ promoted then { s.tracker k with samples := [] } else s.tracker k) ∧
        u = { s with
          loads := u.loads
          records := u.records
          trackers := u.trackers
          mail := { s.mail with
            changes := s.mail.changes ++ promoted.map fun k => ⟨k, .parked, .active⟩
            attention := s.mail.attention ++ promoted.map fun k => .change k .parked .active false } })) ∧
  (∀ (s u : State) (t : Tree), s.OutOfReset → exec .frameBoundary s = .next u → (u.engine t).state ≠ .disabled →
    (u.load t).release = 0 ∧ (u.load t).scanDue = false) ∧
  (∀ (s : State) (t : Tree) (x : Plan), (s.engine t).planForce = some x →
    let e := s.engine t
    let u := s.sendFrame t
    let takes := fun (y : Packet) => decide
      (((s.record y.tag).state = .active ∨ (s.record y.tag).state = .parked) ∧ (s.record y.tag).tree = some t)
    let used := fun (ys : List Packet) => (ys.map fun y => 4 + y.octets.length).sum
    ∃ (d : DownFrame) (examined rest : List Packet),
      e.queue = examined ++ rest ∧ u.engine t = { e with queue := rest, down := some d } ∧
      (∀ z, z ≠ t → u.engine z = s.engine z) ∧
      d.frame = s.frame ∧ d.g = e.params.g ∧ d.p = e.params.p ∧ d.z = e.params.z ∧ d.window = x.window ∧
      d.entries = x.entries ∧
      (∀ i : Fin 4,
        (e.places[i.val] = none → d.places[i.val]? = some none) ∧
        ∀ (y : Place) (j : Nat), e.places[i.val] = some y → j < 3 → s.frame = y.carriage + BitVec.ofNat 24 j →
          d.places[i.val]? = some (some (y.entry.dir, j + 1))) ∧
      d.packets = examined.filter takes ∧ used d.packets ≤ 156000 ∧ d.payload.length = 156000 ∧
      (∀ y ys, rest = y :: ys → takes y = true ∧ 156000 < used d.packets + (4 + y.octets.length)) ∧
      u = { s with
        engines := u.engines
        mail := { s.mail with
          downs := s.mail.downs ++ d.packets.map fun y => ⟨t, y.tag, y.octets.length⟩ } })

/-! ## Pulses and inputs (spec/01 1.6, 1.7) -/

/-- An RX_RESET pulse is driven at the step T_target + 8g after the boundary of an awaited plan's frame, for each of the
plan's grains g not yet pulsed, and not again: that grain leaves the plan's pulses, and every other pulse of it and of the
other awaited plans stays. At any other step nothing is driven. But for the timer, nothing else changes (R3, R18). Which
grains a dispatched plan has is DispatchPutsThePlanInForce.

The step of the event is the later of the timer and the offset the command carries: the model's choice, log entry 4. -/
def Obligations.RxResetPulsesAtThePlannedStep : Prop :=
  ∀ (t : Tree) (offset : Nat) (s : State), s.OutOfReset →
    let now := max s.stepOffset (min offset 79999)
    let due := fun (a : Awaited) (g : Nat) =>
      (s.frame - a.plan.frame).toInt * 80000 + now = ((s.engine t).params.tTarget : Int) + 8 * g
    ((∃ a ∈ (s.engine t).expect, ∃ g ∈ a.pulses, due a g) →
      ∃ a ∈ (s.engine t).expect, ∃ g ∈ a.pulses, due a g ∧
        exec (.rxResetPulse t offset) s =
          .next { s.modEngine t fun e =>
            { e with
              rxPulse := some (s.frame, now)
              expect := e.expect.map fun b =>
                if b.plan.frame = a.plan.frame then { b with pulses := b.pulses.filter (· != g) } else b } with
            stepOffset := now }) ∧
    ((∀ a ∈ (s.engine t).expect, ∀ g ∈ a.pulses, ¬ due a g) →
      exec (.rxResetPulse t offset) s = .next { s with stepOffset := now })

/-- A qualified level changes to a new level at the sample where that sample and the two before it all read the new level,
and at no other; both inputs are sampled in every tree state. A change of CUT_IN assertion is reported to the hunt
controller. Beside the filters, only the timer, the light watch, the hunt's verdicts, the log and reports can change
(R19).

The command delivers the sample taken, the timer being at its step, both filters moved and the report of CUT_IN made. The
delivery is for the judged position 8 grains earlier in upstream time: inside a DARK window of an awaited plan a present
level makes the verdict of a test in flight lit, and the light watch sees nothing; anywhere else the
light watch judges the level at that position; on a tree that is DISABLED, or for a frame whose plan the light watch does
not hold, nothing is judged (R3, R19, R131, R151).

The step of a sample is the later of the timer and 32 times its number: the model's choice, log entry 4. -/
def Obligations.InputSamplesAreFilteredAndJudged : Prop :=
  (∀ (t : Tree) (sample : Nat) (light cutIn : Bool) (s : State), s.OutOfReset →
    let filtered : Engine :=
      { s.engine t with
        light := ⟨if (s.engine t).light.recent = [light, light] then light else (s.engine t).light.level,
          (light :: (s.engine t).light.recent).take 2⟩
        cutIn := ⟨if (s.engine t).cutIn.recent = [cutIn, cutIn] then cutIn else (s.engine t).cutIn.level,
          (cutIn :: (s.engine t).cutIn.recent).take 2⟩ }
    let reported := s.mail.cutIns ++
      if filtered.cutInAsserted = (s.engine t).cutInAsserted then [] else [⟨t, filtered.cutInAsserted⟩]
    let sampled : State :=
      { s.modEngine t fun _ => filtered with
        stepOffset := max s.stepOffset (min (32 * sample) 79999)
        mail := { s.mail with cutIns := reported } }
    ∃ u, exec (.inputSample t sample light cutIn) s = .next u ∧
      u = sampled.deliverLight t ∧
      (∀ x, x ≠ t → u.engine x = s.engine x) ∧
      u.engine t = filtered ∧
      u.mail.cutIns = reported ∧
      u = { s with
        stepOffset := max s.stepOffset (min (32 * sample) 79999)
        engines := u.engines
        lights := u.lights
        hunts := u.hunts
        log := u.log
        overflow := u.overflow
        mail := u.mail }) ∧
  (∀ (s : State) (t : Tree),
    let steps := (s.frame.toNat + 16777216) * 80000 + s.stepOffset - (s.engine t).params.tTarget - 64
    let frame : FrameNo := BitVec.ofNat 24 (steps / 80000)
    let grain := steps % 80000 / 8
    ((∃ a ∈ (s.engine t).expect, a.plan.frame = frame ∧ ∃ width, a.plan.window = some (.dark width) ∧ grain < width) →
      s.deliverLight t = s.modHunt t fun h =>
        { h with
          tests := h.tests.map fun x =>
            if x.frame = frame then { x with lit := x.lit || (s.engine t).light.level } else x }) ∧
    ((∀ a ∈ (s.engine t).expect, a.plan.frame = frame → ∀ width, a.plan.window = some (.dark width) → width ≤ grain) →
      s.deliverLight t = s.judge t frame grain (s.engine t).light.level ∧
      ((s.engine t).state = .disabled ∨ (∀ x ∈ (s.light t).table, x.frame ≠ frame) → s.deliverLight t = s)))

/-- A reported assertion of CUT_IN: on a DISABLED tree nothing; on a RUNNING tree a cut becomes pending, a hunt in progress
ends EXTERNAL_CUT with its holds released, and the light watch is told; on a CUT tree a pending resume is cancelled and the
light watch is told. A deassertion changes no state (R164). That the release is kept behind ending directives kept before it
is log entry 12. -/
def Obligations.CutInAssertionPutsACutPending : Prop :=
  ∀ (s : State) (t : Tree) (before after : List CutReport), s.OutOfReset → (∀ r ∈ before, r.tree ≠ t) →
    (s.mail.cutIns = before ++ ⟨t, true⟩ :: after →
      let taken : State := { s with mail := { s.mail with cutIns := before ++ after } }
      let told := fun (x : State) =>
        { x with mail := { x.mail with lights := x.mail.lights ++ [⟨t, s.frame, .hunt .externalCut, none⟩] } }
      ((s.engine t).state = .disabled → exec (.cutInAssertion t) s = .next taken) ∧
      ((s.engine t).state = .running → ((s.hunt t).cutPending = true ∨ (s.hunt t).state = .idle) →
        exec (.cutInAssertion t) s = .next (told (taken.modHunt t fun h => { h with cutPending := true }))) ∧
      ((s.engine t).state = .running → (s.hunt t).cutPending = false → (s.hunt t).state ≠ .idle →
        ∃ u, exec (.cutInAssertion t) s = .next u ∧ (u.hunt t).state = .idle ∧ (u.hunt t).cutPending = true ∧
          (u.hunt t).outcome = some (.external, s.frame) ∧ (u.engine t).state = .running ∧
          u.mail.lights = s.mail.lights ++ [⟨t, s.frame, .hunt .externalCut, none⟩] ∧
          s.HuntOffered u t (s.endingKept t) [.laserRelease 1 256]) ∧
      ((s.engine t).state = .cut →
        exec (.cutInAssertion t) s = .next (told (taken.modEngine t fun e => { e with resumePending := false })))) ∧
    (s.mail.cutIns = before ++ ⟨t, false⟩ :: after →
      exec (.cutInDeassertion t) s = .next { s with mail := { s.mail with cutIns := before ++ after } })

/-! ## The grant compiler (spec/06) -/

/-- The start of a compile for frame m settles its kind by the first case that applies (R107). On a CUT tree it is EMPTY
with the cut mark. A dark test is due for a CONFIRMING hunt with fewer than two tests requested, and for a SPLITTING or
VERIFYING one with none in flight whose pending test frame is at once or reached: m joins the tests, the pending frame
becomes absent (R150). Discovery is due on a RUNNING tree in OPEN or AUTO with its hunt IDLE and the count at d: the count
becomes 0 and the sequence number rises (R67, R68). Ranging is due for a RANGING head, or an ANNOUNCED one that is ready,
with no attempt unresolved and no ranging SET_DELAY kept: the head becomes RANGING and the attempt is of m (R82, R83, R93).
Otherwise it is ORDINARY. No question after the first yes has an effect. A DISCOVERY plan
holds the single entry DISCOVER (R109); that its summary is absent is the model's choice, log entry 39.

At a boundary that is no enable of a tree RUNNING or CUT, the count rises by 1, up to 64, before the compile for the next
frame begins, which makes it 0 where it prepares a discovery frame (R67). -/
def Obligations.ACompileStartsByTheFirstCaseThatApplies : Prop :=
  (∀ (s : State) (t : Tree) (m : FrameNo),
    let e := s.engine t
    let h := s.hunt t
    let n := s.enrol t
    let testDue := (h.state = .confirming ∧ h.requested < 2) ∨
      ((h.state = .splitting ∨ h.state = .verifying) ∧ h.tests = [] ∧
        (h.pendingTest = .atOnce ∨ ∃ f, h.pendingTest = .frame f ∧ 0 ≤ (m - f).toInt))
    let discoveryDue := e.state = .running ∧ n.mode ≠ .closed ∧ h.state = .idle ∧ n.d ≤ n.count
    let ready := fun (k : Nat) =>
      (∃ f, (s.record k).offer = .sent f ∧ 3 ≤ (m - f).toInt) ∨ (s.record k).offer = .delivered ∨
        ((s.record k).offer = .none ∧ (∀ x ∈ s.kept, ∀ delay, x.entry ≠ ⟨.setDelay k delay, .corrected⟩) ∧
          ((s.tracker k).mark = .none ∨ (s.tracker k).mark = .settled ∨
            ∃ f, (s.tracker k).mark = .carried f ∧ ((s.tracker k).cause = .offer ∨ 3 ≤ (m - f).toInt)))
    let head := fun (k : Nat) => n.queue.head? = some k ∧ e.state = .running ∧ h.state = .idle ∧ n.attempt = none ∧
      (s.record k).tree = some t ∧ ∀ x ∈ s.kept, ∀ delay, x.entry ≠ ⟨.setDelay k delay, .ranged⟩
    let again := fun (k : Nat) => head k ∧ (s.record k).state = .ranging
    let first := fun (k : Nat) => head k ∧ (s.record k).state = .announced ∧ ready k
    let compiling := fun (u : State) (kind : PlanKind) (window : Option Window) =>
      u.modEngine t fun x => { x with planPrep := none, compile := some ⟨m, kind, window, 1, [], [], []⟩ }
    let finished := fun (u : State) (kind : PlanKind) (cutMark : Bool) (window : Option Window) =>
      u.modEngine t fun x =>
        { x with planPrep := some ⟨m, kind, cutMark, window, [], [], [], none⟩, compile := none }
    (e.state = .cut → s.startCompile t m = finished s .empty true none) ∧
    (e.state ≠ .cut → testDue →
      s.startCompile t m =
        compiling (s.modHunt t fun x =>
          { x with tests := x.tests ++ [⟨m, false⟩], requested := x.requested + 1, pendingTest := .absent })
          .darkTest (some (.dark e.params.wd))) ∧
    (e.state ≠ .cut → ¬ testDue → discoveryDue →
      ∃ notes, s.startCompile t m =
          finished (s.modEnrol t fun x =>
            { x with count := 0, seqNo := (x.seqNo + 1) % 65536, lastDiscovery := some m, notes := notes })
            .discovery false (some .discover) ∧
        ((s.startCompile t m).enrol t).noteOf m = ⟨m, false, false⟩ ∧
        ∀ f, f ≠ m → ((s.startCompile t m).enrol t).noteOf f = n.noteOf f) ∧
    (e.state ≠ .cut → ¬ testDue → ¬ discoveryDue →
      (∀ k, again k →
        s.startCompile t m =
          compiling (s.modEnrol t fun x => { x with attempt := some m })
            .ranging (some (.range k (e.params.wr / 2) e.params.wr))) ∧
      (∀ k, first k →
        s.startCompile t m =
          compiling { (s.modRecord k fun r => { r with state := .ranging }).modEnrol t fun x =>
              { x with attempt := some m } with
            mail := { s.mail with
              changes := s.mail.changes ++ [⟨k, .announced, .ranging⟩]
              attention := s.mail.attention ++ [.change k .announced .ranging false] } }
            .ranging (some (.range k (e.params.wr / 2) e.params.wr))) ∧
      ((∀ k, ¬ again k ∧ ¬ first k) → s.startCompile t m = compiling s .ordinary none))) ∧
  (∀ (s u : State) (t : Tree), s.OutOfReset → exec .frameBoundary s = .next u → (s.engine t).state ≠ .disabled →
    (s.engine t).enableWaiters = [] → (s.engine t).disableWaiters = [] →
      let n := s.enrol t
      let discovery := ∃ x, (u.engine t).planPrep = some x ∧ x.kind = .discovery
      (¬ discovery → (u.enrol t).count = min 64 (n.count + 1) ∧ (u.enrol t).seqNo = n.seqNo ∧
        (u.enrol t).lastDiscovery = n.lastDiscovery) ∧
      (discovery → n.d ≤ min 64 (n.count + 1) ∧ (u.enrol t).count = 0 ∧ (u.enrol t).seqNo = (n.seqNo + 1) % 65536 ∧
        (u.enrol t).lastDiscovery = some (s.frame + 2)))

/-- A compile reads the next record of its tree, whole with its profile: one that is not ACTIVE enters nothing, a held one
the withheld list, one the settle excludes nothing; any other is eligible with the effective values of R112, and enters
the over list where its over flag is set. Nothing but the compile changes (R106, R110 to R112). -/
def Obligations.ACompileReadsOneRecordWhole : Prop :=
  ∀ (t : Tree) (k : Nat) (c : Compile) (s : State), s.OutOfReset → (s.engine t).compile = some c → c.cursor ≤ k →
    s.isRecordOf t k = true → (∀ j, c.cursor ≤ j → j < k → s.isRecordOf t j = false) →
      let r := s.record k
      let p := s.profile r.profile
      let excluded := (s.tracker k).cause = .ranged ∧
        ((s.tracker k).mark = .pending ∨ ∃ f, (s.tracker k).mark = .carried f ∧ (c.frame - f).toInt < 4)
      let result := fun (d : Compile) => Host.Outcome.next (s.modEngine t fun e => { e with compile := some d })
      let passed := { c with cursor := k + 1 }
      (r.state ≠ .active → exec (.compileReadRecord t) s = result passed) ∧
      (r.state = .active → r.held = true →
        exec (.compileReadRecord t) s = result { passed with withheld := c.withheld ++ [k] }) ∧
      (r.state = .active → r.held = false → excluded → exec (.compileReadRecord t) s = result passed) ∧
      (r.state = .active → r.held = false → ¬ excluded → r.isOver = false →
        exec (.compileReadRecord t) s =
          result { passed with
            eligible := c.eligible ++ [⟨k, p.f, p.a, p.m, p.w, r.backlog, r.outstanding⟩] }) ∧
      (r.state = .active → r.held = false → ¬ excluded → r.isOver = true →
        exec (.compileReadRecord t) s =
          result { passed with
            eligible := c.eligible ++ [⟨k, p.f, min p.a p.mt, p.mt, 1, r.backlog, r.outstanding⟩]
            overList := c.overList ++ [k] })

/-- A compile that has read its last record ends: its plan is the plan in preparation, with one burst for each eligible
home in the order read, of base F + min(N, A) where N = max(0, min(demand, M) − F) and demand = max(0, ceil(backlog / 4) −
outstanding); where the residuals fit the surplus each extra is the residual and the surplus pointer stays (R105, R113 to
R116, R121).

The plan is that of buildPlan, whose slots TheSurplusIsSpentAndTheSlotsFitTheFrame places, and where the residuals do not fit
the extras and the pointer are those of divide, which it describes. -/
def Obligations.ACompileEndsWithThePlanOfItsHomes : Prop :=
  ∀ (t : Tree) (c : Compile) (s : State), s.OutOfReset → (s.engine t).compile = some c →
    (∀ k, c.cursor ≤ k → s.isRecordOf t k = false) →
      let p := (s.engine t).params
      let need := fun (x : Candidate) => min ((x.backlog + 3) / 4 - x.outstanding) x.m - x.f
      let base := fun (x : Candidate) => x.f + min (need x) x.a
      let u := 10000 - windowWidth c.window
      let surplus := u - (c.eligible.map fun x => p.g + p.p + 3 + base x).sum
      let residuals := (c.eligible.map fun x => need x - min (need x) x.a).sum
      let dealt := divide (s.engine t).surplusPtr surplus c.eligible
      ∃ (x : Plan) (pointer : Nat),
        (x, pointer) = buildPlan c p (s.engine t).surplusPtr ∧
        exec (.compileEnd t) s =
          .next (s.modEngine t fun e => { e with planPrep := some x, surplusPtr := pointer, compile := none }) ∧
        x.frame = c.frame ∧ x.kind = c.kind ∧ x.cutMark = false ∧ x.window = c.window ∧ x.withheld = c.withheld ∧
        x.overList = c.overList ∧ x.entries.map (·.tag) = c.eligible.map (·.tag) ∧
        x.entries.map (·.base) = c.eligible.map base ∧ (∀ b ∈ x.entries, b.payload = b.base + b.extra) ∧
        x.entries.map (·.extra) = c.eligible.map dealt.1 ∧ pointer = dealt.2.1 ∧
        (residuals ≤ surplus →
          x.entries.map (·.extra) = c.eligible.map (fun x => need x - min (need x) x.a) ∧
            pointer = (s.engine t).surplusPtr) ∧
        ∃ m, x.summary = some m ∧ m.u = u ∧ m.surplus = surplus ∧ m.residualTotal = residuals ∧
          m.pointerBefore = (s.engine t).surplusPtr ∧ m.pointerAfter = pointer ∧ (m.fitted = true ↔ residuals ≤ surplus)

/-- Where the residuals do not fit, every grain of the surplus is granted, no home receives more than its residual, and
each receives at least its proportional share min(r, floor(S × w / Wsum)) (R117, R118).

The leftover goes out in one round over the homes whose residual exceeds their share, from the surplus pointer on in
ascending tag order and then from tag 1 on: each receives what it still wishes while any is left, any other home its share
alone. The pointer becomes the tag after the last home that received any, 256 followed by 1, and stays where none did or
the residuals fit (R118, R119).

The slots of a compiled plan abut from the window's end on, each of O + payload grains with its preamble G grains in,
and while the bases fit the grains the window leaves, the last slot ends within the 10,000 grains of the frame (R21,
R120). -/
def Obligations.TheSurplusIsSpentAndTheSlotsFitTheFrame : Prop :=
  (∀ (pointer surplus : Nat) (cs : List Candidate), (cs.map (·.tag)).Nodup → surplus < residualTotal cs →
    (cs.map (divide pointer surplus cs).1).sum = surplus ∧
    ∀ c ∈ cs, (divide pointer surplus cs).1 c ≤ c.residual ∧
      min c.residual (surplus * c.w / ((cs.filter fun x => decide (0 < x.residual)).map (·.w)).sum) ≤
        (divide pointer surplus cs).1 c) ∧
  (∀ (pointer surplus : Nat) (cs : List Candidate), (cs.map (·.tag)).Pairwise (· < ·) →
    (residualTotal cs ≤ surplus → (divide pointer surplus cs).2.1 = pointer) ∧
    (surplus < residualTotal cs →
      let wsum := ((cs.filter fun x => decide (0 < x.residual)).map (·.w)).sum
      let share := fun (c : Candidate) => min c.residual (surplus * c.w / wsum)
      let wish := fun (c : Candidate) => c.residual - share c
      let wishing := cs.filter fun c => decide (share c < c.residual)
      let order := wishing.filter (fun c => decide (pointer ≤ c.tag)) ++ wishing.filter fun c => decide (c.tag < pointer)
      let leftover := surplus - (cs.map share).sum
      let extra := (divide pointer surplus cs).1
      (∀ c ∈ cs, share c = c.residual → extra c = share c) ∧
      (∀ before c after, order = before ++ c :: after →
        extra c = share c + min (wish c) (leftover - (before.map wish).sum) ∧
        ((before.map wish).sum < leftover → leftover ≤ (before.map wish).sum + wish c →
          (divide pointer surplus cs).2.1 = c.tag % 256 + 1)) ∧
      (leftover = 0 → (divide pointer surplus cs).2.1 = pointer))) ∧
  (∀ (c : Compile) (p : TreeParams) (pointer : Nat), (c.eligible.map (·.tag)).Nodup →
    windowWidth c.window + (c.eligible.map fun x => p.overhead + x.base).sum ≤ 10000 →
      let entries := (buildPlan c p pointer).1.entries
      (∀ b, entries.head? = some b → b.preamble = windowWidth c.window + p.g) ∧
      (∀ (i : Nat) (a b : Burst), entries[i]? = some a → entries[i + 1]? = some b →
        b.preamble = a.preamble + p.p + 3 + a.payload + p.g) ∧
      (∀ b ∈ entries, windowWidth c.window + p.g ≤ b.preamble ∧ b.preamble + p.p + 3 + b.payload ≤ 10000))

/-! ## Arrivals (spec/02) -/

/-- On a RUNNING or CUT tree a LOCK pulse is captured with the upstream frame and the step offset 8 × g + phase of the
grain counted at the pulse, and cuts short the headers captured less than 24 steps and the announces captured less than
56 steps before it; on a DISABLED tree it is ignored (R7, R27, R37). With nothing cut short, no report is made. Announces
cut short are reported so, in the order of their capture; a header cut short has the outcome of a bad header received at
the pulse (R27, R32, R37).

The step of the pulse is the later of the timer and the offset the command carries: the model's choice, log entry 4. Two
captures of one grain may have their phases in either order, so a distance down to −7 counts: log entry 23. -/
def Obligations.ALockPulseIsCaptured : Prop :=
  ∀ (t : Tree) (offset : Nat) (phase : Fin 8) (s : State), s.OutOfReset →
    let now := max s.stepOffset (min offset 79999)
    let steps := (s.frame.toNat + 16777216) * 80000 + now - (s.engine t).params.tTarget
    let frame : FrameNo := BitVec.ofNat 24 (steps / 80000)
    let at' := 8 * (steps % 80000 / 8) + phase.val
    let isCut := fun (r : Reception) =>
      let d : Int := (frame - r.frame).toInt * 80000 + at' - r.s
      decide (-8 < d ∧ d < if r.stage = .header then 24 else 56)
    let cut := (s.engine t).receptions.filter isCut
    ((s.engine t).state = .disabled → exec (.lockCapture t offset phase) s = .next { s with stepOffset := now }) ∧
    ((s.engine t).state ≠ .disabled →
      ∃ u, exec (.lockCapture t offset phase) s = .next u ∧
        u = { s with stepOffset := now, engines := u.engines, mail := u.mail } ∧
        (∀ x, x ≠ t → u.engine x = s.engine x) ∧
        u.engine t = { s.engine t with
          receptions := (s.engine t).receptions.filter (fun r => !isCut r) ++ [⟨frame, at', .header⟩]
          expect := (u.engine t).expect
          lastAnnounce := (u.engine t).lastAnnounce } ∧
        ((∀ r ∈ cut, r.stage ≠ .header) →
          (u.engine t).expect = (s.engine t).expect ∧
            u.mail = { s.mail with discovery := s.mail.discovery ++ cut.map fun r => ⟨t, r.frame, .cutShort⟩ }) ∧
        (∀ r v, cut = [r] → r.stage = .header →
          exec (.headerReceipt t [] []) (s.modEngine t fun e => { e with receptions := [r] }) = .next v →
            u.mail = v.mail ∧ (u.engine t).expect = (v.engine t).expect))

/-- A header is good when it has 12 octets, its check agrees with the fields before it, its tag lies in 0 to 256, and the
tag is 0 exactly when its kind is ANNOUNCE; then its tag, kind, user octets and backlog are read from it. Any other is bad
(R24, R204).

The packets handed on from user octets are those behind their 2-octet lengths of 1 to 9,600, in order, from the first octet
on; the walk ends where the octets do, at a length of 0, and at one over 9,600 or past the end (R38).

The first lock of a burst slot decides it when its header is received: a good header with the planned tag is valid, and
is reported with its sample, clamped user octets and backlog, and to the light watch with the slot's planned interval, its
packets handed on behind their tag prefix while the tag is a record of the tree; a bad header is one miss; any other tag
one miss and a WRONG_SLOT. A later lock of the slot is unsolicited (R28 to R34, R36, R38). That an ANNOUNCE, whose tag is
0, is such another tag is the model's choice, log entry 35; so is the reading of a header operand that has not 12 octets, and
of a payload operand shorter than the user octets, log entry 22. -/
def Obligations.TheFirstLockDecidesItsSlot : Prop :=
  (∀ (o : List Byte) (tag user backlog : Nat) (announce : Bool),
    judgeHeader o = .good tag announce user backlog ↔
      ∃ kind : Byte, o.length = 12 ∧ o.drop 8 = natOctets 4 (headerCheck (o.take 8)).toNat ∧
        octetsNat (o.take 2) = tag ∧ tag ≤ 256 ∧ o[2]? = some kind ∧ announce = kind.getLsbD 0 ∧
        (tag = 0 ↔ announce = true) ∧ octetsNat ((o.drop 3).take 2) = user ∧ octetsNat ((o.drop 5).take 3) = backlog) ∧
  (∀ (n : Nat) (octets : List Byte), octets.length ≤ n →
    ∃ rest, octets = ((walkPackets n octets).flatMap fun x => natOctets 2 x.length ++ x) ++ rest ∧
      (∀ x ∈ walkPackets n octets, 1 ≤ x.length ∧ x.length ≤ 9600) ∧
      (rest.length < 2 ∨ octetsNat (rest.take 2) = 0 ∨ 9600 < octetsNat (rest.take 2) ∨
        rest.length < 2 + octetsNat (rest.take 2))) ∧
  ∀ (t : Tree) (header payload : List Byte) (before after : List Reception) (r : Reception) (a : Awaited) (b : Burst)
    (s : State),
    s.OutOfReset → (s.engine t).receptions = before ++ r :: after → r.stage = .header → (∀ x ∈ before, x.stage ≠ .header) →
    a ∈ (s.engine t).expect → a.plan.frame = r.frame →
    (s.engine t).expect.Pairwise (fun x y => x.plan.frame ≠ y.plan.frame) → b ∈ a.plan.entries →
    8 * (b.preamble - (s.engine t).params.g) ≤ r.s →
    r.s < 8 * (b.preamble + (s.engine t).params.p + 3 + b.payload) →
    (∀ x ∈ a.plan.entries, 8 * (x.preamble - (s.engine t).params.g) ≤ r.s →
      r.s < 8 * (x.preamble + (s.engine t).params.p + 3 + x.payload) → x = b) →
      let p := (s.engine t).params
      let received := s.modEngine t fun e => { e with receptions := before ++ after }
      let resolved := received.modEngine t fun e =>
        { e with expect := e.expect.map fun x => if x.plan.frame = r.frame then { x with arrived := x.arrived ++ [b.tag] } else x }
      let missed := { resolved with mail := { s.mail with misses := s.mail.misses ++ [⟨t, b.tag, b.payload⟩] } }
      (b.tag ∉ a.arrived →
        (∀ announce user backlog, judgeHeader header = .good b.tag announce user backlog →
          exec (.headerReceipt t header payload) s =
            .next { resolved with
              mail := { s.mail with
                valids := s.mail.valids ++ [⟨t, b.tag, backlog, b.payload⟩]
                samples := s.mail.samples ++ [⟨t, b.tag, r.frame, (r.s : Int) - (b.preamble + p.p) * 8, false⟩]
                ups := s.mail.ups ++ [⟨t, b.tag, min user (b.payload * 4), decide (b.payload * 4 < user)⟩]
                cleans := s.mail.cleans ++
                  [⟨t, b.tag, r.frame, b.preamble - p.g, b.preamble + p.p + 3 + b.payload⟩] }
              uplink := s.uplink ++
                if s.isRecordOf t b.tag then
                  (walkPackets (min user (b.payload * 4)) (payload.take (min user (b.payload * 4)))).map fun x =>
                    natOctets 4 b.tag ++ x
                else [] }) ∧
        (judgeHeader header = .bad → exec (.headerReceipt t header payload) s = .next missed) ∧
        (∀ k announce user backlog, judgeHeader header = .good k announce user backlog → k ≠ b.tag →
          exec (.headerReceipt t header payload) s =
            .next { missed with
              mail := { missed.mail with
                lights := s.mail.lights ++
                  [⟨t, r.frame, .wrongSlot (if s.isRecordOf t k then some k else none), none⟩] } })) ∧
      (b.tag ∈ a.arrived →
        exec (.headerReceipt t header payload) s =
          .next { received with
            mail := { s.mail with
              lights := s.mail.lights ++
                [⟨t, r.frame,
                  match judgeHeader header with
                  | .good k _ _ _ => if s.isRecordOf t k then .wrongSlot (some k) else .stray
                  | .bad => .stray, some r.s⟩] } })

/-- A capture is unsolicited in a frame whose plan is not in the expectation list, and in an awaited plan where it lies in no
burst slot and no window, an EMPTY plan among them: WRONG_SLOT for a good header whose tag is a record of the tree, STRAY
for any other, with the capture frame and offset (R28, R34).

One that lies in no slot but in the plan's window is the window's. The first capture of a ranging window is reported with
its offset, its sample and, its header good, its tag and backlog, and stores the backlog of the right tag; a later one is
discarded. One in a DARK window yields nothing. One in a discovery window is reported at once, or, an announce, received
on to the end of its payload, or reported cut short where a later lock already falls before that end (R37).

Log entry 23: two captures of one grain may have their phases in either order, so a distance down to −7 overlaps. Log entry
8: what lastAnnounce holds. -/
def Obligations.CapturesOutsideSlotsAreUnsolicitedOrTheWindows : Prop :=
  ∀ (t : Tree) (header payload : List Byte) (before after : List Reception) (r : Reception) (s : State),
    s.OutOfReset → (s.engine t).receptions = before ++ r :: after → r.stage = .header → (∀ x ∈ before, x.stage ≠ .header) →
      let p := (s.engine t).params
      let received := s.modEngine t fun e => { e with receptions := before ++ after }
      let unsolicited := exec (.headerReceipt t header payload) s =
        .next { received with
          mail := { s.mail with
            lights := s.mail.lights ++
              [⟨t, r.frame,
                match judgeHeader header with
                | .good k _ _ _ => if s.isRecordOf t k then .wrongSlot (some k) else .stray
                | .bad => .stray, some r.s⟩] } }
      ((∀ a ∈ (s.engine t).expect, a.plan.frame ≠ r.frame) → unsolicited) ∧
      ∀ a ∈ (s.engine t).expect, a.plan.frame = r.frame →
        (s.engine t).expect.Pairwise (fun x y => x.plan.frame ≠ y.plan.frame) →
        (∀ b ∈ a.plan.entries, ¬ (8 * (b.preamble - p.g) ≤ r.s ∧ r.s < 8 * (b.preamble + p.p + 3 + b.payload))) →
        (a.plan.window = none → unsolicited) ∧
        (∀ width, (a.plan.window = some (.dark width) ∨ ∃ tag expected, a.plan.window = some (.range tag expected width)) →
          8 * width ≤ r.s → unsolicited) ∧
        (∀ width, r.s < 8 * width →
          (a.plan.window = some (.dark width) → exec (.headerReceipt t header payload) s = .next received) ∧
          (∀ tag expected, a.plan.window = some (.range tag expected width) →
            (a.windowHit = true → exec (.headerReceipt t header payload) s = .next received) ∧
            (a.windowHit = false →
              ∃ u, exec (.headerReceipt t header payload) s = .next u ∧
                u.mail = { s.mail with
                  ranging := s.mail.ranging ++
                    [⟨t, r.frame, tag, .capture r.s ((r.s : Int) - (expected + p.p) * 8)
                      (match judgeHeader header with
                      | .good k _ _ backlog => some (k, backlog)
                      | .bad => none)⟩] } ∧
                (∀ k, u.record k =
                  match judgeHeader header with
                  | .good j _ _ backlog =>
                    if j = tag ∧ k = tag ∧ s.isRecordOf t tag = true then { s.record k with backlog := backlog } else s.record k
                  | .bad => s.record k) ∧
                (u.engine t) = { s.engine t with
                  receptions := before ++ after
                  expect := (s.engine t).expect.map fun x =>
                    if x.plan.frame = r.frame then { x with windowHit := true } else x } ∧
                (∀ x, x ≠ t → u.engine x = s.engine x) ∧
                u = { s with engines := u.engines, records := u.records, mail := u.mail }))) ∧
        (a.plan.window = some .discover →
          let overlapping : Bool :=
            match (s.engine t).lastAnnounce with
            | some (f, at') =>
              let d : Int := (r.frame - f).toInt * 80000 + r.s - at'
              decide (-8 < d ∧ d < 56)
            | none => false
          let cutShort := ∃ x ∈ before ++ after, ∃ d : Int,
            d = (x.frame - r.frame).toInt * 80000 + x.s - r.s ∧ -8 < d ∧ d < 56
          let reported := fun (body : DiscoveryBody) =>
            { received with mail := { s.mail with discovery := s.mail.discovery ++ [⟨t, r.frame, body⟩] } }
          (judgeHeader header = .bad →
            exec (.headerReceipt t header payload) s = .next (reported (.badHeader overlapping))) ∧
          (∀ k user backlog, judgeHeader header = .good k false user backlog →
            exec (.headerReceipt t header payload) s = .next (reported (.plain k overlapping))) ∧
          (∀ k user backlog, judgeHeader header = .good k true user backlog → ¬ cutShort →
            exec (.headerReceipt t header payload) s =
              .next (s.modEngine t fun e =>
                { e with
                  lastAnnounce := some (r.frame, r.s)
                  receptions := before ++ after ++ [⟨r.frame, r.s, .payload overlapping⟩] })) ∧
          (∀ k user backlog, judgeHeader header = .good k true user backlog → cutShort →
            exec (.headerReceipt t header payload) s =
              .next ((reported .cutShort).modEngine t fun e => { e with lastAnnounce := some (r.frame, r.s) })))

/-- An announce is reported when its payload ends, with the serial and the stagger of its payload and its overlap mark; its
reception is over, and nothing else changes (R25, R37, R204).

The oldest awaited plan leaves the list once its upstream frame has ended, T_target + 80,000 steps after its boundary,
and every header and announce payload captured in it has been received. Each slot without an arrival is then one miss, in
the plan's order, and the end of its window is reported to the block it is for; before that nothing leaves (R26, R35). The
step of the event is the later of the timer and the offset the command carries: the model's choice, log entry 4.

The latest announce, whose end marks later captures as overlapping, is forgotten six frames on, when every new capture lies
past that end, unless a capture still being received falls before it (R37; log entries 8 and 23). -/
def Obligations.AnnouncesAndPlansEndWithTheirReports : Prop :=
  (∀ (t : Tree) (payload : List Byte) (before after : List Reception) (r : Reception) (overlapping : Bool) (s : State),
    s.OutOfReset → payload.length = 16 → (s.engine t).receptions = before ++ r :: after →
    r.stage = .payload overlapping → (∀ x ∈ before, x.stage = .header) →
      exec (.announcePayloadEnd t payload) s =
        .next { (s.modEngine t fun e => { e with receptions := before ++ after }) with
          mail := { s.mail with
            discovery := s.mail.discovery ++
              [⟨t, r.frame, .announce r.s (BitVec.ofNat 64 (octetsNat (payload.take 8)))
                (octetsNat ((payload.drop 8).take 2) % 2048) overlapping⟩] } }) ∧
  (∀ (t : Tree) (offset : Nat) (a : Awaited) (rest : List Awaited) (s : State), s.OutOfReset →
    (s.engine t).expect = a :: rest →
      let now := max s.stepOffset (min offset 79999)
      let isOver := ((s.engine t).params.tTarget : Int) + 80000 ≤ (s.frame - a.plan.frame).toInt * 80000 + now ∧
        ∀ r ∈ (s.engine t).receptions, r.frame ≠ a.plan.frame
      (isOver →
        exec (.planLeavesList t offset) s =
          .next { (s.modEngine t fun e => { e with expect := rest }) with
            stepOffset := now
            mail := { s.mail with
              misses := s.mail.misses ++
                (a.plan.entries.filter fun b => decide (b.tag ∉ a.arrived)).map fun b => ⟨t, b.tag, b.payload⟩
              darkEnds := s.mail.darkEnds ++
                match a.plan.window with
                | some (.dark _) => [⟨t, a.plan.frame⟩]
                | _ => []
              ranging := s.mail.ranging ++
                match a.plan.window with
                | some (.range tag _ _) => [⟨t, a.plan.frame, tag, .windowEnd (!a.windowHit)⟩]
                | _ => []
              discovery := s.mail.discovery ++
                match a.plan.window with
                | some .discover => [⟨t, a.plan.frame, .windowEnd⟩]
                | _ => [] } }) ∧
      (¬ isOver → exec (.planLeavesList t offset) s = .next { s with stepOffset := now })) ∧
  (∀ (s u : State) (t : Tree) (f : FrameNo) (at' : Nat), s.OutOfReset → exec .frameBoundary s = .next u →
    (u.engine t).state ≠ .disabled → (u.engine t).lastAnnounce = some (f, at') →
      (s.engine t).lastAnnounce = some (f, at') ∧ ((u.frame - f).toInt < 6 ∨
        ∃ r ∈ (u.engine t).receptions, ∃ d : Int, d = (r.frame - f).toInt * 80000 + r.s - at' ∧ -8 < d ∧ d < 56))

/-- A packet joins the tail of the queue of its record's tree when the record is ACTIVE or PARKED, the tree is not DISABLED,
its length is 1 to 9,600 and the queue's octets stay within 262,144; otherwise it is discarded and nothing changes
(R39). -/
def Obligations.APacketJoinsItsTreesQueue : Prop :=
  ∀ (k : Nat) (octets : List Byte) (s : State), s.OutOfReset →
    (∀ t, ((s.record k).state = .active ∨ (s.record k).state = .parked) → (s.record k).tree = some t →
      (s.engine t).state ≠ .disabled → 1 ≤ octets.length → octets.length ≤ 9600 →
      ((s.engine t).queue.map fun x => x.octets.length).sum + octets.length ≤ 262144 →
        exec (.downstreamPacketArrival k octets) s =
          .next (s.modEngine t fun e => { e with queue := e.queue ++ [⟨k, octets⟩] })) ∧
    ((k = 0 ∨ 256 < k ∨ ((s.record k).state ≠ .active ∧ (s.record k).state ≠ .parked) ∨ octets.length = 0 ∨
        9600 < octets.length ∨
        ∃ t, (s.record k).tree = some t ∧ ((s.engine t).state = .disabled ∨
          262144 < ((s.engine t).queue.map fun x => x.octets.length).sum + octets.length)) →
      exec (.downstreamPacketArrival k octets) s = .next s)

/-! ## The roster (spec/03) -/

/-- PROVISION is refused DUPLICATE with the tag that holds the serial in the lookup, POOL_FULL where no record is VACANT
with departure none, TREE_FULL where the tree has 96 records that are not VACANT; otherwise the lowest such tag becomes
EXPECTED with the serial, tree and profile, provisioned, every other field as a VACANT record's, the stranger entries
of the serial are gone, and so is every report of a tree engine still on its way for an earlier record of the tag (R36, R41,
R48, R57, R79; log entry 15). -/
def Obligations.ProvisionFillsTheLowestFreeTag : Prop :=
  ∀ (l : LinkId) (seq : Nat) (serial : Serial) (t : Tree) (profile : Nat) (s : State),
    s.Serves l .control → profile < 16 →
      let holds := fun k => (s.record k).state.inLookup = true ∧ (s.record k).serial = some serial
      let isFree := fun k => 1 ≤ k ∧ k ≤ 256 ∧ (s.record k).state = .vacant ∧ s.departure k = .none
      let onTree := ((List.range' 1 256).filter fun k => s.isRecordOf t k).length
      (∀ k, holds k → (∀ j, j < k → ¬ holds j) →
        exec (.provision l seq serial t.val profile) s = .next (s.served l 6 seq .duplicate (.tag k))) ∧
      ((∀ k, ¬ holds k) → (∀ k, ¬ isFree k) →
        exec (.provision l seq serial t.val profile) s = .next (s.served l 6 seq .poolFull .none)) ∧
      ((∀ k, ¬ holds k) → (∃ k, isFree k) → 96 ≤ onTree →
        exec (.provision l seq serial t.val profile) s = .next (s.served l 6 seq .treeFull .none)) ∧
      (∀ k, (∀ j, ¬ holds j) → isFree k → (∀ j, j < k → ¬ isFree j) → onTree < 96 →
        ∃ u, exec (.provision l seq serial t.val profile) s = .next u ∧
          u.record k = ⟨.expected, some serial, some t, profile, 0, false, false, 0, 0, 0, 0, 0, 0, .none, true, none⟩ ∧
          (∀ j, j ≠ k → u.record j = s.record j) ∧
          (∀ n, u.stranger n = (s.stranger n).filter fun x => x.serial != serial) ∧
          u = { s.served l 6 seq .ok (.tag k) with
            records := u.records
            strangers := u.strangers
            mail := { s.mail with
              valids := s.mail.valids.filter (·.tag != k)
              misses := s.mail.misses.filter (·.tag != k)
              samples := s.mail.samples.filter (·.tag != k)
              ups := s.mail.ups.filter (·.tag != k)
              downs := s.mail.downs.filter (·.tag != k)
              dispatches := s.mail.dispatches.filter (·.tag != k)
              cleans := s.mail.cleans.filter (·.tag != k)
              changes := s.mail.changes ++ [⟨k, .vacant, .expected⟩]
              attention := s.mail.attention ++ [.change k .vacant .expected true] } })

/-- ASSIGN_PROFILE is refused STATE for a RETIRED record and, for an ACTIVE one, OVER_BUDGET where a rise of F + A would
carry load and release past K; otherwise profile and provisioned are written, the load of an ACTIVE record follows, a
PARKED one makes a scan due, and the over flag is evaluated against the new profile (R54, R59, R176, R177).

SET_PROFILE with an empty selection is BAD_REQUEST; where a tree's load would rise past K less its release pending, it
is OVER_BUDGET for the lowest such tree; otherwise the clamped values are written, falls join the release pending, rises
the load, a tree with a PARKED record of the profile has a scan due, and every record of the profile has its over flag
evaluated (R53, R176, R177). -/
def Obligations.ProfileChangesAreTestedAgainstTheBudget : Prop :=
  (∀ (l : LinkId) (seq k profile : Nat) (t : Tree) (s : State), s.Serves l .control → profile < 16 →
    (s.record k).state ≠ .vacant → (s.record k).tree = some t →
      let r := s.record k
      let old := (s.profile r.profile).f + (s.profile r.profile).a
      let new := (s.profile profile).f + (s.profile profile).a
      let isOver := decide ((s.profile profile).q ≠ 0 ∧ (s.profile profile).q * 1048576 ≤ (s.tally k).live.up)
      let loadAfter : Load :=
        if r.state = .active then
          ⟨(s.load t).committed + new - old, (s.load t).release + (old - new), (s.load t).scanDue⟩
        else if r.state = .parked then { s.load t with scanDue := true }
        else s.load t
      (r.state = .retired → exec (.assignProfile l seq k profile) s = .next (s.served l 7 seq .state .none)) ∧
      (r.state = .active → old < new → (s.engine t).params.k < (s.load t).committed + (s.load t).release + (new - old) →
        exec (.assignProfile l seq k profile) s =
          .next (s.served l 7 seq .overBudget
            (.budget t (s.load t).committed (s.load t).release (s.engine t).params.k))) ∧
      (r.state ≠ .retired → (r.state = .active → old < new →
          (s.load t).committed + (s.load t).release + (new - old) ≤ (s.engine t).params.k) →
        ∃ u, exec (.assignProfile l seq k profile) s = .next u ∧
          u.record k = { r with profile := profile, provisioned := true, isOver := isOver } ∧
          (∀ j, j ≠ k → u.record j = s.record j) ∧ u.load t = loadAfter ∧ (∀ x, x ≠ t → u.load x = s.load x) ∧
          u = { s.served l 7 seq .ok .none with
            records := u.records
            loads := u.loads
            mail := { s.mail with
              attention := s.mail.attention ++ if isOver = true ∧ r.isOver = false then [.event .allowance] else [] } })) ∧
  (∀ (l : LinkId) (seq n : Nat) (v : ProfileValues) (s : State), s.Serves l .control → n < 16 →
      let q := s.profile n
      let p : Profile :=
        { f := valueAfter 0 4000 v.f q.f
          a := valueAfter 0 4000 v.a q.a
          m := valueAfter 1 8000 v.m q.m
          w := valueAfter 1 15 v.w q.w
          mt := valueAfter 1 8000 v.mt q.mt
          q := valueAfter 0 65535 v.q q.q }
      let newLoad := fun t => (s.load t).committed - s.activeWith t n * (q.f + q.a) + s.activeWith t n * (p.f + p.a)
      let fails := fun t =>
        (s.load t).committed < newLoad t ∧ (s.engine t).params.k < newLoad t + (s.load t).release
      (v = {} → exec (.setProfile l seq n v) s = .next (s.served l 11 seq .badRequest .none)) ∧
      (∀ t, v ≠ {} → fails t → (∀ x, x < t → ¬ fails x) →
        exec (.setProfile l seq n v) s =
          .next (s.served l 11 seq .overBudget
            (.budget t (s.load t).committed (s.load t).release (s.engine t).params.k))) ∧
      (v ≠ {} → (∀ t, ¬ fails t) →
        ∃ u status, exec (.setProfile l seq n v) s = .next u ∧
          (status = .okAdjusted ↔
            (∃ x ∈ [(v.f, p.f), (v.a, p.a), (v.m, p.m), (v.w, p.w), (v.mt, p.mt), (v.q, p.q)],
              ∃ i, x.1 = some i ∧ x.2 ≠ i)) ∧
          (status = .ok ∨ status = .okAdjusted) ∧
          u.profile n = p ∧ (∀ m, m ≠ n → u.profile m = s.profile m) ∧
          (∀ t, u.load t =
            ⟨newLoad t, (s.load t).release + ((s.load t).committed - newLoad t),
              (s.load t).scanDue || s.parkedWith t n⟩) ∧
          (∀ k, u.record k =
            { s.record k with
              isOver :=
                if (s.record k).profile = n then decide (p.q ≠ 0 ∧ p.q * 1048576 ≤ (s.tally k).live.up)
                else (s.record k).isOver }) ∧
          u = { s.served l 11 seq status (.profile p) with
            profiles := u.profiles
            loads := u.loads
            records := u.records
            mail := { s.mail with attention := u.mail.attention } }))

/-- RETIRE is refused STATE for a RETIRED record; otherwise the record becomes VACANT where its live tallies are zero and
its closed set is collected, its departure kept, and RETIRED where not; an ACTIVE record gives up its load; a home that had
been told its tag is offered DEPART on a tree that is not DISABLED; the answer is OK with the state reached (R43, R45, R60,
R62). With the record VACANT, every report of a tree engine for the tag that is still on its way is discarded, and no other
(R36, R45).

A RESTORE of the record that is kept ends: its SHUT_LIFT is not offered again, its link is answered STATE, and the
retirement is as without it (R63, R193). -/
def Obligations.RetireVacatesASettledRecord : Prop :=
  (∀ (l : LinkId) (seq k : Nat) (t : Tree) (s : State), s.Serves l .control → (s.record k).state ≠ .vacant →
    (s.record k).tree = some t → (∀ x ∈ s.kept, ∀ m, x.entry ≠ ⟨.shutLift k, .restore m⟩) →
      let r := s.record k
      let live := (s.tally k).live
      let settled := live.up = 0 ∧ live.down = 0 ∧ live.granted = 0 ∧ live.withheld = 0 ∧ live.overFrames = 0 ∧
        (s.tally k).closed.collected = true
      (r.state = .retired → exec (.retire l seq k) s = .next (s.served l 8 seq .state .none)) ∧
      (r.state ≠ .retired →
        ∃ u, exec (.retire l seq k) s = .next u ∧
          (settled →
            u.record k = ⟨.vacant, none, none, 0, 0, false, false, 0, 0, 0, 0, 0, 0, .none, false, r.departed⟩ ∧
            u.tally k = ⟨⟨0, 0, 0, 0, 0, false, false⟩, ⟨⟨0, 0, 0, 0, 0, false, false⟩, none, none, true⟩⟩ ∧
            u.link l = (s.link l).served 8 (BitVec.ofNat 8 seq) .ok (.recState .vacant) ∧
            u.mail.attention = s.mail.attention ++ [.change k r.state .vacant true] ∧
            u.mail.valids = s.mail.valids.filter (·.tag != k) ∧ u.mail.misses = s.mail.misses.filter (·.tag != k) ∧
            u.mail.samples = s.mail.samples.filter (·.tag != k) ∧ u.mail.ups = s.mail.ups.filter (·.tag != k) ∧
            u.mail.downs = s.mail.downs.filter (·.tag != k) ∧ u.mail.cleans = s.mail.cleans.filter (·.tag != k) ∧
            u.mail.dispatches = s.mail.dispatches.filter (·.tag != k)) ∧
          (¬ settled →
            u.record k = { r with state := .retired } ∧ u.tally k = s.tally k ∧
            u.link l = (s.link l).served 8 (BitVec.ofNat 8 seq) .ok (.recState .retired) ∧
            u.mail.attention = s.mail.attention ++ [.change k r.state .retired true]) ∧
          (∀ j, j ≠ k → u.record j = s.record j ∧ u.tally j = s.tally j) ∧
          (r.state = .active →
            u.load t = ⟨(s.load t).committed - s.loadOf k, (s.load t).release + s.loadOf k, (s.load t).scanDue⟩) ∧
          (r.state ≠ .active → u.load t = s.load t) ∧
          (r.state ∈ [RecState.announced, .ranging] → k ∉ (u.enrol t).queue) ∧
          (r.state ∈ [RecState.announced, .ranging, .active, .parked, .suspended, .rogue] →
            (s.engine t).state ≠ .disabled →
              (u.engine t).normal = (s.engine t).normal ++ [⟨.depart k, .departRetire⟩] ∨
                ∃ due, ⟨t, ⟨.depart k, .departRetire⟩, due⟩ ∈ u.kept) ∧
          (r.state = .expected ∨ (s.engine t).state = .disabled → u.engines = s.engines) ∧
          (∀ m, m ≠ l → u.link m = s.link m) ∧
          u = { s with
            engines := u.engines
            loads := u.loads
            enrols := u.enrols
            records := u.records
            trackers := u.trackers
            tallies := u.tallies
            kept := u.kept
            links := u.links
            mail := u.mail })) ∧
  (∀ (l m : LinkId) (seq k : Nat) (t x : Tree) (due : Bool) (before after : List Kept) (q : Request) (s : State),
    s.Serves l .control → (s.record k).state ≠ .vacant → (s.record k).state ≠ .retired → (s.record k).tree = some t →
    s.kept = before ++ ⟨x, ⟨.shutLift k, .restore m⟩, due⟩ :: after →
    (∀ y ∈ before ++ after, ∀ n, y.entry ≠ ⟨.shutLift k, .restore n⟩) → m ≠ l → (s.link m).request = some q →
      let others := { s with kept := before ++ after }
      ∃ u v, exec (.retire l seq k) s = .next u ∧ exec (.retire l seq k) others = .next v ∧
        u.link m = { s.link m with
          state := .ready
          request := none
          response := some ⟨q.code, q.seq, (s.link m).discarded, .state, .none⟩ } ∧
        u = { v with links := v.links.set m.val (u.link m) })

/-- RERANGE of an ACTIVE or PARKED record makes it ANNOUNCED at the tail of its ranging queue, range attempts 0 and offer
none, its delay and all else kept, an ACTIVE record's load given up; any other state is refused STATE (R43, R61, R81).

RESTORE is refused STATE for a record that is not ROGUE, on a DISABLED tree, or while a RESTORE of the record is kept.
Accepted by the normal lane, its SHUT_LIFT makes the record SUSPENDED with strikes and clean run 0, a DEPART follows it,
and the answer is OK; a full lane, or directives the roster already keeps for the tree (log entry 12), leave the SHUT_LIFT
kept, to be offered after them in the same retry (log entry 11), and the link BUSY with the request in its slot, the record
as it was (R14, R16, R63, R103, R188, R193). -/
def Obligations.RerangeAndRestoreBringAHomeBack : Prop :=
  (∀ (l : LinkId) (seq k : Nat) (t : Tree) (s : State), s.Serves l .control → (s.record k).tree = some t →
    ((s.record k).state = .active ∨ (s.record k).state = .parked →
      ∃ u, exec (.rerange l seq k) s = .next u ∧
        u.record k = { s.record k with state := .announced, rangeAttempts := 0, offer := .none } ∧
        (∀ j, j ≠ k → u.record j = s.record j) ∧
        (u.enrol t) = { s.enrol t with queue := (s.enrol t).queue ++ [k] } ∧ (∀ x, x ≠ t → u.enrol x = s.enrol x) ∧
        (∀ x, u.load x =
          if x = t ∧ (s.record k).state = .active then
            ⟨(s.load t).committed - s.loadOf k, (s.load t).release + s.loadOf k, (s.load t).scanDue⟩
          else s.load x) ∧
        u = { s.served l 9 seq .ok .none with
          records := u.records
          enrols := u.enrols
          loads := u.loads
          mail := { s.mail with
            changes := s.mail.changes ++ [⟨k, (s.record k).state, .announced⟩]
            attention := s.mail.attention ++ [.change k (s.record k).state .announced true]
            samples := s.mail.samples.map fun y =>
              if (s.record k).state = .active ∧ y.tag = k then { y with met := true } else y } }) ∧
    ((s.record k).state ∉ [RecState.vacant, .active, .parked] →
      exec (.rerange l seq k) s = .next (s.served l 9 seq .state .none))) ∧
  (∀ (l : LinkId) (seq k : Nat) (t : Tree) (s : State), s.Serves l .control → (s.record k).state ≠ .vacant →
    (s.record k).tree = some t →
      let waiting := ∃ x ∈ s.kept, ∃ m, x.entry = ⟨.shutLift k, .restore m⟩
      ((s.record k).state ≠ .rogue ∨ (s.engine t).state = .disabled ∨ waiting →
        exec (.restore l seq k) s = .next (s.served l 10 seq .state .none)) ∧
      ((s.record k).state = .rogue → (s.engine t).state ≠ .disabled → ¬ waiting →
        (32 ≤ (s.engine t).normal.length ∨ ∃ x ∈ s.kept, x.tree = t ∧ x.entry.origin.producer = .roster) →
        exec (.restore l seq k) s =
          .next { s.asked l (.restore l seq k) with
            kept := s.kept ++
              [⟨t, ⟨.shutLift k, .restore l⟩,
                s.kept.any fun x => x.tree == t && x.entry.origin.producer == .roster && x.due⟩] }) ∧
      ((s.record k).state = .rogue → (s.engine t).state ≠ .disabled → (s.engine t).normal.length < 32 →
        (∀ x ∈ s.kept, x.tree = t → x.entry.origin.producer ≠ .roster) → ¬ waiting →
        ∃ u, exec (.restore l seq k) s = .next u ∧
          u.record k = { s.record k with state := .suspended, strikes := 0, cleanRun := 0 } ∧
          (∀ j, j ≠ k → u.record j = s.record j) ∧
          u = { (s.served l 10 seq .ok .none).modEngine t fun e =>
              { e with
                normal := e.normal ++ ⟨.shutLift k, .restore l⟩ ::
                  if e.normal.length + 1 < 32 then [⟨.depart k, .departSuspend⟩] else [] } with
            records := u.records
            kept := s.kept ++
              if (s.engine t).normal.length + 1 < 32 then [] else [⟨t, ⟨.depart k, .departSuspend⟩, false⟩]
            mail := { s.mail with
              changes := s.mail.changes ++ [⟨k, .rogue, .suspended⟩]
              attention := s.mail.attention ++ [.change k .rogue .suspended true] } }))

/-- For every tree, the sum over its ACTIVE records of F + A + O is its committed load, and with the release pending it
never exceeds K, whatever the step (R54). -/
def Obligations.EveryStepKeepsTheBudget : Prop :=
  ∀ s t : State, s.BudgetInv → step s = .next t → t.BudgetInv

/-- Arrival reports change their record only while the tag is a record of the tree: a valid burst stores its backlog and
clears the miss run, a miss raises the miss run, stopping at 8; both subtract the slot's payload from outstanding grants,
stopping at 0. An ACTIVE record whose run reaches 8 becomes SUSPENDED and is offered DEPART (R30, R36, R50, R100, R101,
R103). -/
def Obligations.ArrivalReportsAreWrittenWhole : Prop :=
  ∀ (index : Nat) (s : State), s.OutOfReset →
    (∀ r, s.mail.valids[index]? = some r →
      exec (.validBurstReport index) s =
        .next
          (let taken : State := { s with mail := { s.mail with valids := s.mail.valids.eraseIdx index } }
          if s.isRecordOf r.tree r.tag then
            taken.modRecord r.tag fun x =>
              { x with backlog := r.backlog, missRun := 0, outstanding := x.outstanding - r.payload }
          else taken)) ∧
    (∀ r, s.mail.misses[index]? = some r →
      let taken : State := { s with mail := { s.mail with misses := s.mail.misses.eraseIdx index } }
      let missed := taken.modRecord r.tag fun x =>
        { x with missRun := min 8 (x.missRun + 1), outstanding := x.outstanding - r.payload }
      (s.isRecordOf r.tree r.tag = false → exec (.missReport index) s = .next taken) ∧
      (s.isRecordOf r.tree r.tag = true → ((s.record r.tag).state ≠ .active ∨ (s.record r.tag).missRun < 7) →
        exec (.missReport index) s = .next missed) ∧
      (s.isRecordOf r.tree r.tag = true → (s.record r.tag).state = .active → 7 ≤ (s.record r.tag).missRun →
        ∃ u, exec (.missReport index) s = .next u ∧
          u.record r.tag =
            { s.record r.tag with
              state := .suspended
              missRun := 8
              outstanding := (s.record r.tag).outstanding - r.payload } ∧
          (∀ j, j ≠ r.tag → u.record j = s.record j) ∧
          u.load r.tree = ⟨(s.load r.tree).committed - s.loadOf r.tag, (s.load r.tree).release + s.loadOf r.tag,
            (s.load r.tree).scanDue⟩ ∧
          u.mail.changes = s.mail.changes ++ [⟨r.tag, .active, .suspended⟩] ∧
          u.mail.attention = s.mail.attention ++ [.change r.tag .active .suspended false] ∧
          ((s.engine r.tree).state ≠ .disabled →
            (u.engine r.tree).normal = (s.engine r.tree).normal ++ [⟨.depart r.tag, .departSuspend⟩] ∨
              ∃ due, u.kept = s.kept ++ [⟨r.tree, ⟨.depart r.tag, .departSuspend⟩, due⟩]) ∧
          u = { s with
            engines := u.engines
            loads := u.loads
            records := u.records
            kept := u.kept
            mail := u.mail }))

/-! ## Usage tallies and billing periods (spec/09) -/

/-- Usage is counted in the live set of the period open, each addition stopping at 281,474,976,710,655 with the saturated
marker set, and only while the tag is a record of the tree: clamped user octets, with the clamp marker and the over flag
evaluated in the same step; packets placed; and, tag by tag, what a dispatch granted, withheld, or throttled (R123, R171 to
R176). -/
def Obligations.UsageIsCountedInTheLiveSet : Prop :=
  ∀ (index : Nat) (s : State), s.OutOfReset →
    let sum := fun a b => min 281474976710655 (a + b)
    let full := fun a b => decide (281474976710655 ≤ a ∨ 281474976710655 < a + b)
    (∀ r, s.mail.ups[index]? = some r →
      let taken : State := { s with mail := { s.mail with ups := s.mail.ups.eraseIdx index } }
      (s.isRecordOf r.tree r.tag = false → exec (.tallyUpOctets index) s = .next taken) ∧
      (s.isRecordOf r.tree r.tag = true →
        let q := (s.profile (s.record r.tag).profile).q
        let x := (s.tally r.tag).live
        let isOver := decide (q ≠ 0 ∧ q * 1048576 ≤ sum x.up r.octets)
        ∃ u, exec (.tallyUpOctets index) s = .next u ∧
          u.tally r.tag = { s.tally r.tag with
            live := { x with
              up := sum x.up r.octets
              saturated := x.saturated || full x.up r.octets
              clamped := x.clamped || r.clamped } } ∧
          (∀ j, j ≠ r.tag → u.tally j = s.tally j ∧ u.record j = s.record j) ∧
          u.record r.tag = { s.record r.tag with isOver := isOver } ∧
          u = { taken with
            tallies := u.tallies
            records := u.records
            mail := { taken.mail with
              attention := s.mail.attention ++
                if isOver = true ∧ (s.record r.tag).isOver = false then [.event .allowance] else [] } })) ∧
    (∀ r, s.mail.downs[index]? = some r →
      exec (.tallyDownOctets index) s =
        .next
          (let taken : State := { s with mail := { s.mail with downs := s.mail.downs.eraseIdx index } }
          if s.isRecordOf r.tree r.tag then
            taken.modTally r.tag fun y =>
              { y with
                live := { y.live with
                  down := sum y.live.down r.octets
                  saturated := y.live.saturated || full y.live.down r.octets } }
          else taken)) ∧
    (∀ r, s.mail.dispatches[index]? = some r →
      let taken : State := { s with mail := { s.mail with dispatches := s.mail.dispatches.eraseIdx index } }
      (s.isRecordOf r.tree r.tag = false → exec (.tallyDispatch index) s = .next taken) ∧
      (s.isRecordOf r.tree r.tag = true → r.withheld = true →
        exec (.tallyDispatch index) s =
          .next (taken.modTally r.tag fun y =>
            { y with
              live := { y.live with
                withheld := sum y.live.withheld 1
                saturated := y.live.saturated || full y.live.withheld 1 } })) ∧
      (s.isRecordOf r.tree r.tag = true → r.withheld = false →
        exec (.tallyDispatch index) s =
          .next (taken.modTally r.tag fun y =>
            { y with
              live := { y.live with
                granted := sum y.live.granted r.grains
                overFrames := if r.isOver then sum y.live.overFrames 1 else y.live.overFrames
                saturated := y.live.saturated || full y.live.granted r.grains ||
                  (r.isOver && full y.live.overFrames 1) } })))

/-- CLOSE_PERIOD is refused UNCOLLECTED, with their number and the lowest tag, while any closed set is uncollected;
otherwise each record that is not VACANT has its live set moved into its closed set under the period and the frame, its
live set zero and its over flag clear, and a RETIRED one with nothing to collect becomes VACANT; the period number rises,
65,535 followed by 0 (R178, R179). The reports of the tree engines for a tag made VACANT that are still on their way are
discarded, here and at a COLLECT, and no others (R36, R45).

COLLECT of a collected set is answered NO_DATA with its period and close frame; otherwise it returns the closed set
with the record's tag, tree, serial and state, marks it collected, its contents kept, and makes a RETIRED record with a zero
live set VACANT (R181, R182). -/
def Obligations.ClosedSetsAreMadeOnceAndCollectedOnce : Prop :=
  (∀ (l : LinkId) (seq : Nat) (s : State), s.Serves l .tally →
    let uncollected := fun (x : State) => (List.range' 1 256).filter fun k => !(x.tally k).closed.collected
    let isZero := fun (x : TallySet) => x.up = 0 ∧ x.down = 0 ∧ x.granted = 0 ∧ x.withheld = 0 ∧ x.overFrames = 0
    let vacated := fun k => (s.record k).state = .retired ∧ isZero (s.tally k).live
    let stays := fun (k : Nat) => decide (¬ vacated k)
    (∀ lowest rest, uncollected s = lowest :: rest →
      exec (.closePeriod l seq) s =
        .next (s.served l 29 seq .uncollected (.uncollected (rest.length + 1) lowest))) ∧
    (uncollected s = [] →
      ∃ u, exec (.closePeriod l seq) s = .next u ∧
        (∀ k, (s.record k).state ≠ .vacant → ¬ vacated k →
          u.tally k =
            ⟨⟨0, 0, 0, 0, 0, false, false⟩,
              ⟨(s.tally k).live, some s.period, some s.frame, decide (isZero (s.tally k).live)⟩⟩ ∧
          u.record k = { s.record k with isOver := false }) ∧
        (∀ k, vacated k →
          (u.record k).state = .vacant ∧ (u.record k).departed = (s.record k).departed ∧
          u.tally k = ⟨⟨0, 0, 0, 0, 0, false, false⟩, ⟨⟨0, 0, 0, 0, 0, false, false⟩, none, none, true⟩⟩) ∧
        (∀ k, (s.record k).state = .vacant → u.tally k = s.tally k ∧ u.record k = s.record k) ∧
        u.period = (s.period + 1) % 65536 ∧ u.lastClose = some s.frame ∧
        (∃ tags, (∀ k, k ∈ tags ↔ vacated k) ∧
          u.link l = (s.link l).served 29 (BitVec.ofNat 8 seq) .ok
            (.closed s.period u.period s.frame (uncollected u).length tags)) ∧
        (∀ m, m ≠ l → u.link m = s.link m) ∧
        (u.mail.valids = s.mail.valids.filter (fun x => stays x.tag) ∧
          u.mail.misses = s.mail.misses.filter (fun x => stays x.tag) ∧
          u.mail.samples = s.mail.samples.filter (fun x => stays x.tag) ∧
          u.mail.ups = s.mail.ups.filter (fun x => stays x.tag) ∧
          u.mail.downs = s.mail.downs.filter (fun x => stays x.tag) ∧
          u.mail.cleans = s.mail.cleans.filter (fun x => stays x.tag) ∧
          u.mail.dispatches = s.mail.dispatches.filter (fun x => stays x.tag)) ∧
        u = { s with
          records := u.records
          trackers := u.trackers
          tallies := u.tallies
          kept := u.kept
          period := u.period
          lastClose := u.lastClose
          links := u.links
          mail := u.mail })) ∧
  (∀ (l : LinkId) (seq k : Nat) (s : State), s.Serves l .tally → (s.record k).state ≠ .vacant →
    let x := s.tally k
    let r := s.record k
    let leaves := r.state = .retired ∧ x.live.up = 0 ∧ x.live.down = 0 ∧ x.live.granted = 0 ∧ x.live.withheld = 0 ∧
      x.live.overFrames = 0
    let answer := fun (left : RecState) =>
      ResponseData.collected ⟨x.closed.set, x.closed.period, x.closed.closeFrame, k, r.tree, r.serial, r.state, left⟩
    (x.closed.collected = true →
      exec (.collect l seq k) s =
        .next (s.served l 30 seq .noData (.closedInfo x.closed.period x.closed.closeFrame))) ∧
    (x.closed.collected = false → ¬ leaves →
      exec (.collect l seq k) s =
        .next ((s.served l 30 seq .ok (answer r.state)).modTally k fun y =>
          { y with closed := { y.closed with collected := true } })) ∧
    (x.closed.collected = false → leaves →
      ∃ u, exec (.collect l seq k) s = .next u ∧
        u.record k = ⟨.vacant, none, none, 0, 0, false, false, 0, 0, 0, 0, 0, 0, .none, false, r.departed⟩ ∧
        u.tally k = ⟨⟨0, 0, 0, 0, 0, false, false⟩, ⟨⟨0, 0, 0, 0, 0, false, false⟩, none, none, true⟩⟩ ∧
        (∀ j, j ≠ k → u.record j = s.record j ∧ u.tally j = s.tally j) ∧
        u.mail =
          { s.mail with
            valids := s.mail.valids.filter (·.tag != k)
            misses := s.mail.misses.filter (·.tag != k)
            samples := s.mail.samples.filter (·.tag != k)
            changes := s.mail.changes.filter (·.tag != k) ++ [⟨k, .retired, .vacant⟩]
            ups := s.mail.ups.filter (·.tag != k)
            downs := s.mail.downs.filter (·.tag != k)
            dispatches := s.mail.dispatches.filter (·.tag != k)
            cleans := s.mail.cleans.filter (·.tag != k)
            attention := s.mail.attention ++ [.change k .retired .vacant true] } ∧
        u = { s.served l 30 seq .ok (answer .vacant) with
          records := u.records
          trackers := u.trackers
          tallies := u.tallies
          kept := u.kept
          mail := u.mail }))

/-! ## Enrolment, ranging and tracking (spec/04, spec/05) -/

/-- SET_ENROLMENT writes the mode and nothing else of the schedule, another value being BAD_REQUEST; DISMISS_STRANGER
removes and returns the entry of a position, NO_DATA where it is empty and BAD_REQUEST above 15 (R66, R79).

The stranger list at an announcement it is to hold: the entry of the serial and tree is updated, its times seen rising
to at most 255; else the lowest empty position takes a new entry and STRANGER is latched; else it is dropped (R77).

At the end of a discovery window the interval becomes max(4, d/2) after a collision, stays after announcements alone,
and becomes min(D, 2d) after silence; then the tree's strangers last seen 64 or more discovery frames ago are removed,
and no other (R70, R78). -/
def Obligations.EnrolmentModeIntervalAndStrangersChange : Prop :=
  (∀ (l : LinkId) (seq : Nat) (t : Tree) (n : Nat) (s : State), s.Serves l .control →
    (∀ mode, (n, mode) ∈ [(0, EnrolMode.closed), (1, .opened), (2, .auto)] →
      exec (.setEnrolment l seq t.val n) s =
        .next ((s.served l 15 seq .ok (.mode mode)).modEnrol t fun e => { e with mode := mode })) ∧
    (3 ≤ n → exec (.setEnrolment l seq t.val n) s = .next (s.served l 15 seq .badRequest .none)) ∧
    (16 ≤ n → exec (.dismissStranger l seq n) s = .next (s.served l 17 seq .badRequest .none)) ∧
    (n < 16 → s.stranger n = none → exec (.dismissStranger l seq n) s = .next (s.served l 17 seq .noData .none)) ∧
    (n < 16 → ∀ x, s.stranger n = some x →
      ∃ u, exec (.dismissStranger l seq n) s = .next u ∧ u.stranger n = none ∧
        (∀ m, m ≠ n → u.stranger m = s.stranger m) ∧
        u = { s.served l 17 seq .ok (.stranger x) with strangers := u.strangers })) ∧
  (∀ (t : Tree) (f : FrameNo) (serial : Serial) (reason : StrangerReason) (delta : Int) (s : State),
    let isOf := fun n => ∃ x, s.stranger n = some x ∧ x.serial = serial ∧ x.tree = t
    let seqNo := (s.enrol t).seqNo
    (∀ n x, s.stranger n = some x → isOf n → (∀ m, m < n → ¬ isOf m) →
      let u := s.enterStranger t f serial reason delta
      u.stranger n = some ⟨serial, t, reason, x.firstSeen, f, seqNo, min 255 (x.times + 1), delta⟩ ∧
        (∀ m, m ≠ n → u.stranger m = s.stranger m) ∧ u = { s with strangers := u.strangers }) ∧
    (∀ n, (∀ m, ¬ isOf m) → n < 16 → s.stranger n = none → (∀ m, m < n → s.stranger m ≠ none) →
      let u := s.enterStranger t f serial reason delta
      u.stranger n = some ⟨serial, t, reason, f, f, seqNo, 1, delta⟩ ∧ (∀ m, m ≠ n → u.stranger m = s.stranger m) ∧
        u = { s with
          strangers := u.strangers
          mail := { s.mail with attention := s.mail.attention ++ [.event .stranger] } }) ∧
    ((∀ m, ¬ isOf m) → (∀ n, n < 16 → s.stranger n ≠ none) → s.enterStranger t f serial reason delta = s)) ∧
  (∀ (t : Tree) (f : FrameNo) (before after : List DiscoveryMsg) (s : State), s.OutOfReset →
    s.mail.discovery = before ++ ⟨t, f, .windowEnd⟩ :: after → (∀ x ∈ before, x.tree ≠ t) →
      let e := s.enrol t
      let held := e.noteOf f
      ∃ u, exec (.discoveryWindowEnd t) s = .next u ∧
        (held.collision = true → (u.enrol t).d = max 4 (e.d / 2)) ∧
        (held.collision = false → held.announced = true → (u.enrol t).d = e.d) ∧
        (held.collision = false → held.announced = false → (u.enrol t).d = min (s.engine t).params.d (2 * e.d)) ∧
        u.enrol t = { e with d := (u.enrol t).d, notes := (u.enrol t).notes } ∧ (∀ x, x ≠ t → u.enrol x = s.enrol x) ∧
        (∀ n, u.stranger n = (s.stranger n).filter fun x =>
          decide (¬ (x.tree = t ∧ 64 ≤ (e.seqNo + 65536 - x.seenInDiscovery) % 65536))) ∧
        u = { s with
          enrols := u.enrols
          strangers := u.strangers
          mail := { s.mail with discovery := before ++ after } })

/-- A discovery report is sorted when it is taken: a bad header, an overlapping capture or an announce cut short is a
collision of its window; a burst of kind none is told to the light watch; an announcement whose sample δ = s − (z + P) × 8
lies outside [0, Z] enters the stranger list; one within the zone is a duplicate where another tree's record holds its
serial, a wrong slot where its record is ROGUE, and takes any other record of the tree to ANNOUNCED with an ENROL_OFFER of
Z − δ, at the tail of the ranging queue unless it is a refresh; in AUTO an unknown serial has a record created, and every
report of a tree engine still on its way for an earlier record of its tag is discarded (R36; log entry 15); in
another mode, or with no record free, it enters the stranger list (R58, R69, R71 to R77). -/
def Obligations.DiscoveryReportsAreSortedWhenTaken : Prop :=
  ∀ (t : Tree) (f : FrameNo) (body : DiscoveryBody) (before after : List DiscoveryMsg) (s : State), s.OutOfReset →
    s.mail.discovery = before ++ ⟨t, f, body⟩ :: after → (∀ x ∈ before, x.tree ≠ t) →
      let taken : State := { s with mail := { s.mail with discovery := before ++ after } }
      let told := fun (b : LightBody) =>
        { taken with mail := { taken.mail with lights := s.mail.lights ++ [⟨t, f, b, none⟩] } }
      let p := (s.engine t).params
      (body = .badHeader true ∨ body = .badHeader false ∨ (∃ k, body = .plain k true) ∨ body = .cutShort ∨
          (∃ at' serial z, body = .announce at' serial z true) →
        ∃ u, exec (.discoveryReport t) s = .next u ∧
          (u.enrol t).noteOf f = { (s.enrol t).noteOf f with collision := true } ∧
          u.enrol t = { s.enrol t with notes := (u.enrol t).notes } ∧ (∀ x, x ≠ t → u.enrol x = s.enrol x) ∧
          u = { taken with enrols := u.enrols }) ∧
      (∀ k, body = .plain k false →
        exec (.discoveryReport t) s = .next (told (if s.isRecordOf t k then .wrongSlot (some k) else .stray))) ∧
      (∀ at' serial z, body = .announce at' serial z false →
        let delta : Int := at' - (z + p.p) * 8
        let inZone := 0 ≤ delta ∧ delta ≤ p.z
        let holds := fun k => (s.record k).state.inLookup = true ∧ (s.record k).serial = some serial
        let noted := taken.modEnrol t (·.noteAnnounced f)
        ((s.enrol t).noteAnnounced f).noteOf f = { (s.enrol t).noteOf f with announced := true } ∧
        (¬ inZone → exec (.discoveryReport t) s = .next (noted.enterStranger t f serial .outOfZone delta)) ∧
        (inZone → (∀ k, ¬ holds k) → (s.enrol t).mode ≠ .auto →
          exec (.discoveryReport t) s = .next (noted.enterStranger t f serial .unknown delta)) ∧
        (∀ k, inZone → holds k → (∀ j, j < k → ¬ holds j) → (s.record k).tree ≠ some t →
          exec (.discoveryReport t) s =
            .next { noted with mail := { noted.mail with lights := s.mail.lights ++ [⟨t, f, .duplicate k serial, none⟩] } }) ∧
        (∀ k, inZone → holds k → (∀ j, j < k → ¬ holds j) → (s.record k).tree = some t → (s.record k).state = .rogue →
          exec (.discoveryReport t) s =
            .next { noted with mail := { noted.mail with lights := s.mail.lights ++ [⟨t, f, .wrongSlot (some k), none⟩] } }) ∧
        (∀ k, inZone → holds k → (∀ j, j < k → ¬ holds j) → (s.record k).tree = some t → (s.record k).state ≠ .rogue →
          (s.engine t).state ≠ .disabled → (s.engine t).normal.length < 32 →
          (∀ x ∈ s.kept, x.entry.origin.producer ≠ .enrolment) →
            let found := (s.record k).state
            ∃ u, exec (.discoveryReport t) s = .next u ∧
              u.record k =
                { s.record k with
                  state := .announced
                  rangeAttempts := if found = .announced then (s.record k).rangeAttempts else 0
                  offer := .waiting
                  delay := ((p.z : Int) - delta).toNat } ∧
              (∀ j, j ≠ k → u.record j = s.record j) ∧
              (u.enrol t).queue =
                (if found = .announced then (s.enrol t).queue
                else if found = .ranging then (s.enrol t).queue.filter (· != k) ++ [k]
                else (s.enrol t).queue ++ [k]) ∧
              (u.load t).committed = (s.load t).committed - (if found = .active then s.loadOf k else 0) ∧
              (u.engine t).normal =
                (s.engine t).normal ++ [⟨.enrolOffer serial k ((p.z : Int) - delta).toNat, .offer⟩] ∧
              u.mail.attention = s.mail.attention ++ (if found = .announced then [] else [.change k found .announced false]) ∧
              u = { taken with
                engines := u.engines
                loads := u.loads
                enrols := u.enrols
                records := u.records
                trackers := u.trackers
                strangers := u.strangers
                kept := u.kept
                mail := u.mail }) ∧
        (∀ k, inZone → (∀ j, ¬ holds j) → (s.enrol t).mode = .auto → s.allocate t = .tag k →
          (s.engine t).state ≠ .disabled → (s.engine t).normal.length < 32 →
          (∀ x ∈ s.kept, x.entry.origin.producer ≠ .enrolment) →
            ∃ u, exec (.discoveryReport t) s = .next u ∧
              u.record k =
                ⟨.announced, some serial, some t, 0, ((p.z : Int) - delta).toNat, false, false, 0, 0, 0, 0, 0, 0, .waiting,
                  false, none⟩ ∧
              (∀ j, j ≠ k → u.record j = s.record j) ∧ (u.enrol t).queue = (s.enrol t).queue ++ [k] ∧
              u.mail.attention = s.mail.attention ++ [.change k .vacant .announced false] ∧
              u.mail.valids = s.mail.valids.filter (·.tag != k) ∧ u.mail.misses = s.mail.misses.filter (·.tag != k) ∧
              u.mail.samples = s.mail.samples.filter (·.tag != k) ∧ u.mail.ups = s.mail.ups.filter (·.tag != k) ∧
              u.mail.downs = s.mail.downs.filter (·.tag != k) ∧ u.mail.cleans = s.mail.cleans.filter (·.tag != k) ∧
              u.mail.dispatches = s.mail.dispatches.filter (·.tag != k)) ∧
        (inZone → (∀ j, ¬ holds j) → (s.enrol t).mode = .auto → s.allocate t = .poolFull →
          exec (.discoveryReport t) s = .next (noted.enterStranger t f serial .poolFull delta)) ∧
        (inZone → (∀ j, ¬ holds j) → (s.enrol t).mode = .auto → s.allocate t = .treeFull →
          exec (.discoveryReport t) s = .next (noted.enterStranger t f serial .treeFull delta)))

/-- The first report of the window of the unresolved attempt resolves it; any other is discarded. A good burst of the right
tag within 8 × (E − P − 3) steps is accepted where e − δ lies in [0, Z]: its SET_DELAY, once in the lane, admits the record
with that delay, ACTIVE where load and release leave room under K and PARKED where not. Any other burst, or no lock, is a
failure, and the third suspends the record (R56, R84 to R86, R91). That acceptance and admission are one step, which no change
of the record divides, is log entry 43. -/
def Obligations.ARangingReportResolvesItsAttempt : Prop :=
  ∀ (t : Tree) (m : RangingMsg) (before after : List RangingMsg) (s : State), s.OutOfReset →
    s.mail.ranging = before ++ m :: after → m.tree = t → (∀ x ∈ before, x.tree ≠ t) →
      let taken : State := { s with mail := { s.mail with ranging := before ++ after } }
      let p := (s.engine t).params
      let k := m.rangeTag
      let r := s.record k
      let good := ∃ at' delta backlog, m.body = .capture at' delta (some (k, backlog)) ∧ |delta| ≤ (8 * (p.wr / 2 - p.p - 3) : Nat) ∧
        0 ≤ (r.delay : Int) - delta ∧ (r.delay : Int) - delta ≤ p.z
      ((s.enrol t).attempt ≠ some m.frame ∨ m.body = .windowEnd false →
        exec (.rangingAttemptReport t) s = .next taken) ∧
      (∀ at' delta backlog, (s.enrol t).attempt = some m.frame → m.body = .capture at' delta (some (k, backlog)) → good →
        r.state = .ranging → r.tree = some t → (s.engine t).state ≠ .disabled → (s.engine t).normal.length < 32 →
        (∀ x ∈ s.kept, x.entry.origin.producer ≠ .enrolment) →
          let fits := (s.load t).committed + (s.load t).release + s.loadOf k ≤ p.k
          ∃ u, exec (.rangingAttemptReport t) s = .next u ∧
            u.record k =
              { r with
                delay := ((r.delay : Int) - delta).toNat
                state := if fits then .active else .parked
                missRun := if fits then 0 else r.missRun } ∧
            (∀ j, j ≠ k → u.record j = s.record j) ∧
            (u.load t).committed = (s.load t).committed + (if fits then s.loadOf k else 0) ∧
            (u.engine t).normal =
              (s.engine t).normal ++ [⟨.setDelay k ((r.delay : Int) - delta).toNat, .ranged⟩] ∧
            (u.enrol t).attempt = none ∧ k ∉ (u.enrol t).queue ∧
            (1 ≤ k → k ≤ 256 → (u.tracker k).mark = .pending ∧ (u.tracker k).cause = .ranged) ∧
            u.mail.attention =
              s.mail.attention ++ [.change k .ranging (if fits then .active else .parked) false]) ∧
      ((s.enrol t).attempt = some m.frame → ¬ good → m.body ≠ .windowEnd false → r.rangeAttempts < 2 → 1 ≤ k → k ≤ 256 →
        exec (.rangingAttemptReport t) s =
          .next ((taken.modEnrol t fun e => { e with attempt := none }).modRecord k fun x =>
            { x with rangeAttempts := x.rangeAttempts + 1 })) ∧
      ((s.enrol t).attempt = some m.frame → ¬ good → m.body ≠ .windowEnd false → r.rangeAttempts = 2 →
        r.state = .ranging → r.tree = some t →
          ∃ u, exec (.rangingAttemptReport t) s = .next u ∧
            u.record k = { r with state := .suspended, rangeAttempts := 3 } ∧
            (∀ j, j ≠ k → u.record j = s.record j) ∧ (u.enrol t).attempt = none ∧ k ∉ (u.enrol t).queue ∧
            u.mail.attention = s.mail.attention ++ [.change k .ranging .suspended false])

/-- A delay sample passes its checks in order: the tree, the state, the settle, the drift limit; a kept one joins the set,
and the fourth makes the estimate, half the sum of the middle two rounded toward zero; at or above the drift tolerance it
offers SET_DELAY of e − estimate where that lies in [0, Z], and suspends the record where not (R94 to R97).

A record's leaving ACTIVE meets every sample of it on its way; where it becomes VACANT they are discarded (R36, R45). One of
these taken before the report of it is treated as for an ACTIVE record: its correction is offered and its acceptance write
then discarded, so is its suspension; one taken after the report, or sent later, is discarded (R99). The tracker's own suspension leaves no such report, so every later sample is
discarded (R95). That the report in flight decides which is first is the model's reading, log entry 34.

A reported state change empties the sample set of a record that left ACTIVE and abandons its kept correction, its
settle mark kept; any other changes nothing (R90). -/
def Obligations.DelaySamplesAreCheckedKeptAndDiscarded : Prop :=
  (∀ (index : Nat) (r : SampleReport) (s : State), s.OutOfReset → s.mail.samples[index]? = some r →
    let taken : State := { s with mail := { s.mail with samples := s.mail.samples.eraseIdx index } }
    let x := s.record r.tag
    let k := s.tracker r.tag
    let e := s.engine r.tree
    let p := e.params
    let settling := (∃ y ∈ s.kept, ∃ e, y.entry = ⟨.setDelay r.tag e, .corrected⟩) ∨ k.mark = .pending ∨
      ∃ f, k.mark = .carried f ∧ (r.frame - f).toInt ≤ 3
    let leaving := r.met = true ∧ ∃ y ∈ s.mail.changes, y.tag = r.tag ∧ y.before = .active ∧ y.after ≠ .vacant
    let passes := s.isRecordOf r.tree r.tag = true ∧ (x.state = .active ∨ leaving) ∧ ¬ settling
    let emptied := taken.modTracker r.tag fun y => { y with samples := [] }
    let suspended := ∃ u, exec (.delaySample index) s = .next u ∧
      u.record r.tag = { x with state := .suspended } ∧ (∀ j, j ≠ r.tag → u.record j = s.record j) ∧
        (u.tracker r.tag).samples = [] ∧ (∀ y ∈ u.mail.changes, y.tag ≠ r.tag) ∧
        u.mail.attention = s.mail.attention ++ [.change r.tag .active .suspended false] ∧
        u.load r.tree = ⟨(s.load r.tree).committed - s.loadOf r.tag, (s.load r.tree).release + s.loadOf r.tag,
          (s.load r.tree).scanDue⟩
    (¬ passes → exec (.delaySample index) s = .next taken) ∧
    (passes → (p.driftLim : Int) < |r.delta| →
      (x.state = .active → suspended) ∧ (x.state ≠ .active → exec (.delaySample index) s = .next emptied)) ∧
    (passes → |r.delta| ≤ (p.driftLim : Int) → k.samples.length < 3 →
      exec (.delaySample index) s =
        .next (taken.modTracker r.tag fun y => { y with samples := y.samples ++ [r.delta] })) ∧
    (∀ a b c d lo hi : Int, passes → |r.delta| ≤ (p.driftLim : Int) → k.samples = [a, b, c] → d = r.delta →
      (∃ low high, [low, lo, hi, high].Perm [a, b, c, d] ∧ low ≤ lo ∧ lo ≤ hi ∧ hi ≤ high) →
        let estimate := (lo + hi).tdiv 2
        let delay := (x.delay : Int) - estimate
        (|estimate| < (p.driftTol : Int) → exec (.delaySample index) s = .next emptied) ∧
        ((p.driftTol : Int) ≤ |estimate| → 0 ≤ delay → delay ≤ p.z →
          exec (.delaySample index) s = .next (emptied.offer r.tree ⟨.setDelay r.tag delay.toNat, .corrected⟩) ∧
          (e.state ≠ .disabled → e.normal.length < 32 →
            (∀ y ∈ s.kept, y.tree = r.tree → y.entry.origin.producer ≠ .tracker) →
              ∃ u, exec (.delaySample index) s = .next u ∧
                u.engine r.tree = { e with normal := e.normal ++ [⟨.setDelay r.tag delay.toNat, .corrected⟩] } ∧
                (∀ y, y ≠ r.tree → u.engine y = s.engine y) ∧
                u.tracker r.tag = { k with
                  samples := []
                  mark := .pending
                  cause := .corrected
                  unplaced := min 32 (k.unplaced + 1) } ∧
                u.record r.tag = (if x.state = .active then { x with delay := delay.toNat } else x) ∧
                (∀ j, j ≠ r.tag → u.record j = s.record j ∧ u.tracker j = s.tracker j) ∧
                u = { taken with engines := u.engines, records := u.records, trackers := u.trackers })) ∧
        ((p.driftTol : Int) ≤ |estimate| → (delay < 0 ∨ (p.z : Int) < delay) →
          (x.state = .active → suspended) ∧ (x.state ≠ .active → exec (.delaySample index) s = .next emptied)))) ∧
  (∀ (s : State) (k : Nat) (new : RecState) (byRequest : Bool), (s.record k).state ≠ new →
    (new ≠ .vacant →
      (s.changeState k new byRequest).mail.samples = s.mail.samples.map fun y =>
        if (s.record k).state = .active ∧ y.tag = k then { y with met := true } else y) ∧
    (new = .vacant → (s.changeState k new byRequest).mail.samples = s.mail.samples.filter (·.tag != k))) ∧
  (∀ (index : Nat) (r : ChangeReport) (s : State), s.OutOfReset → s.mail.changes[index]? = some r →
    let taken : State := { s with mail := { s.mail with changes := s.mail.changes.eraseIdx index } }
    (r.before ≠ .active → exec (.stateChangeReport index) s = .next taken) ∧
    (r.before = .active →
      ∃ u, exec (.stateChangeReport index) s = .next u ∧
        (∀ k, u.tracker k = if k = r.tag then { s.tracker k with samples := [] } else s.tracker k) ∧
        (∀ y, y ∈ u.kept ↔ y ∈ s.kept ∧ ∀ e, y.entry ≠ ⟨.setDelay r.tag e, .corrected⟩) ∧
        u = { taken with trackers := u.trackers, kept := u.kept }))

/-- An offer on a RUNNING or CUT tree joins the tail of the lane of its kind while that lane is below its capacity, and its
producer then writes; a full lane leaves it kept, with nothing written; a DISABLED tree's lane has it abandoned. A producer
that already keeps directives for the tree offers the new one after them, in the same retry where they are still to be
offered again (R14, R16; log entries 11 and 12).

The acceptance of a round's LASER_HOLD(a, b) sets the held flags of the tree's records with tags from a to b, and the hold
range becomes [a, b]; that of a LASER_RELEASE(a, b) clears them, and a hold range [lo, hi] becomes absent where a is lo and
[lo, a − 1] where a is above it. An ending's release clears them with the hold range absent (R155, R159). Nothing else
changes but the progress of the round's directive.

After a boundary a producer offers its kept directives again in the order first refused. The first of them is abandoned
without its write where its record no longer stands as it did; accepted where the lane has room, and then those behind it
follow; kept for the boundary after where the lane has none, and then those behind it are kept too. With none due, nothing
changes (R16, R76, R85; log entry 11). -/
def Obligations.OffersAreAcceptedKeptRetriedOrAbandoned : Prop :=
  (∀ (s : State) (t : Tree) (x : LaneEntry),
    let e := s.engine t
    let urgent := ∃ a b, x.dir = .laserHold a b ∨ x.dir = .laserRelease a b ∨ x.dir = .laserShut a
    let full := (urgent ∧ 8 ≤ e.urgent.length) ∨ (¬ urgent ∧ 32 ≤ e.normal.length) ∨
      ∃ y ∈ s.kept, y.tree = t ∧ y.entry.origin.producer = x.origin.producer
    (e.state = .disabled → s.offer t x = s) ∧
    (e.state ≠ .disabled → full →
      ∃ due, (s.offer t x).kept = s.kept ++ [⟨t, x, due⟩] ∧ (s.offer t x).records = s.records ∧
        (s.offer t x).engines = s.engines ∧
        (due = true ↔ ∃ y ∈ s.kept, y.tree = t ∧ y.entry.origin.producer = x.origin.producer ∧ y.due = true)) ∧
    (e.state ≠ .disabled → ¬ full → urgent →
      s.offer t x = (s.modEngine t fun e => { e with urgent := e.urgent ++ [x] }).onAccept t x) ∧
    (e.state ≠ .disabled → ¬ full → ¬ urgent →
      s.offer t x = (s.modEngine t fun e => { e with normal := e.normal ++ [x] }).onAccept t x)) ∧
  (∀ (s : State) (t : Tree) (a b : Nat),
    let h := s.hunt t
    let accepted := fun (u : State) (held : Bool) (hunt : Hunt) =>
      (∀ j, u.record j =
        if s.isRecordOf t j = true ∧ a ≤ j ∧ j ≤ b then { s.record j with held := held } else s.record j) ∧
      u = { s with records := u.records, hunts := s.hunts.set t.val hunt }
    let waiting := fun (d : Directive) => h.roundDirs.map fun y => if y.dir = d then { y with status := .waiting } else y
    accepted (s.onAccept t ⟨.laserHold a b, .huntRound⟩) true
      { h with roundDirs := waiting (.laserHold a b), hold := some (a, b) } ∧
    (∀ lo hi, h.hold = some (lo, hi) →
      (a = lo → accepted (s.onAccept t ⟨.laserRelease a b, .huntRound⟩) false
        { h with roundDirs := waiting (.laserRelease a b), hold := none }) ∧
      (lo < a → accepted (s.onAccept t ⟨.laserRelease a b, .huntRound⟩) false
        { h with roundDirs := waiting (.laserRelease a b), hold := some (lo, a - 1) })) ∧
    accepted (s.onAccept t ⟨.laserRelease a b, .huntRelease⟩) false { h with hold := none }) ∧
  (∀ (t : Tree) (p : Producer) (s : State), s.OutOfReset → (p = .tracker → s.mail.changes = []) →
    let mine := fun (y : Kept) => y.tree == t && y.entry.origin.producer == p
    let stale := fun (x : LaneEntry) =>
      (∃ serial k e, x = ⟨.enrolOffer serial k e, .offer⟩ ∧
        ¬ ((s.record k).state = .announced ∧ (s.record k).tree = some t ∧ (s.record k).serial = some serial)) ∨
      (∃ k e, x = ⟨.setDelay k e, .ranged⟩ ∧ ¬ ((s.record k).state = .ranging ∧ (s.record k).tree = some t))
    ((∀ y ∈ s.kept, mine y = true → y.due = false) → exec (.directiveRetry t p) s = .next s) ∧
    (∀ (before after : List Kept) (x : LaneEntry), s.kept = before ++ ⟨t, x, true⟩ :: after →
      x.origin.producer = p → (∀ y ∈ before, mine y = false) → (s.engine t).state ≠ .disabled →
        let without : State := { s with kept := before ++ after }
        (stale x → exec (.directiveRetry t p) s = exec (.directiveRetry t p) without) ∧
        (¬ stale x → (s.engine t).laneFull x.dir = false →
          exec (.directiveRetry t p) s = exec (.directiveRetry t p) (without.acceptEntry t x)) ∧
        (¬ stale x → (s.engine t).laneFull x.dir = true →
          (∀ y ∈ after, mine y = true → y.due = true → ¬ stale y.entry) →
            exec (.directiveRetry t p) s =
              .next { s with
                kept := before ++ ⟨t, x, false⟩ ::
                  after.map fun y => if mine y = true then { y with due := false } else y }) ∧
        ((∀ y ∈ after, mine y = false) →
          (stale x → exec (.directiveRetry t p) s = .next without) ∧
          (¬ stale x → (s.engine t).laneFull x.dir = false →
            exec (.directiveRetry t p) s = .next (without.acceptEntry t x)))))

/-! ## Light watch and log (spec/07) -/

/-- An observation collapses into the pending record of its kind, tree and tag; else it takes the lowest free record and
latches OBSERVATION; else it is lost, and the overflow flag, if clear, is set with the same latch (R140, R141). -/
def Obligations.ObservationsCollapseOrTakeTheLowestRecord : Prop :=
  ∀ (o : Observation) (s : State),
    let same := fun n => ∃ x, s.logRecord n = some x ∧ x.kind = o.kind ∧ x.tree = o.tree ∧ x.tag = o.tag
    let u := s.observe o
    (∀ n x, s.logRecord n = some x → same n → (∀ m, m < n → ¬ same m) →
      u.logRecord n =
        some { x with
          repeats := min 65535 (x.repeats + 1)
          lastFrame :=
            if 1 ≤ (x.lastFrame - o.firstFrame).toInt ∧ (x.lastFrame - o.firstFrame).toInt ≤ 64 then x.lastFrame
            else o.firstFrame
          serial := o.serial.or x.serial
          cause := o.cause.or x.cause } ∧
        (∀ m, m ≠ n → u.logRecord m = s.logRecord m) ∧ u = { s with log := u.log }) ∧
    (∀ n, (∀ m, ¬ same m) → n < 16 → s.logRecord n = none → (∀ m, m < n → s.logRecord m ≠ none) →
      u.logRecord n = some o ∧ (∀ m, m ≠ n → u.logRecord m = s.logRecord m) ∧
        u = { s with log := u.log, mail := { s.mail with attention := s.mail.attention ++ [.event .observation] } }) ∧
    ((∀ m, ¬ same m) → (∀ n, n < 16 → s.logRecord n ≠ none) → s.overflow = false →
      u = { s with overflow := true, mail := { s.mail with attention := s.mail.attention ++ [.event .observation] } }) ∧
    ((∀ m, ¬ same m) → (∀ n, n < 16 → s.logRecord n ≠ none) → s.overflow = true → u = s)

/-- A report to the light watch becomes an observation of its kind, tree and frame, with its tag where it has one. A
WRONG_SLOT is charged to its tag, with the record's serial and a strike, while that is a record of the tree; a STRAY first
marks the entry of its frame in the history, the open one or a closed one, lit. Marking a closed entry is a check of the
trigger: on a RUNNING tree with auto-hunt on, its hunt IDLE and three closed entries lit, the hunt controller is asked to
start (R134 to R136). -/
def Obligations.ReportsToTheLightWatchAreObserved : Prop :=
  ∀ (index : Nat) (r : LightReport) (s : State), s.OutOfReset → s.mail.lights[index]? = some r →
    let taken : State := { s with mail := { s.mail with lights := s.mail.lights.eraseIdx index } }
    let seen := fun (x : State) (kind : ObsKind) (tag : Option Nat) (serial : Option Serial) =>
      x.observe ⟨kind, r.tree, tag, serial, none, r.frame, r.frame, 0⟩
    (∀ kind, r.body = .hunt kind → exec (.lightWatchReport index) s = .next (seen taken kind none none)) ∧
    (∀ k serial, r.body = .duplicate k serial →
      exec (.lightWatchReport index) s = .next (seen taken .duplicateSerial (some k) (some serial))) ∧
    (∀ tag, r.body = .wrongSlot tag → (∀ k, tag = some k → s.isRecordOf r.tree k = false) →
      exec (.lightWatchReport index) s = .next (seen taken .wrongSlot none none)) ∧
    (∀ k, r.body = .wrongSlot (some k) → s.isRecordOf r.tree k = true →
      ∃ u, exec (.lightWatchReport index) s = .next u ∧
        u = { seen taken .wrongSlot (some k) (s.record k).serial with mail := u.mail } ∧
        u.mail.strikes = s.mail.strikes ++ [⟨r.tree, k⟩]) ∧
    (r.body = .stray →
      (∀ c, (s.light r.tree).current = some c → c.frame = r.frame →
        exec (.lightWatchReport index) s =
          .next (seen (taken.modLight r.tree fun w => { w with current := some ⟨r.frame, true⟩ }) .stray none none)) ∧
      (∀ c, (s.light r.tree).current = some c → c.frame ≠ r.frame →
        (∃ y ∈ (s.light r.tree).closed, y.frame = r.frame) →
          let closed := (s.light r.tree).closed.map fun y => if y.frame = r.frame then ⟨y.frame, true⟩ else y
          let marked := taken.modLight r.tree fun w => { w with closed := closed }
          let triggers := (s.engine r.tree).state = .running ∧ (s.engine r.tree).params.autoHunt = true ∧
            (s.hunt r.tree).state = .idle ∧ 3 ≤ (closed.filter (·.lit)).length
          (triggers → exec (.lightWatchReport index) s =
            .next (seen { marked with mail := { marked.mail with triggers := s.mail.triggers ++ [r.tree] } }
              .stray none none)) ∧
          (¬ triggers → exec (.lightWatchReport index) s = .next (seen marked .stray none none))) ∧
      ((∀ c, (s.light r.tree).current = some c → c.frame ≠ r.frame ∧
          ∀ y ∈ (s.light r.tree).closed, y.frame ≠ r.frame) →
        exec (.lightWatchReport index) s = .next (seen taken .stray none none)))

/-- A sample judged at a grain of an upstream frame. On a DISABLED tree, for a frame whose plan the interval table does not
hold, or in a DARK window of the table, it is discarded and nothing changes (R131). An absent sample ends the run. A
present one continues the run in progress or starts one, attributed to the tag of the burst interval it lies in, the
earliest of them, else to a ranging or discovery window it lies in, else to a gap (R132). At a covered position it raises
nothing. At an uncovered one the run raises one event in the frame: LONG_TAIL for a tag, charged with a strike while that
is a record of the tree; STRAY for a window or a gap, which marks the history (R133, R134).

Every judged sample first makes the history follow: the first opens an entry, and one of a later frame closes the open
entry, the last eight closed ones being kept, and checks the trigger (R135, R136). -/
def Obligations.JudgedSamplesFollowRunsAndTheHistory : Prop :=
  ∀ (s : State) (t : Tree) (frame : FrameNo) (grain : Nat),
    let w := s.light t
    let at' := fun (x : TableEntry) => (frame - x.frame).toInt * 10000 + (grain : Int)
    let inside := fun (x : TableEntry) (b : BurstSpan) => b.first ≤ at' x ∧ at' x < b.past
    let within := fun (x : TableEntry) (width : Nat) => 0 ≤ at' x ∧ at' x < width
    let dark := ∃ x ∈ w.table, ∃ width, x.window = some (.dark width) ∧ within x width
    let inBurst := ∃ x ∈ w.table, ∃ b ∈ x.bursts, inside x b
    let inWindow := ∃ x ∈ w.table,
      (∃ tag expected width, x.window = some (.range tag expected width) ∧ within x width) ∨
        (x.window = some .discover ∧ within x 10000)
    let judged := (s.engine t).state ≠ .disabled ∧ (∃ x ∈ w.table, x.frame = frame) ∧ ¬ dark
    let starts := fun (a : Attribution) =>
      (∃ xs x ys bs b cs, w.table = xs ++ x :: ys ∧ x.bursts = bs ++ b :: cs ∧ inside x b ∧ a = .tag b.tag ∧
        (∀ y ∈ xs, ∀ c ∈ y.bursts, ¬ inside y c) ∧ ∀ c ∈ bs, ¬ inside x c) ∨
      (¬ inBurst ∧ inWindow ∧ a = .window) ∨ (¬ inBurst ∧ ¬ inWindow ∧ a = .gap)
    let history := s.historyAt t frame
    let event := fun (u : State) (kind : ObsKind) (tag : Option Nat) (serial : Option Serial) =>
      u.observe ⟨kind, t, tag, serial, none, frame, frame, 0⟩
    (∀ present, ¬ judged → s.judge t frame grain present = s) ∧
    (judged → s.judge t frame grain false = history.modLight t fun x => { x with run := none }) ∧
    (∀ run : Run, judged →
      (w.run = some run ∨ (w.run = none ∧ ∃ a, starts a ∧ run = ⟨frame, grain, a, none⟩)) →
        let quiet := inBurst ∨ inWindow ∨ run.raised = some frame
        let raised := history.modLight t fun x => { x with run := some { run with raised := some frame } }
        (quiet → s.judge t frame grain true = history.modLight t fun x => { x with run := some run }) ∧
        (¬ quiet →
          (∀ k, run.attribution = .tag k → s.isRecordOf t k = true →
            let seen := event raised .longTail (some k) (s.record k).serial
            s.judge t frame grain true =
              { seen with mail := { seen.mail with strikes := s.mail.strikes ++ [⟨t, k⟩] } }) ∧
          (∀ k, run.attribution = .tag k → s.isRecordOf t k = false →
            s.judge t frame grain true = event raised .longTail none none) ∧
          (run.attribution = .window ∨ run.attribution = .gap →
            s.judge t frame grain true = event (raised.markStray t frame) .stray none none ∧
            ∀ c, (history.light t).current = some c → c.frame = frame →
              raised.markStray t frame = raised.modLight t fun x => { x with current := some ⟨frame, true⟩ }))) ∧
    (w.current = none → history = s.modLight t fun x => { x with current := some ⟨frame, false⟩ }) ∧
    (∀ c, w.current = some c →
      ((frame - c.frame).toInt ≤ 0 → history = s) ∧
      (0 < (frame - c.frame).toInt →
        let closed := (w.closed ++ [c]).drop (w.closed.length + 1 - 8)
        let entered := s.modLight t fun x => { x with closed := closed, current := some ⟨frame, false⟩ }
        let triggers := (s.engine t).state = .running ∧ (s.engine t).params.autoHunt = true ∧
          (s.hunt t).state = .idle ∧ 3 ≤ (closed.filter (·.lit)).length
        (triggers → history = { entered with mail := { s.mail with triggers := s.mail.triggers ++ [t] } }) ∧
        (¬ triggers → history = entered)))

/-- A strike is taken only while its record is ACTIVE: strikes rise, stopping at 15, and the clean run becomes 0. Where it
leaves the strikes at the strike limit or above, and no LASER_SHUT for the tag stands, one is offered to the urgent lane:
accepted, the record becomes ROGUE and HUNT_ISOLATED is observed; refused, it is kept. A valid burst raises the clean run,
stopping at 1,024, and the strikes become 0 as it gets there (R46, R137 to R139). When the kept LASER_SHUT is due again is
log entries 11 and 12. That a strike in flight whose tag is meanwhile ACTIVE on another tree is discarded is the model's
choice, log entry 31. -/
def Obligations.StrikesIsolateAndCleanRunsClear : Prop :=
  (∀ (index : Nat) (r : StrikeReport) (s : State), s.OutOfReset → s.mail.strikes[index]? = some r →
    let taken : State := { s with mail := { s.mail with strikes := s.mail.strikes.eraseIdx index } }
    let struck := min 15 ((s.record r.tag).strikes + 1)
    let written := taken.modRecord r.tag fun x => { x with strikes := struck, cleanRun := 0 }
    let active := (s.record r.tag).state = .active ∧ (s.record r.tag).tree = some r.tree
    let stands := (∃ y ∈ s.kept, y.entry.dir = .laserShut r.tag) ∨
      ∃ y ∈ (s.engine r.tree).urgent, y.dir = .laserShut r.tag
    (¬ active → exec (.strike index) s = .next taken) ∧
    (active → (struck < (s.engine r.tree).params.strikeLim ∨ stands) → exec (.strike index) s = .next written) ∧
    (active → (s.engine r.tree).params.strikeLim ≤ struck → ¬ stands → (s.engine r.tree).state ≠ .disabled →
      (8 ≤ (s.engine r.tree).urgent.length →
        exec (.strike index) s =
          .next { written with
            kept := s.kept ++
              [⟨r.tree, ⟨.laserShut r.tag, .strikeShut⟩,
                s.kept.any fun y => y.tree == r.tree && y.entry.origin.producer == .lightWatch && y.due⟩] }) ∧
      ((s.engine r.tree).urgent.length < 8 →
        (∀ y ∈ s.kept, y.tree = r.tree → y.entry.origin.producer ≠ .lightWatch) →
        ∃ u, exec (.strike index) s = .next u ∧
          u.record r.tag = { s.record r.tag with state := .rogue, strikes := struck, cleanRun := 0 } ∧
          (∀ j, j ≠ r.tag → u.record j = s.record j) ∧
          (u.engine r.tree).urgent = (s.engine r.tree).urgent ++ [⟨.laserShut r.tag, .strikeShut⟩] ∧
          (u.load r.tree).committed = (s.load r.tree).committed - s.loadOf r.tag ∧
          ∃ x : State, u = x.observe ⟨.huntIsolated, r.tree, some r.tag, (s.record r.tag).serial, some .tail, s.frame,
            s.frame, 0⟩ ∧ x.log = s.log ∧ x.mail.attention =
              s.mail.attention ++ [.change r.tag .active .rogue false]))) ∧
  (∀ (index : Nat) (r : CleanReport) (s : State), s.OutOfReset → s.mail.cleans[index]? = some r →
    exec (.cleanRun index) s =
      .next
        (let taken : State := { s with mail := { s.mail with cleans := s.mail.cleans.eraseIdx index } }
        if s.isRecordOf r.tree r.tag then
          taken.modRecord r.tag fun x =>
            { x with
              cleanRun := min 1024 (x.cleanRun + 1)
              strikes := if x.cleanRun = 1023 then 0 else x.strikes }
        else taken))

/-- CLEAR_OBSERVATION frees a pending record of the log and returns its contents, NO_DATA for a free one and BAD_REQUEST
above 15, the overflow flag as it was; CLEAR_OVERFLOW clears the overflow flag, freeing no record, and returns its value
before, and an observation lost after it sets the flag again and latches OBSERVATION. Both need a CONTROL link (R144,
R145). -/
def Obligations.TheLogIsClearedByControlRequests : Prop :=
  (∀ (l : LinkId) (seq n : Nat) (s : State), s.Serves l .control →
    (16 ≤ n → exec (.clearObservation l seq n) s = .next (s.served l 23 seq .badRequest .none)) ∧
    (n < 16 → s.logRecord n = none → exec (.clearObservation l seq n) s = .next (s.served l 23 seq .noData .none)) ∧
    (n < 16 → ∀ o, s.logRecord n = some o →
      ∃ u, exec (.clearObservation l seq n) s = .next u ∧ u.logRecord n = none ∧
        (∀ m, m ≠ n → u.logRecord m = s.logRecord m) ∧
        u = { s.served l 23 seq .ok (.observation o) with log := u.log }) ∧
    exec (.clearOverflow l seq) s = .next { s.served l 24 seq .ok (.flag s.overflow) with overflow := false }) ∧
  (∀ (l : LinkId) (seq n : Nat) (s : State), s.Takes l → (s.link l).role = .tally →
    exec (.clearObservation l seq n) s = .next (s.served l 23 seq .denied .none) ∧
      exec (.clearOverflow l seq) s = .next (s.served l 24 seq .denied .none)) ∧
  (∀ (o : Observation) (s : State), s.overflow = false →
    (∀ n, n < 16 → ∃ x, s.logRecord n = some x ∧ ¬ (x.kind = o.kind ∧ x.tree = o.tree ∧ x.tag = o.tag)) →
      s.observe o = { s with overflow := true, mail := { s.mail with attention := s.mail.attention ++ [.event .observation] } })

/-! ## The rogue hunt (spec/08) -/

/-- A start request, by HUNT or by the automatic trigger, is taken on a RUNNING tree whose hunt is IDLE, with no cut
pending and no ending directive kept: the hunt is CONFIRMING over [1, 256] with a suspect count and a round number of 0, no
test requested yet and the pending test at once, so that its two tests follow; the stray history is empty and a ranging in
progress goes back to ANNOUNCED. Otherwise HUNT is refused STATE and the trigger is discarded (R87, R136, R148 to R150).

ABORT_HUNT of a hunt that is not IDLE ends it ABORTED, answered with its state and suspect range as they stood, TREE
latched, and offers LASER_RELEASE(1, 256), whose acceptance clears every held flag of the tree; in IDLE it is refused
STATE (R161, R162). That the ending leaves no round directive listed, accepted ones included, is the model's choice, log
entry 40; that the release is kept behind ending directives kept before it is log entry 12. -/
def Obligations.HuntsStartConfirmingAndAbortEndsThem : Prop :=
  (∀ (l : LinkId) (seq : Nat) (t : Tree) (before after : List Tree) (s : State),
    let ending := ∃ x ∈ s.kept, x.tree = t ∧ (x.entry.origin = .huntRelease ∨ ∃ a b, x.entry.origin = .huntShut a b)
    let canStart := (s.engine t).state = .running ∧ (s.hunt t).state = .idle ∧ (s.hunt t).cutPending = false ∧ ¬ ending
    let started := fun (u : State) =>
      (u.hunt t).state = .confirming ∧ (u.hunt t).suspects = some (1, 256) ∧ (u.hunt t).hold = none ∧
        (u.hunt t).round = 0 ∧ (u.hunt t).tests = [] ∧ (u.hunt t).verified = none ∧ (u.hunt t).roundDirs = [] ∧
        (u.hunt t).count = 0 ∧ (u.hunt t).requested = 0 ∧ (u.hunt t).firstLit = false ∧
        (u.hunt t).pendingTest = .atOnce ∧ (u.hunt t).cutPending = false ∧
        (u.hunt t).outcome = (s.hunt t).outcome ∧ (u.light t).closed = [] ∧ (u.light t).current = none ∧
        (∀ x, x ≠ t → u.hunt x = s.hunt x ∧ u.light x = s.light x) ∧ u.engines = s.engines ∧
        (∀ k, u.record k =
          if (s.enrol t).queue.head? = some k ∧ (s.record k).state = .ranging ∧ (s.record k).tree = some t then
            { s.record k with state := .announced, rangeAttempts := 0 }
          else s.record k)
    (s.Serves l .control →
      (canStart →
        ∃ u, exec (.hunt l seq t.val) s = .next u ∧ started u ∧
          u.link l = (s.link l).served 25 (BitVec.ofNat 8 seq) .ok .none) ∧
      (¬ canStart → exec (.hunt l seq t.val) s = .next (s.served l 25 seq .state .none))) ∧
    (s.OutOfReset → s.mail.triggers = before ++ t :: after → t ∉ before →
      (canStart → ∃ u, exec (.autoHuntTrigger t) s = .next u ∧ started u ∧ u.links = s.links ∧
        u.mail.triggers = before ++ after) ∧
      (¬ canStart →
        exec (.autoHuntTrigger t) s = .next { s with mail := { s.mail with triggers := before ++ after } }))) ∧
  (∀ (l : LinkId) (seq : Nat) (t : Tree) (s : State), s.Serves l .control →
    ((s.hunt t).state = .idle → exec (.abortHunt l seq t.val) s = .next (s.served l 26 seq .state .none)) ∧
    ((s.hunt t).state ≠ .idle → (s.engine t).state ≠ .disabled →
      ∃ u, exec (.abortHunt l seq t.val) s = .next u ∧
        u.link l =
          (s.link l).served 26 (BitVec.ofNat 8 seq) .ok (.aborted (s.hunt t).state (s.hunt t).suspects) ∧
        (u.hunt t).state = .idle ∧ (u.hunt t).suspects = none ∧ (u.hunt t).verified = none ∧ (u.hunt t).tests = [] ∧
        (u.hunt t).pendingTest = .absent ∧ (u.hunt t).roundDirs = [] ∧
        (u.hunt t).outcome = some (.aborted, s.frame) ∧ (u.hunt t).cutPending = (s.hunt t).cutPending ∧
        (u.light t).closed = [] ∧ (u.light t).current = none ∧
        u.mail = { s.mail with attention := s.mail.attention ++ [.event .tree] } ∧
        s.HuntOffered u t (s.endingKept t) [.laserRelease 1 256] ∧
        (if 1 ≤ s.huntRoom t (s.endingKept t) then
          (u.hunt t).hold = none ∧
            ∀ k, u.record k = if s.isRecordOf t k then { s.record k with held := false } else s.record k
        else (u.hunt t).hold = (s.hunt t).hold ∧ u.records = s.records) ∧
        u = { s with
          engines := u.engines
          lights := u.lights
          hunts := u.hunts
          records := u.records
          kept := u.kept
          links := u.links
          mail := u.mail }))

/-- The end of a test's DARK window takes its verdict; any other window end is discarded. Confirming, a dark verdict ends
the hunt CLEARED, a first lit one waits for the second, and the second counts the suspects of the whole tree. A split
verdict counts those held where dark and those after them where lit. Verifying, dark ends ISOLATED and lit UNRESOLVED. A
count of none ends UNRESOLVED with a cut pending, of one enters VERIFYING with that suspect, of more SPLITTING with half of
them to be held (R151 to R158).

A round offers its directives to the urgent lane, which takes those it has room for; the others are kept. With none its
pending test is at once, and otherwise absent until all are placed (R154, R155). UNRESOLVED offers LASER_RELEASE(1, 256), and
ISOLATED before it LASER_SHUT for the suspect (R159, R160). On its acceptance the release clears every held flag of the tree
and the hold range; the shut makes the record ROGUE, unless it is VACANT or RETIRED, and HUNT_ISOLATED with cause HUNT and the
serial of the count is entered at the test frame either way; that a record which has the suspect's tag meanwhile is made ROGUE
too is log entry 42. A directive kept writes nothing. That new directives are kept behind those the hunt controller keeps
already, even where the lane has room, is log entry 12. -/
def Obligations.ADarkTestVerdictDrivesTheHunt : Prop :=
  ∀ (t : Tree) (f : FrameNo) (before after : List DarkEnd) (s : State), s.OutOfReset →
    s.mail.darkEnds = before ++ ⟨t, f⟩ :: after → (∀ x ∈ before, x.tree ≠ t) → (s.engine t).state ≠ .disabled →
      let h := s.hunt t
      let taken : State := { s with mail := { s.mail with darkEnds := before ++ after } }
      let verdict := fun (lit : Bool) => h.tests.find? (fun x => x.frame == f) = some ⟨f, lit⟩
      let suspects := fun (lo hi : Nat) => (List.range' 1 256).filter fun k =>
        decide ((s.record k).state ∈ [RecState.announced, .active, .parked, .suspended, .rogue] ∧
          (s.record k).tree = some t ∧ lo ≤ k ∧ k ≤ hi)
      let wanted := fun (lo m : Nat) =>
        match h.hold with
        | none => [Directive.laserHold lo m]
        | some (a, b) =>
          if b < lo then [.laserRelease a b, .laserHold lo m]
          else if m < b then [.laserRelease (m + 1) b]
          else if m = b then []
          else [.laserRelease a b, .laserHold lo m]
      let ended := fun (u : State) (outcome : HuntOutcome) =>
        (u.hunt t).state = .idle ∧ (u.hunt t).suspects = none ∧ (u.hunt t).tests = [] ∧
          (u.hunt t).outcome = some (outcome, s.frame) ∧ (u.light t).closed = [] ∧ (u.light t).current = none ∧
          .event .tree ∈ u.mail.attention
      let room := s.huntRoom t (s.endingKept t)
      let freed := fun (u : State) (place : Nat) =>
        if place ≤ room then
          (u.hunt t).hold = none ∧
            ∀ j, (u.record j).held = if s.isRecordOf t j = true then false else (s.record j).held
        else (u.hunt t).hold = h.hold ∧ ∀ j, (u.record j).held = (s.record j).held
      let unresolved := fun (u : State) =>
        ended u .unresolved ∧ (u.hunt t).cutPending = true ∧
          u.mail.lights = s.mail.lights ++ [⟨t, f, .hunt .huntUnresolved, none⟩] ∧
          s.HuntOffered u t (s.endingKept t) [.laserRelease 1 256] ∧ freed u 1
      let begun := fun (u : State) (dirs : List Directive) =>
        let still := (s.huntKept t).map (·.entry.dir)
        (u.hunt t).round = min 255 (h.round + 1) ∧ s.HuntOffered u t still dirs ∧
          (u.hunt t).roundDirs =
            ((dirs.take (s.huntRoom t still)).map fun d => RoundDir.mk d .waiting) ++
              ((dirs.drop (s.huntRoom t still)).map fun d => RoundDir.mk d .kept) ∧
          (u.hunt t).pendingTest = if dirs = [] then .atOnce else .absent
      let counted := fun (u : State) (lo hi low : Nat) =>
        let found := suspects lo hi
        (found = [] → unresolved u) ∧
        (∀ k, found = [k] →
          (u.hunt t).state = .verifying ∧ (u.hunt t).suspects = some (low, hi) ∧ (u.hunt t).count = 1 ∧
            (u.hunt t).verified = some (k, (s.record k).serial) ∧ begun u (wanted low k)) ∧
        (2 ≤ found.length → ∀ m, found[(found.length + 1) / 2 - 1]? = some m →
          (u.hunt t).state = .splitting ∧ (u.hunt t).suspects = some (low, hi) ∧ (u.hunt t).count = found.length ∧
            begun u (wanted low m))
      (h.tests.find? (fun x => x.frame == f) = none → exec (.darkWindowEnd t) s = .next taken) ∧
      (∀ lit, verdict lit →
        ∃ u, exec (.darkWindowEnd t) s = .next u ∧ (∀ x, x ≠ t → u.hunt x = s.hunt x) ∧ u.links = s.links ∧
          (h.state = .confirming → lit = false →
            ended u .cleared ∧ u.mail.lights = s.mail.lights ++ [⟨t, f, .hunt .huntCleared, none⟩] ∧
              (u.hunt t).cutPending = h.cutPending ∧ s.HuntOffered u t (s.endingKept t) []) ∧
          (h.state = .confirming → lit = true → h.firstLit = false →
            u = taken.modHunt t fun x =>
              { x with tests := x.tests.filter (fun y => y.frame != f), firstLit := true }) ∧
          (h.state = .confirming → lit = true → h.firstLit = true →
            counted u 1 256 ((suspects 1 256).head?.getD 1)) ∧
          (∀ lo hi a m, h.state = .splitting → h.suspects = some (lo, hi) → h.hold = some (a, m) →
            (lit = false → counted u lo m lo) ∧ (lit = true → counted u (m + 1) hi (m + 1))) ∧
          (∀ k serial, h.state = .verifying → h.verified = some (k, serial) →
            (lit = true → unresolved u) ∧
            (lit = false → ended u .isolated ∧ (u.hunt t).cutPending = h.cutPending ∧
              s.HuntOffered u t (s.endingKept t) [.laserShut k, .laserRelease 1 256] ∧ freed u 2 ∧
              (if 1 ≤ room then
                (u.record k).state =
                  (if (s.record k).state = .vacant ∨ (s.record k).state = .retired then (s.record k).state else .rogue) ∧
                let entered := s.observe ⟨.huntIsolated, t, some k, serial, some .hunt, f, f, 0⟩
                u.log = entered.log ∧ u.overflow = entered.overflow
              else (u.record k).state = (s.record k).state ∧ u.log = s.log ∧ u.overflow = s.overflow))))

/-! ## Requests that read (spec/03 to spec/10) -/

/-- Every read of the trees, the roster and the profiles is answered OK with the items its rule names, and changes nothing
but its own link's slots: READ_TREE, READ_PLAN, READ_RECORD, FIND_SERIAL, READ_PROFILE (R9, R62, R64, R127). -/
def Obligations.ReadsOfTreesAndRosterChangeNothing : Prop :=
  ∀ (l : LinkId) (seq : Nat) (s : State), s.Serves l .read →
    (∀ t : Tree, exec (.readTree l seq t.val) s =
      .next (s.served l 4 seq .ok (.tree
        (let e := s.engine t
        { state := e.state
          enablePending := decide (e.enableWaiters ≠ [])
          disablePending := decide (e.disableWaiters ≠ [])
          params := e.params
          mode := (s.enrol t).mode
          frame := s.frame
          urgent := e.urgent.length
          normal := e.normal.length
          places := [e.places[0], e.places[1], e.places[2], e.places[3]].map fun p =>
            p.map fun x => (x.entry.dir, x.carriage)
          awaited := e.expect.length
          queued := (e.queue.map fun x => x.octets.length).sum
          light := e.light.level
          cutIn := match e.params.cutPol with
            | .highWhenCut => e.cutIn.level
            | .lowWhenCut => !e.cutIn.level })))) ∧
    (∀ t : Tree, exec (.readPlan l seq t.val) s =
      .next (s.served l 5 seq .ok (.plan (s.engine t).surplusPtr (s.engine t).planForce))) ∧
    (∀ k, (s.record k).state ≠ .vacant →
      let waiting := (∃ x ∈ s.kept, x.entry.dir = .depart k) ∨ ∃ t, ∃ x ∈ (s.engine t).normal, x.dir = .depart k
      ∃ d, exec (.readRecord l seq k) s = .next (s.served l 12 seq .ok (.record (s.record k) d)) ∧
        (waiting → d = .pending) ∧ (¬ waiting → d = ((s.record k).departed.map Departure.carried).getD .none)) ∧
    (∀ serial,
      let holds := fun k => (s.record k).state.inLookup = true ∧ (s.record k).serial = some serial
      (∀ k, holds k → (∀ j, j < k → ¬ holds j) →
        exec (.findSerial l seq serial) s =
          .next (s.served l 13 seq .ok (.found k (s.record k).tree (s.record k).state))) ∧
      ((∀ k, ¬ holds k) → exec (.findSerial l seq serial) s = .next (s.served l 13 seq .noRecord .none))) ∧
    (∀ n, n < 16 → exec (.readProfile l seq n) s =
      .next (s.served l 14 seq .ok (.loads (s.profile n)
        ([0, 1, 2, 3].map fun (t : Tree) =>
          ((s.load t).committed, (s.load t).release, (s.engine t).params.k)))))

/-- Every read of enrolment, strangers, tracking, light, log and hunts is answered with the items its rule names, and
changes nothing but its own link's slots: READ_ENROLMENT, READ_STRANGER, READ_TRACKING, READ_LIGHT, READ_LOG_STATUS,
READ_OBSERVATION, READ_HUNT (R80, R89, R104, R143, R146, R169). That READ_LIGHT gives the plans of the interval table, and
READ_HUNT the tests in flight, oldest first is the model's choice, log entry 32. -/
def Obligations.ReadsOfWatchAndEnrolmentChangeNothing : Prop :=
  ∀ (l : LinkId) (seq : Nat) (s : State), s.Serves l .read →
    (∀ t : Tree,
      let e := s.enrol t
      let head := e.queue.head?.filter fun k => (s.record k).state == .ranging
      exec (.readEnrolment l seq t.val) s =
        .next (s.served l 16 seq .ok (.enrolment
          { mode := e.mode
            dMax := (s.engine t).params.d
            d := e.d
            count := e.count
            seqNo := e.seqNo
            lastDiscovery := e.lastDiscovery
            queue := e.queue.map fun k => ⟨k, (s.record k).state, (s.record k).rangeAttempts, (s.record k).offer⟩
            inProgress := head.map fun k =>
              (e.attempt, s.kept.any fun x => x.entry.origin == .ranged && x.entry.dir.isSetDelay k)
            strangers := ((List.range 16).filter fun n => (s.stranger n).any fun x => x.tree == t).length }))) ∧
    exec (.readStranger l seq) s =
      .next (s.served l 18 seq .ok (.strangers
        ((List.range 16).filterMap fun n => (s.stranger n).map fun x => (n, x))
        ((List.range 16).filter fun n => (s.stranger n).isNone).length)) ∧
    (∀ k t, (s.record k).state ≠ .vacant → (s.record k).tree = some t →
      ∃ kept, exec (.readTracking l seq k) s =
        .next (s.served l 19 seq .ok (.tracking
          { state := (s.record k).state
            delay := (s.record k).delay
            missRun := (s.record k).missRun
            tree := some t
            driftTol := (s.engine t).params.driftTol
            driftLim := (s.engine t).params.driftLim
            samples := (s.tracker k).samples
            mark := (s.tracker k).mark
            cause := (s.tracker k).cause
            kept := kept })) ∧
        ((∀ x ∈ s.kept, ∀ e, x.entry ≠ ⟨.setDelay k e, .corrected⟩) → kept = none) ∧
        (∀ before after e u due, s.kept = before ++ ⟨u, ⟨.setDelay k e, .corrected⟩, due⟩ :: after →
          (∀ x ∈ before, ∀ e, x.entry ≠ ⟨.setDelay k e, .corrected⟩) → kept = some e)) ∧
    (∀ t : Tree,
      let w := s.light t
      ∃ shuts, exec (.readLight l seq t.val) s =
        .next (s.served l 20 seq .ok (.light
          { tailTol := (s.engine t).params.tailTol
            strikeLim := (s.engine t).params.strikeLim
            autoHunt := (s.engine t).params.autoHunt
            table := w.table.map (·.frame)
            run := w.run.map fun x => (x.frame, x.grain, x.attribution)
            closed := w.closed
            current := w.current
            lit := (w.closed.filter (·.lit)).length
            shuts := shuts })) ∧
        ∀ k, k ∈ shuts ↔ ∃ x ∈ s.kept, x.tree = t ∧ x.entry = ⟨.laserShut k, .strikeShut⟩) ∧
    exec (.readLogStatus l seq) s =
      .next (s.served l 21 seq .ok (.logStatus
        ((List.range 16).filter fun n => (s.logRecord n).isSome).length
        ((List.range 16).find? fun n => (s.logRecord n).isSome) s.overflow)) ∧
    (∀ n, (16 ≤ n → exec (.readObservation l seq n) s = .next (s.served l 22 seq .badRequest .none)) ∧
      (n < 16 → s.logRecord n = none → exec (.readObservation l seq n) s = .next (s.served l 22 seq .noData .none)) ∧
      (n < 16 → ∀ o, s.logRecord n = some o →
        exec (.readObservation l seq n) s = .next (s.served l 22 seq .ok (.observation o)))) ∧
    (∀ t : Tree,
      ∃ ending, exec (.readHunt l seq t.val) s =
        .next (s.served l 28 seq .ok
          (.hunt ⟨s.hunt t, ending, (s.engine t).resumePending, (s.engine t).cutInAsserted⟩)) ∧
        ∀ d, d ∈ ending ↔ ∃ x ∈ s.kept, x.tree = t ∧ x.entry.dir = d ∧
          (x.entry.origin = .huntRelease ∨ ∃ a b, x.entry.origin = .huntShut a b))

/-- Every read of the tallies, the period and the links is answered OK with the items its rule names, and changes nothing
but its own link's slots; on READ_LINKS the reading link reports itself BUSY with READ_LINKS: READ_LIVE, READ_PERIOD,
READ_LINKS (R184, R185, R193, R200). -/
def Obligations.ReadsOfTalliesAndLinksChangeNothing : Prop :=
  ∀ (l : LinkId) (seq : Nat) (s : State), s.Serves l .read →
    (∀ k, (s.record k).state ≠ .vacant →
      let q := (s.profile (s.record k).profile).q
      exec (.readLive l seq k) s =
        .next (s.served l 31 seq .ok (.live
          { state := (s.record k).state
            tree := (s.record k).tree
            profile := (s.record k).profile
            q := q
            threshold := if q = 0 then none else some (q * 1048576)
            live := (s.tally k).live
            period := s.period
            isOver := (s.record k).isOver
            closed := (s.tally k).closed }))) ∧
    (let left := (List.range' 1 256).filter fun k => !(s.tally k).closed.collected
    exec (.readPeriod l seq) s =
      .next (s.served l 32 seq .ok (.period
        { period := s.period
          lastClose := s.lastClose
          uncollected := left.length
          lowest := left.head?
          retired := ((List.range' 1 256).filter fun k => (s.record k).state == .retired).length
          wouldTake := decide (left = []) }))) ∧
    exec (.readLinks l seq) s =
      .next (s.served l 35 seq .ok (.links ([0, 1, 2].map fun (m : LinkId) =>
        let x := s.link m
        { role := x.role
          state := if m = l then .busy else x.state
          served :=
            if m = l then some (35, BitVec.ofNat 8 seq, false, false)
            else x.request.map fun r => (r.code, r.seq, decide (r.code = 1 ∨ r.code = 2), decide (r.code = 10))
          shown := [x.flags.observation.shown, x.flags.roster.shown, x.flags.tree.shown, x.flags.stranger.shown,
            x.flags.allowance.shown]
          attn := x.attn })))

end
end

