-- ==== Sys2Proof/Laws/State.lean ====
section
/-! SUPPORT. The small lemmas of `State`: for every update, one lemma for each field and each reading that it leaves as it
was, and what is read after it. -/

namespace Sys2Proof.Machine

/-! ## Numbered vectors -/

theorem readAt_updateAt {α : Type} {n : Nat} (v : Vector α n) (j k : Nat) (f : α → α) (absent : α) :
    readAt (updateAt v k f) j absent = if j = k ∧ 1 ≤ k ∧ k ≤ n then f (readAt v k absent) else readAt v j absent := by
  unfold readAt updateAt
  by_cases hk : 1 ≤ k ∧ k ≤ n
  · by_cases hj : 1 ≤ j ∧ j ≤ n
    · by_cases e : j = k
      · subst e
        simp [hj]
      · have : k - 1 ≠ j - 1 := by omega
        simp [hk, hj, e, Vector.getElem_set_ne, this]
    · have : ¬ (j = k ∧ 1 ≤ k ∧ k ≤ n) := by rintro ⟨rfl, h⟩; exact hj h
      simp [hj, this]
  · simp [hk]

theorem readAt_of_not_mem {α : Type} {n : Nat} (v : Vector α n) (k : Nat) (absent : α) (h : ¬ (1 ≤ k ∧ k ≤ n)) :
    readAt v k absent = absent := by simp [readAt, h]

theorem updateAt_of_not_mem {α : Type} {n : Nat} (v : Vector α n) (k : Nat) (f : α → α) (h : ¬ (1 ≤ k ∧ k ≤ n)) :
    updateAt v k f = v := by simp [updateAt, h]

theorem readAt_updateAll {α : Type} {n : Nat} (v : Vector α n) (k : Nat) (f : Nat → α → α) (absent : α) :
    readAt (updateAll v f) k absent = if 1 ≤ k ∧ k ≤ n then f k (readAt v k absent) else absent := by
  unfold readAt updateAll
  by_cases hk : 1 ≤ k ∧ k ≤ n
  · have e : 1 + (k - 1) = k := by omega
    simp [hk, e]
  · simp [hk]

theorem readAt_replicate {α : Type} (n k : Nat) (x absent : α) :
    readAt (Vector.replicate n x) k absent = if 1 ≤ k ∧ k ≤ n then x else absent := by simp [readAt]

theorem readAt_map {α : Type} {n : Nat} (v : Vector α n) (k : Nat) (f : α → α) (absent : α) :
    readAt (v.map f) k absent = if 1 ≤ k ∧ k ≤ n then f (readAt v k absent) else absent := by
  unfold readAt
  by_cases hk : 1 ≤ k ∧ k ≤ n <;> simp [hk]

theorem mem_numbersWhere {α : Type} {n : Nat} (v : Vector α n) (test : Nat → α → Bool) (k : Nat) (absent : α) :
    k ∈ numbersWhere v test ↔ (1 ≤ k ∧ k ≤ n) ∧ test k (readAt v k absent) = true := by
  unfold numbersWhere readAt
  simp only [List.mem_map, List.mem_filter, Prod.exists]
  constructor
  · rintro ⟨a, b, ⟨h1, h2⟩, rfl⟩
    obtain ⟨h3, h4⟩ := List.mk_mem_zipIdx_iff_le_and_getElem?_sub.mp h1
    obtain ⟨h5, h6⟩ := List.getElem?_eq_some_iff.mp h4
    have h7 : b - 1 < n := by simpa using h5
    have hb : 1 ≤ b ∧ b ≤ n := by omega
    have h8 : v[b - 1] = a := by simpa using h6
    refine ⟨hb, ?_⟩
    simp only [hb, and_self, dif_pos]
    rw [h8]; exact h2
  · rintro ⟨hk, ht⟩
    rw [dif_pos hk] at ht
    refine ⟨v[k - 1], k, ⟨?_, ht⟩, rfl⟩
    rw [List.mk_mem_zipIdx_iff_le_and_getElem?_sub]
    refine ⟨hk.1, ?_⟩
    rw [List.getElem?_eq_some_iff]
    exact ⟨by simp; omega, by simp⟩

/-! ## What an update leaves as it was -/

section modEngine

variable (s : State) (i : Tree) (f : Engine → Engine)

@[simp] theorem modEngine_powerHeld : (s.modEngine i f).powerHeld = s.powerHeld := rfl
@[simp] theorem modEngine_resetHeld : (s.modEngine i f).resetHeld = s.resetHeld := rfl
@[simp] theorem modEngine_frame : (s.modEngine i f).frame = s.frame := rfl
@[simp] theorem modEngine_stepOffset : (s.modEngine i f).stepOffset = s.stepOffset := rfl
@[simp] theorem modEngine_loads : (s.modEngine i f).loads = s.loads := rfl
@[simp] theorem modEngine_enrols : (s.modEngine i f).enrols = s.enrols := rfl
@[simp] theorem modEngine_lights : (s.modEngine i f).lights = s.lights := rfl
@[simp] theorem modEngine_hunts : (s.modEngine i f).hunts = s.hunts := rfl
@[simp] theorem modEngine_records : (s.modEngine i f).records = s.records := rfl
@[simp] theorem modEngine_trackers : (s.modEngine i f).trackers = s.trackers := rfl
@[simp] theorem modEngine_tallies : (s.modEngine i f).tallies = s.tallies := rfl
@[simp] theorem modEngine_profiles : (s.modEngine i f).profiles = s.profiles := rfl
@[simp] theorem modEngine_strangers : (s.modEngine i f).strangers = s.strangers := rfl
@[simp] theorem modEngine_log : (s.modEngine i f).log = s.log := rfl
@[simp] theorem modEngine_overflow : (s.modEngine i f).overflow = s.overflow := rfl
@[simp] theorem modEngine_kept : (s.modEngine i f).kept = s.kept := rfl
@[simp] theorem modEngine_period : (s.modEngine i f).period = s.period := rfl
@[simp] theorem modEngine_lastClose : (s.modEngine i f).lastClose = s.lastClose := rfl
@[simp] theorem modEngine_links : (s.modEngine i f).links = s.links := rfl
@[simp] theorem modEngine_mail : (s.modEngine i f).mail = s.mail := rfl
@[simp] theorem modEngine_uplink : (s.modEngine i f).uplink = s.uplink := rfl
@[simp] theorem modEngine_freeCount : (s.modEngine i f).freeCount = s.freeCount := rfl
@[simp] theorem modEngine_pending : (s.modEngine i f).pending = s.pending := rfl
@[simp] theorem modEngine_load (t : Tree) : (s.modEngine i f).load t = s.load t := rfl
@[simp] theorem modEngine_enrol (t : Tree) : (s.modEngine i f).enrol t = s.enrol t := rfl
@[simp] theorem modEngine_light (t : Tree) : (s.modEngine i f).light t = s.light t := rfl
@[simp] theorem modEngine_hunt (t : Tree) : (s.modEngine i f).hunt t = s.hunt t := rfl
@[simp] theorem modEngine_link (l : LinkId) : (s.modEngine i f).link l = s.link l := rfl
@[simp] theorem modEngine_record (k : Nat) : (s.modEngine i f).record k = s.record k := rfl
@[simp] theorem modEngine_tracker (k : Nat) : (s.modEngine i f).tracker k = s.tracker k := rfl
@[simp] theorem modEngine_tally (k : Nat) : (s.modEngine i f).tally k = s.tally k := rfl
@[simp] theorem modEngine_profile (n : Nat) : (s.modEngine i f).profile n = s.profile n := rfl

end modEngine

section modLoad

variable (s : State) (i : Tree) (f : Load → Load)

@[simp] theorem modLoad_powerHeld : (s.modLoad i f).powerHeld = s.powerHeld := rfl
@[simp] theorem modLoad_resetHeld : (s.modLoad i f).resetHeld = s.resetHeld := rfl
@[simp] theorem modLoad_frame : (s.modLoad i f).frame = s.frame := rfl
@[simp] theorem modLoad_stepOffset : (s.modLoad i f).stepOffset = s.stepOffset := rfl
@[simp] theorem modLoad_engines : (s.modLoad i f).engines = s.engines := rfl
@[simp] theorem modLoad_enrols : (s.modLoad i f).enrols = s.enrols := rfl
@[simp] theorem modLoad_lights : (s.modLoad i f).lights = s.lights := rfl
@[simp] theorem modLoad_hunts : (s.modLoad i f).hunts = s.hunts := rfl
@[simp] theorem modLoad_records : (s.modLoad i f).records = s.records := rfl
@[simp] theorem modLoad_trackers : (s.modLoad i f).trackers = s.trackers := rfl
@[simp] theorem modLoad_tallies : (s.modLoad i f).tallies = s.tallies := rfl
@[simp] theorem modLoad_profiles : (s.modLoad i f).profiles = s.profiles := rfl
@[simp] theorem modLoad_strangers : (s.modLoad i f).strangers = s.strangers := rfl
@[simp] theorem modLoad_log : (s.modLoad i f).log = s.log := rfl
@[simp] theorem modLoad_overflow : (s.modLoad i f).overflow = s.overflow := rfl
@[simp] theorem modLoad_kept : (s.modLoad i f).kept = s.kept := rfl
@[simp] theorem modLoad_period : (s.modLoad i f).period = s.period := rfl
@[simp] theorem modLoad_lastClose : (s.modLoad i f).lastClose = s.lastClose := rfl
@[simp] theorem modLoad_links : (s.modLoad i f).links = s.links := rfl
@[simp] theorem modLoad_mail : (s.modLoad i f).mail = s.mail := rfl
@[simp] theorem modLoad_uplink : (s.modLoad i f).uplink = s.uplink := rfl
@[simp] theorem modLoad_freeCount : (s.modLoad i f).freeCount = s.freeCount := rfl
@[simp] theorem modLoad_pending : (s.modLoad i f).pending = s.pending := rfl
@[simp] theorem modLoad_engine (t : Tree) : (s.modLoad i f).engine t = s.engine t := rfl
@[simp] theorem modLoad_enrol (t : Tree) : (s.modLoad i f).enrol t = s.enrol t := rfl
@[simp] theorem modLoad_light (t : Tree) : (s.modLoad i f).light t = s.light t := rfl
@[simp] theorem modLoad_hunt (t : Tree) : (s.modLoad i f).hunt t = s.hunt t := rfl
@[simp] theorem modLoad_link (l : LinkId) : (s.modLoad i f).link l = s.link l := rfl
@[simp] theorem modLoad_record (k : Nat) : (s.modLoad i f).record k = s.record k := rfl
@[simp] theorem modLoad_tracker (k : Nat) : (s.modLoad i f).tracker k = s.tracker k := rfl
@[simp] theorem modLoad_tally (k : Nat) : (s.modLoad i f).tally k = s.tally k := rfl
@[simp] theorem modLoad_profile (n : Nat) : (s.modLoad i f).profile n = s.profile n := rfl

end modLoad

section modEnrol

variable (s : State) (i : Tree) (f : Enrol → Enrol)

@[simp] theorem modEnrol_powerHeld : (s.modEnrol i f).powerHeld = s.powerHeld := rfl
@[simp] theorem modEnrol_resetHeld : (s.modEnrol i f).resetHeld = s.resetHeld := rfl
@[simp] theorem modEnrol_frame : (s.modEnrol i f).frame = s.frame := rfl
@[simp] theorem modEnrol_stepOffset : (s.modEnrol i f).stepOffset = s.stepOffset := rfl
@[simp] theorem modEnrol_engines : (s.modEnrol i f).engines = s.engines := rfl
@[simp] theorem modEnrol_loads : (s.modEnrol i f).loads = s.loads := rfl
@[simp] theorem modEnrol_lights : (s.modEnrol i f).lights = s.lights := rfl
@[simp] theorem modEnrol_hunts : (s.modEnrol i f).hunts = s.hunts := rfl
@[simp] theorem modEnrol_records : (s.modEnrol i f).records = s.records := rfl
@[simp] theorem modEnrol_trackers : (s.modEnrol i f).trackers = s.trackers := rfl
@[simp] theorem modEnrol_tallies : (s.modEnrol i f).tallies = s.tallies := rfl
@[simp] theorem modEnrol_profiles : (s.modEnrol i f).profiles = s.profiles := rfl
@[simp] theorem modEnrol_strangers : (s.modEnrol i f).strangers = s.strangers := rfl
@[simp] theorem modEnrol_log : (s.modEnrol i f).log = s.log := rfl
@[simp] theorem modEnrol_overflow : (s.modEnrol i f).overflow = s.overflow := rfl
@[simp] theorem modEnrol_kept : (s.modEnrol i f).kept = s.kept := rfl
@[simp] theorem modEnrol_period : (s.modEnrol i f).period = s.period := rfl
@[simp] theorem modEnrol_lastClose : (s.modEnrol i f).lastClose = s.lastClose := rfl
@[simp] theorem modEnrol_links : (s.modEnrol i f).links = s.links := rfl
@[simp] theorem modEnrol_mail : (s.modEnrol i f).mail = s.mail := rfl
@[simp] theorem modEnrol_uplink : (s.modEnrol i f).uplink = s.uplink := rfl
@[simp] theorem modEnrol_freeCount : (s.modEnrol i f).freeCount = s.freeCount := rfl
@[simp] theorem modEnrol_pending : (s.modEnrol i f).pending = s.pending := rfl
@[simp] theorem modEnrol_engine (t : Tree) : (s.modEnrol i f).engine t = s.engine t := rfl
@[simp] theorem modEnrol_load (t : Tree) : (s.modEnrol i f).load t = s.load t := rfl
@[simp] theorem modEnrol_light (t : Tree) : (s.modEnrol i f).light t = s.light t := rfl
@[simp] theorem modEnrol_hunt (t : Tree) : (s.modEnrol i f).hunt t = s.hunt t := rfl
@[simp] theorem modEnrol_link (l : LinkId) : (s.modEnrol i f).link l = s.link l := rfl
@[simp] theorem modEnrol_record (k : Nat) : (s.modEnrol i f).record k = s.record k := rfl
@[simp] theorem modEnrol_tracker (k : Nat) : (s.modEnrol i f).tracker k = s.tracker k := rfl
@[simp] theorem modEnrol_tally (k : Nat) : (s.modEnrol i f).tally k = s.tally k := rfl
@[simp] theorem modEnrol_profile (n : Nat) : (s.modEnrol i f).profile n = s.profile n := rfl

end modEnrol

section modLight

variable (s : State) (i : Tree) (f : LightWatch → LightWatch)

@[simp] theorem modLight_powerHeld : (s.modLight i f).powerHeld = s.powerHeld := rfl
@[simp] theorem modLight_resetHeld : (s.modLight i f).resetHeld = s.resetHeld := rfl
@[simp] theorem modLight_frame : (s.modLight i f).frame = s.frame := rfl
@[simp] theorem modLight_stepOffset : (s.modLight i f).stepOffset = s.stepOffset := rfl
@[simp] theorem modLight_engines : (s.modLight i f).engines = s.engines := rfl
@[simp] theorem modLight_loads : (s.modLight i f).loads = s.loads := rfl
@[simp] theorem modLight_enrols : (s.modLight i f).enrols = s.enrols := rfl
@[simp] theorem modLight_hunts : (s.modLight i f).hunts = s.hunts := rfl
@[simp] theorem modLight_records : (s.modLight i f).records = s.records := rfl
@[simp] theorem modLight_trackers : (s.modLight i f).trackers = s.trackers := rfl
@[simp] theorem modLight_tallies : (s.modLight i f).tallies = s.tallies := rfl
@[simp] theorem modLight_profiles : (s.modLight i f).profiles = s.profiles := rfl
@[simp] theorem modLight_strangers : (s.modLight i f).strangers = s.strangers := rfl
@[simp] theorem modLight_log : (s.modLight i f).log = s.log := rfl
@[simp] theorem modLight_overflow : (s.modLight i f).overflow = s.overflow := rfl
@[simp] theorem modLight_kept : (s.modLight i f).kept = s.kept := rfl
@[simp] theorem modLight_period : (s.modLight i f).period = s.period := rfl
@[simp] theorem modLight_lastClose : (s.modLight i f).lastClose = s.lastClose := rfl
@[simp] theorem modLight_links : (s.modLight i f).links = s.links := rfl
@[simp] theorem modLight_mail : (s.modLight i f).mail = s.mail := rfl
@[simp] theorem modLight_uplink : (s.modLight i f).uplink = s.uplink := rfl
@[simp] theorem modLight_freeCount : (s.modLight i f).freeCount = s.freeCount := rfl
@[simp] theorem modLight_pending : (s.modLight i f).pending = s.pending := rfl
@[simp] theorem modLight_engine (t : Tree) : (s.modLight i f).engine t = s.engine t := rfl
@[simp] theorem modLight_load (t : Tree) : (s.modLight i f).load t = s.load t := rfl
@[simp] theorem modLight_enrol (t : Tree) : (s.modLight i f).enrol t = s.enrol t := rfl
@[simp] theorem modLight_hunt (t : Tree) : (s.modLight i f).hunt t = s.hunt t := rfl
@[simp] theorem modLight_link (l : LinkId) : (s.modLight i f).link l = s.link l := rfl
@[simp] theorem modLight_record (k : Nat) : (s.modLight i f).record k = s.record k := rfl
@[simp] theorem modLight_tracker (k : Nat) : (s.modLight i f).tracker k = s.tracker k := rfl
@[simp] theorem modLight_tally (k : Nat) : (s.modLight i f).tally k = s.tally k := rfl
@[simp] theorem modLight_profile (n : Nat) : (s.modLight i f).profile n = s.profile n := rfl

end modLight

section modHunt

variable (s : State) (i : Tree) (f : Hunt → Hunt)

@[simp] theorem modHunt_powerHeld : (s.modHunt i f).powerHeld = s.powerHeld := rfl
@[simp] theorem modHunt_resetHeld : (s.modHunt i f).resetHeld = s.resetHeld := rfl
@[simp] theorem modHunt_frame : (s.modHunt i f).frame = s.frame := rfl
@[simp] theorem modHunt_stepOffset : (s.modHunt i f).stepOffset = s.stepOffset := rfl
@[simp] theorem modHunt_engines : (s.modHunt i f).engines = s.engines := rfl
@[simp] theorem modHunt_loads : (s.modHunt i f).loads = s.loads := rfl
@[simp] theorem modHunt_enrols : (s.modHunt i f).enrols = s.enrols := rfl
@[simp] theorem modHunt_lights : (s.modHunt i f).lights = s.lights := rfl
@[simp] theorem modHunt_records : (s.modHunt i f).records = s.records := rfl
@[simp] theorem modHunt_trackers : (s.modHunt i f).trackers = s.trackers := rfl
@[simp] theorem modHunt_tallies : (s.modHunt i f).tallies = s.tallies := rfl
@[simp] theorem modHunt_profiles : (s.modHunt i f).profiles = s.profiles := rfl
@[simp] theorem modHunt_strangers : (s.modHunt i f).strangers = s.strangers := rfl
@[simp] theorem modHunt_log : (s.modHunt i f).log = s.log := rfl
@[simp] theorem modHunt_overflow : (s.modHunt i f).overflow = s.overflow := rfl
@[simp] theorem modHunt_kept : (s.modHunt i f).kept = s.kept := rfl
@[simp] theorem modHunt_period : (s.modHunt i f).period = s.period := rfl
@[simp] theorem modHunt_lastClose : (s.modHunt i f).lastClose = s.lastClose := rfl
@[simp] theorem modHunt_links : (s.modHunt i f).links = s.links := rfl
@[simp] theorem modHunt_mail : (s.modHunt i f).mail = s.mail := rfl
@[simp] theorem modHunt_uplink : (s.modHunt i f).uplink = s.uplink := rfl
@[simp] theorem modHunt_freeCount : (s.modHunt i f).freeCount = s.freeCount := rfl
@[simp] theorem modHunt_pending : (s.modHunt i f).pending = s.pending := rfl
@[simp] theorem modHunt_engine (t : Tree) : (s.modHunt i f).engine t = s.engine t := rfl
@[simp] theorem modHunt_load (t : Tree) : (s.modHunt i f).load t = s.load t := rfl
@[simp] theorem modHunt_enrol (t : Tree) : (s.modHunt i f).enrol t = s.enrol t := rfl
@[simp] theorem modHunt_light (t : Tree) : (s.modHunt i f).light t = s.light t := rfl
@[simp] theorem modHunt_link (l : LinkId) : (s.modHunt i f).link l = s.link l := rfl
@[simp] theorem modHunt_record (k : Nat) : (s.modHunt i f).record k = s.record k := rfl
@[simp] theorem modHunt_tracker (k : Nat) : (s.modHunt i f).tracker k = s.tracker k := rfl
@[simp] theorem modHunt_tally (k : Nat) : (s.modHunt i f).tally k = s.tally k := rfl
@[simp] theorem modHunt_profile (n : Nat) : (s.modHunt i f).profile n = s.profile n := rfl

end modHunt

section modLink

variable (s : State) (i : LinkId) (f : Link → Link)

@[simp] theorem modLink_powerHeld : (s.modLink i f).powerHeld = s.powerHeld := rfl
@[simp] theorem modLink_resetHeld : (s.modLink i f).resetHeld = s.resetHeld := rfl
@[simp] theorem modLink_frame : (s.modLink i f).frame = s.frame := rfl
@[simp] theorem modLink_stepOffset : (s.modLink i f).stepOffset = s.stepOffset := rfl
@[simp] theorem modLink_engines : (s.modLink i f).engines = s.engines := rfl
@[simp] theorem modLink_loads : (s.modLink i f).loads = s.loads := rfl
@[simp] theorem modLink_enrols : (s.modLink i f).enrols = s.enrols := rfl
@[simp] theorem modLink_lights : (s.modLink i f).lights = s.lights := rfl
@[simp] theorem modLink_hunts : (s.modLink i f).hunts = s.hunts := rfl
@[simp] theorem modLink_records : (s.modLink i f).records = s.records := rfl
@[simp] theorem modLink_trackers : (s.modLink i f).trackers = s.trackers := rfl
@[simp] theorem modLink_tallies : (s.modLink i f).tallies = s.tallies := rfl
@[simp] theorem modLink_profiles : (s.modLink i f).profiles = s.profiles := rfl
@[simp] theorem modLink_strangers : (s.modLink i f).strangers = s.strangers := rfl
@[simp] theorem modLink_log : (s.modLink i f).log = s.log := rfl
@[simp] theorem modLink_overflow : (s.modLink i f).overflow = s.overflow := rfl
@[simp] theorem modLink_kept : (s.modLink i f).kept = s.kept := rfl
@[simp] theorem modLink_period : (s.modLink i f).period = s.period := rfl
@[simp] theorem modLink_lastClose : (s.modLink i f).lastClose = s.lastClose := rfl
@[simp] theorem modLink_mail : (s.modLink i f).mail = s.mail := rfl
@[simp] theorem modLink_uplink : (s.modLink i f).uplink = s.uplink := rfl
@[simp] theorem modLink_freeCount : (s.modLink i f).freeCount = s.freeCount := rfl
@[simp] theorem modLink_pending : (s.modLink i f).pending = s.pending := rfl
@[simp] theorem modLink_engine (t : Tree) : (s.modLink i f).engine t = s.engine t := rfl
@[simp] theorem modLink_load (t : Tree) : (s.modLink i f).load t = s.load t := rfl
@[simp] theorem modLink_enrol (t : Tree) : (s.modLink i f).enrol t = s.enrol t := rfl
@[simp] theorem modLink_light (t : Tree) : (s.modLink i f).light t = s.light t := rfl
@[simp] theorem modLink_hunt (t : Tree) : (s.modLink i f).hunt t = s.hunt t := rfl
@[simp] theorem modLink_record (k : Nat) : (s.modLink i f).record k = s.record k := rfl
@[simp] theorem modLink_tracker (k : Nat) : (s.modLink i f).tracker k = s.tracker k := rfl
@[simp] theorem modLink_tally (k : Nat) : (s.modLink i f).tally k = s.tally k := rfl
@[simp] theorem modLink_profile (n : Nat) : (s.modLink i f).profile n = s.profile n := rfl

end modLink

section modRecord

variable (s : State) (i : Nat) (f : DropRecord → DropRecord)

@[simp] theorem modRecord_powerHeld : (s.modRecord i f).powerHeld = s.powerHeld := rfl
@[simp] theorem modRecord_resetHeld : (s.modRecord i f).resetHeld = s.resetHeld := rfl
@[simp] theorem modRecord_frame : (s.modRecord i f).frame = s.frame := rfl
@[simp] theorem modRecord_stepOffset : (s.modRecord i f).stepOffset = s.stepOffset := rfl
@[simp] theorem modRecord_engines : (s.modRecord i f).engines = s.engines := rfl
@[simp] theorem modRecord_loads : (s.modRecord i f).loads = s.loads := rfl
@[simp] theorem modRecord_enrols : (s.modRecord i f).enrols = s.enrols := rfl
@[simp] theorem modRecord_lights : (s.modRecord i f).lights = s.lights := rfl
@[simp] theorem modRecord_hunts : (s.modRecord i f).hunts = s.hunts := rfl
@[simp] theorem modRecord_trackers : (s.modRecord i f).trackers = s.trackers := rfl
@[simp] theorem modRecord_tallies : (s.modRecord i f).tallies = s.tallies := rfl
@[simp] theorem modRecord_profiles : (s.modRecord i f).profiles = s.profiles := rfl
@[simp] theorem modRecord_strangers : (s.modRecord i f).strangers = s.strangers := rfl
@[simp] theorem modRecord_log : (s.modRecord i f).log = s.log := rfl
@[simp] theorem modRecord_overflow : (s.modRecord i f).overflow = s.overflow := rfl
@[simp] theorem modRecord_kept : (s.modRecord i f).kept = s.kept := rfl
@[simp] theorem modRecord_period : (s.modRecord i f).period = s.period := rfl
@[simp] theorem modRecord_lastClose : (s.modRecord i f).lastClose = s.lastClose := rfl
@[simp] theorem modRecord_links : (s.modRecord i f).links = s.links := rfl
@[simp] theorem modRecord_mail : (s.modRecord i f).mail = s.mail := rfl
@[simp] theorem modRecord_uplink : (s.modRecord i f).uplink = s.uplink := rfl
@[simp] theorem modRecord_freeCount : (s.modRecord i f).freeCount = s.freeCount := rfl
@[simp] theorem modRecord_pending : (s.modRecord i f).pending = s.pending := rfl
@[simp] theorem modRecord_engine (t : Tree) : (s.modRecord i f).engine t = s.engine t := rfl
@[simp] theorem modRecord_load (t : Tree) : (s.modRecord i f).load t = s.load t := rfl
@[simp] theorem modRecord_enrol (t : Tree) : (s.modRecord i f).enrol t = s.enrol t := rfl
@[simp] theorem modRecord_light (t : Tree) : (s.modRecord i f).light t = s.light t := rfl
@[simp] theorem modRecord_hunt (t : Tree) : (s.modRecord i f).hunt t = s.hunt t := rfl
@[simp] theorem modRecord_link (l : LinkId) : (s.modRecord i f).link l = s.link l := rfl
@[simp] theorem modRecord_tracker (k : Nat) : (s.modRecord i f).tracker k = s.tracker k := rfl
@[simp] theorem modRecord_tally (k : Nat) : (s.modRecord i f).tally k = s.tally k := rfl
@[simp] theorem modRecord_profile (n : Nat) : (s.modRecord i f).profile n = s.profile n := rfl

end modRecord

section modTracker

variable (s : State) (i : Nat) (f : Tracker → Tracker)

@[simp] theorem modTracker_powerHeld : (s.modTracker i f).powerHeld = s.powerHeld := rfl
@[simp] theorem modTracker_resetHeld : (s.modTracker i f).resetHeld = s.resetHeld := rfl
@[simp] theorem modTracker_frame : (s.modTracker i f).frame = s.frame := rfl
@[simp] theorem modTracker_stepOffset : (s.modTracker i f).stepOffset = s.stepOffset := rfl
@[simp] theorem modTracker_engines : (s.modTracker i f).engines = s.engines := rfl
@[simp] theorem modTracker_loads : (s.modTracker i f).loads = s.loads := rfl
@[simp] theorem modTracker_enrols : (s.modTracker i f).enrols = s.enrols := rfl
@[simp] theorem modTracker_lights : (s.modTracker i f).lights = s.lights := rfl
@[simp] theorem modTracker_hunts : (s.modTracker i f).hunts = s.hunts := rfl
@[simp] theorem modTracker_records : (s.modTracker i f).records = s.records := rfl
@[simp] theorem modTracker_tallies : (s.modTracker i f).tallies = s.tallies := rfl
@[simp] theorem modTracker_profiles : (s.modTracker i f).profiles = s.profiles := rfl
@[simp] theorem modTracker_strangers : (s.modTracker i f).strangers = s.strangers := rfl
@[simp] theorem modTracker_log : (s.modTracker i f).log = s.log := rfl
@[simp] theorem modTracker_overflow : (s.modTracker i f).overflow = s.overflow := rfl
@[simp] theorem modTracker_kept : (s.modTracker i f).kept = s.kept := rfl
@[simp] theorem modTracker_period : (s.modTracker i f).period = s.period := rfl
@[simp] theorem modTracker_lastClose : (s.modTracker i f).lastClose = s.lastClose := rfl
@[simp] theorem modTracker_links : (s.modTracker i f).links = s.links := rfl
@[simp] theorem modTracker_mail : (s.modTracker i f).mail = s.mail := rfl
@[simp] theorem modTracker_uplink : (s.modTracker i f).uplink = s.uplink := rfl
@[simp] theorem modTracker_freeCount : (s.modTracker i f).freeCount = s.freeCount := rfl
@[simp] theorem modTracker_pending : (s.modTracker i f).pending = s.pending := rfl
@[simp] theorem modTracker_engine (t : Tree) : (s.modTracker i f).engine t = s.engine t := rfl
@[simp] theorem modTracker_load (t : Tree) : (s.modTracker i f).load t = s.load t := rfl
@[simp] theorem modTracker_enrol (t : Tree) : (s.modTracker i f).enrol t = s.enrol t := rfl
@[simp] theorem modTracker_light (t : Tree) : (s.modTracker i f).light t = s.light t := rfl
@[simp] theorem modTracker_hunt (t : Tree) : (s.modTracker i f).hunt t = s.hunt t := rfl
@[simp] theorem modTracker_link (l : LinkId) : (s.modTracker i f).link l = s.link l := rfl
@[simp] theorem modTracker_record (k : Nat) : (s.modTracker i f).record k = s.record k := rfl
@[simp] theorem modTracker_tally (k : Nat) : (s.modTracker i f).tally k = s.tally k := rfl
@[simp] theorem modTracker_profile (n : Nat) : (s.modTracker i f).profile n = s.profile n := rfl

end modTracker

section modTally

variable (s : State) (i : Nat) (f : Tally → Tally)

@[simp] theorem modTally_powerHeld : (s.modTally i f).powerHeld = s.powerHeld := rfl
@[simp] theorem modTally_resetHeld : (s.modTally i f).resetHeld = s.resetHeld := rfl
@[simp] theorem modTally_frame : (s.modTally i f).frame = s.frame := rfl
@[simp] theorem modTally_stepOffset : (s.modTally i f).stepOffset = s.stepOffset := rfl
@[simp] theorem modTally_engines : (s.modTally i f).engines = s.engines := rfl
@[simp] theorem modTally_loads : (s.modTally i f).loads = s.loads := rfl
@[simp] theorem modTally_enrols : (s.modTally i f).enrols = s.enrols := rfl
@[simp] theorem modTally_lights : (s.modTally i f).lights = s.lights := rfl
@[simp] theorem modTally_hunts : (s.modTally i f).hunts = s.hunts := rfl
@[simp] theorem modTally_records : (s.modTally i f).records = s.records := rfl
@[simp] theorem modTally_trackers : (s.modTally i f).trackers = s.trackers := rfl
@[simp] theorem modTally_profiles : (s.modTally i f).profiles = s.profiles := rfl
@[simp] theorem modTally_strangers : (s.modTally i f).strangers = s.strangers := rfl
@[simp] theorem modTally_log : (s.modTally i f).log = s.log := rfl
@[simp] theorem modTally_overflow : (s.modTally i f).overflow = s.overflow := rfl
@[simp] theorem modTally_kept : (s.modTally i f).kept = s.kept := rfl
@[simp] theorem modTally_period : (s.modTally i f).period = s.period := rfl
@[simp] theorem modTally_lastClose : (s.modTally i f).lastClose = s.lastClose := rfl
@[simp] theorem modTally_links : (s.modTally i f).links = s.links := rfl
@[simp] theorem modTally_mail : (s.modTally i f).mail = s.mail := rfl
@[simp] theorem modTally_uplink : (s.modTally i f).uplink = s.uplink := rfl
@[simp] theorem modTally_freeCount : (s.modTally i f).freeCount = s.freeCount := rfl
@[simp] theorem modTally_pending : (s.modTally i f).pending = s.pending := rfl
@[simp] theorem modTally_engine (t : Tree) : (s.modTally i f).engine t = s.engine t := rfl
@[simp] theorem modTally_load (t : Tree) : (s.modTally i f).load t = s.load t := rfl
@[simp] theorem modTally_enrol (t : Tree) : (s.modTally i f).enrol t = s.enrol t := rfl
@[simp] theorem modTally_light (t : Tree) : (s.modTally i f).light t = s.light t := rfl
@[simp] theorem modTally_hunt (t : Tree) : (s.modTally i f).hunt t = s.hunt t := rfl
@[simp] theorem modTally_link (l : LinkId) : (s.modTally i f).link l = s.link l := rfl
@[simp] theorem modTally_record (k : Nat) : (s.modTally i f).record k = s.record k := rfl
@[simp] theorem modTally_tracker (k : Nat) : (s.modTally i f).tracker k = s.tracker k := rfl
@[simp] theorem modTally_profile (n : Nat) : (s.modTally i f).profile n = s.profile n := rfl

end modTally

section modProfile

variable (s : State) (i : Nat) (f : Profile → Profile)

@[simp] theorem modProfile_powerHeld : (s.modProfile i f).powerHeld = s.powerHeld := rfl
@[simp] theorem modProfile_resetHeld : (s.modProfile i f).resetHeld = s.resetHeld := rfl
@[simp] theorem modProfile_frame : (s.modProfile i f).frame = s.frame := rfl
@[simp] theorem modProfile_stepOffset : (s.modProfile i f).stepOffset = s.stepOffset := rfl
@[simp] theorem modProfile_engines : (s.modProfile i f).engines = s.engines := rfl
@[simp] theorem modProfile_loads : (s.modProfile i f).loads = s.loads := rfl
@[simp] theorem modProfile_enrols : (s.modProfile i f).enrols = s.enrols := rfl
@[simp] theorem modProfile_lights : (s.modProfile i f).lights = s.lights := rfl
@[simp] theorem modProfile_hunts : (s.modProfile i f).hunts = s.hunts := rfl
@[simp] theorem modProfile_records : (s.modProfile i f).records = s.records := rfl
@[simp] theorem modProfile_trackers : (s.modProfile i f).trackers = s.trackers := rfl
@[simp] theorem modProfile_tallies : (s.modProfile i f).tallies = s.tallies := rfl
@[simp] theorem modProfile_strangers : (s.modProfile i f).strangers = s.strangers := rfl
@[simp] theorem modProfile_log : (s.modProfile i f).log = s.log := rfl
@[simp] theorem modProfile_overflow : (s.modProfile i f).overflow = s.overflow := rfl
@[simp] theorem modProfile_kept : (s.modProfile i f).kept = s.kept := rfl
@[simp] theorem modProfile_period : (s.modProfile i f).period = s.period := rfl
@[simp] theorem modProfile_lastClose : (s.modProfile i f).lastClose = s.lastClose := rfl
@[simp] theorem modProfile_links : (s.modProfile i f).links = s.links := rfl
@[simp] theorem modProfile_mail : (s.modProfile i f).mail = s.mail := rfl
@[simp] theorem modProfile_uplink : (s.modProfile i f).uplink = s.uplink := rfl
@[simp] theorem modProfile_freeCount : (s.modProfile i f).freeCount = s.freeCount := rfl
@[simp] theorem modProfile_pending : (s.modProfile i f).pending = s.pending := rfl
@[simp] theorem modProfile_engine (t : Tree) : (s.modProfile i f).engine t = s.engine t := rfl
@[simp] theorem modProfile_load (t : Tree) : (s.modProfile i f).load t = s.load t := rfl
@[simp] theorem modProfile_enrol (t : Tree) : (s.modProfile i f).enrol t = s.enrol t := rfl
@[simp] theorem modProfile_light (t : Tree) : (s.modProfile i f).light t = s.light t := rfl
@[simp] theorem modProfile_hunt (t : Tree) : (s.modProfile i f).hunt t = s.hunt t := rfl
@[simp] theorem modProfile_link (l : LinkId) : (s.modProfile i f).link l = s.link l := rfl
@[simp] theorem modProfile_record (k : Nat) : (s.modProfile i f).record k = s.record k := rfl
@[simp] theorem modProfile_tracker (k : Nat) : (s.modProfile i f).tracker k = s.tracker k := rfl
@[simp] theorem modProfile_tally (k : Nat) : (s.modProfile i f).tally k = s.tally k := rfl

end modProfile

section modMail
variable (s : State) (f : Mail → Mail)

@[simp] theorem modMail_powerHeld : (s.modMail f).powerHeld = s.powerHeld := rfl
@[simp] theorem modMail_resetHeld : (s.modMail f).resetHeld = s.resetHeld := rfl
@[simp] theorem modMail_frame : (s.modMail f).frame = s.frame := rfl
@[simp] theorem modMail_stepOffset : (s.modMail f).stepOffset = s.stepOffset := rfl
@[simp] theorem modMail_engines : (s.modMail f).engines = s.engines := rfl
@[simp] theorem modMail_loads : (s.modMail f).loads = s.loads := rfl
@[simp] theorem modMail_enrols : (s.modMail f).enrols = s.enrols := rfl
@[simp] theorem modMail_lights : (s.modMail f).lights = s.lights := rfl
@[simp] theorem modMail_hunts : (s.modMail f).hunts = s.hunts := rfl
@[simp] theorem modMail_records : (s.modMail f).records = s.records := rfl
@[simp] theorem modMail_trackers : (s.modMail f).trackers = s.trackers := rfl
@[simp] theorem modMail_tallies : (s.modMail f).tallies = s.tallies := rfl
@[simp] theorem modMail_profiles : (s.modMail f).profiles = s.profiles := rfl
@[simp] theorem modMail_strangers : (s.modMail f).strangers = s.strangers := rfl
@[simp] theorem modMail_log : (s.modMail f).log = s.log := rfl
@[simp] theorem modMail_overflow : (s.modMail f).overflow = s.overflow := rfl
@[simp] theorem modMail_kept : (s.modMail f).kept = s.kept := rfl
@[simp] theorem modMail_period : (s.modMail f).period = s.period := rfl
@[simp] theorem modMail_lastClose : (s.modMail f).lastClose = s.lastClose := rfl
@[simp] theorem modMail_links : (s.modMail f).links = s.links := rfl
@[simp] theorem modMail_mail : (s.modMail f).mail = f s.mail := rfl
@[simp] theorem modMail_uplink : (s.modMail f).uplink = s.uplink := rfl
@[simp] theorem modMail_freeCount : (s.modMail f).freeCount = s.freeCount := rfl
@[simp] theorem modMail_pending : (s.modMail f).pending = s.pending := rfl
@[simp] theorem modMail_engine (t : Tree) : (s.modMail f).engine t = s.engine t := rfl
@[simp] theorem modMail_load (t : Tree) : (s.modMail f).load t = s.load t := rfl
@[simp] theorem modMail_enrol (t : Tree) : (s.modMail f).enrol t = s.enrol t := rfl
@[simp] theorem modMail_light (t : Tree) : (s.modMail f).light t = s.light t := rfl
@[simp] theorem modMail_hunt (t : Tree) : (s.modMail f).hunt t = s.hunt t := rfl
@[simp] theorem modMail_link (l : LinkId) : (s.modMail f).link l = s.link l := rfl
@[simp] theorem modMail_record (k : Nat) : (s.modMail f).record k = s.record k := rfl
@[simp] theorem modMail_tracker (k : Nat) : (s.modMail f).tracker k = s.tracker k := rfl
@[simp] theorem modMail_tally (k : Nat) : (s.modMail f).tally k = s.tally k := rfl
@[simp] theorem modMail_profile (n : Nat) : (s.modMail f).profile n = s.profile n := rfl

end modMail

section dropKept
variable (s : State) (test : Kept → Bool)

@[simp] theorem dropKept_powerHeld : (s.dropKept test).powerHeld = s.powerHeld := rfl
@[simp] theorem dropKept_resetHeld : (s.dropKept test).resetHeld = s.resetHeld := rfl
@[simp] theorem dropKept_frame : (s.dropKept test).frame = s.frame := rfl
@[simp] theorem dropKept_stepOffset : (s.dropKept test).stepOffset = s.stepOffset := rfl
@[simp] theorem dropKept_engines : (s.dropKept test).engines = s.engines := rfl
@[simp] theorem dropKept_loads : (s.dropKept test).loads = s.loads := rfl
@[simp] theorem dropKept_enrols : (s.dropKept test).enrols = s.enrols := rfl
@[simp] theorem dropKept_lights : (s.dropKept test).lights = s.lights := rfl
@[simp] theorem dropKept_hunts : (s.dropKept test).hunts = s.hunts := rfl
@[simp] theorem dropKept_records : (s.dropKept test).records = s.records := rfl
@[simp] theorem dropKept_trackers : (s.dropKept test).trackers = s.trackers := rfl
@[simp] theorem dropKept_tallies : (s.dropKept test).tallies = s.tallies := rfl
@[simp] theorem dropKept_profiles : (s.dropKept test).profiles = s.profiles := rfl
@[simp] theorem dropKept_strangers : (s.dropKept test).strangers = s.strangers := rfl
@[simp] theorem dropKept_log : (s.dropKept test).log = s.log := rfl
@[simp] theorem dropKept_overflow : (s.dropKept test).overflow = s.overflow := rfl
@[simp] theorem dropKept_kept : (s.dropKept test).kept = s.kept.filter (fun x => !test x) := rfl
@[simp] theorem dropKept_period : (s.dropKept test).period = s.period := rfl
@[simp] theorem dropKept_lastClose : (s.dropKept test).lastClose = s.lastClose := rfl
@[simp] theorem dropKept_links : (s.dropKept test).links = s.links := rfl
@[simp] theorem dropKept_mail : (s.dropKept test).mail = s.mail := rfl
@[simp] theorem dropKept_uplink : (s.dropKept test).uplink = s.uplink := rfl
@[simp] theorem dropKept_freeCount : (s.dropKept test).freeCount = s.freeCount := rfl
@[simp] theorem dropKept_pending : (s.dropKept test).pending = s.pending := rfl
@[simp] theorem dropKept_engine (t : Tree) : (s.dropKept test).engine t = s.engine t := rfl
@[simp] theorem dropKept_load (t : Tree) : (s.dropKept test).load t = s.load t := rfl
@[simp] theorem dropKept_enrol (t : Tree) : (s.dropKept test).enrol t = s.enrol t := rfl
@[simp] theorem dropKept_light (t : Tree) : (s.dropKept test).light t = s.light t := rfl
@[simp] theorem dropKept_hunt (t : Tree) : (s.dropKept test).hunt t = s.hunt t := rfl
@[simp] theorem dropKept_link (l : LinkId) : (s.dropKept test).link l = s.link l := rfl
@[simp] theorem dropKept_record (k : Nat) : (s.dropKept test).record k = s.record k := rfl
@[simp] theorem dropKept_tracker (k : Nat) : (s.dropKept test).tracker k = s.tracker k := rfl
@[simp] theorem dropKept_tally (k : Nat) : (s.dropKept test).tally k = s.tally k := rfl
@[simp] theorem dropKept_profile (n : Nat) : (s.dropKept test).profile n = s.profile n := rfl

end dropKept

section modRecords
variable (s : State) (f : Nat → DropRecord → DropRecord)

@[simp] theorem modRecords_powerHeld : (s.modRecords f).powerHeld = s.powerHeld := rfl
@[simp] theorem modRecords_resetHeld : (s.modRecords f).resetHeld = s.resetHeld := rfl
@[simp] theorem modRecords_frame : (s.modRecords f).frame = s.frame := rfl
@[simp] theorem modRecords_stepOffset : (s.modRecords f).stepOffset = s.stepOffset := rfl
@[simp] theorem modRecords_engines : (s.modRecords f).engines = s.engines := rfl
@[simp] theorem modRecords_loads : (s.modRecords f).loads = s.loads := rfl
@[simp] theorem modRecords_enrols : (s.modRecords f).enrols = s.enrols := rfl
@[simp] theorem modRecords_lights : (s.modRecords f).lights = s.lights := rfl
@[simp] theorem modRecords_hunts : (s.modRecords f).hunts = s.hunts := rfl
@[simp] theorem modRecords_trackers : (s.modRecords f).trackers = s.trackers := rfl
@[simp] theorem modRecords_tallies : (s.modRecords f).tallies = s.tallies := rfl
@[simp] theorem modRecords_profiles : (s.modRecords f).profiles = s.profiles := rfl
@[simp] theorem modRecords_strangers : (s.modRecords f).strangers = s.strangers := rfl
@[simp] theorem modRecords_log : (s.modRecords f).log = s.log := rfl
@[simp] theorem modRecords_overflow : (s.modRecords f).overflow = s.overflow := rfl
@[simp] theorem modRecords_kept : (s.modRecords f).kept = s.kept := rfl
@[simp] theorem modRecords_period : (s.modRecords f).period = s.period := rfl
@[simp] theorem modRecords_lastClose : (s.modRecords f).lastClose = s.lastClose := rfl
@[simp] theorem modRecords_links : (s.modRecords f).links = s.links := rfl
@[simp] theorem modRecords_mail : (s.modRecords f).mail = s.mail := rfl
@[simp] theorem modRecords_uplink : (s.modRecords f).uplink = s.uplink := rfl
@[simp] theorem modRecords_freeCount : (s.modRecords f).freeCount = s.freeCount := rfl
@[simp] theorem modRecords_pending : (s.modRecords f).pending = s.pending := rfl
@[simp] theorem modRecords_engine (t : Tree) : (s.modRecords f).engine t = s.engine t := rfl
@[simp] theorem modRecords_load (t : Tree) : (s.modRecords f).load t = s.load t := rfl
@[simp] theorem modRecords_enrol (t : Tree) : (s.modRecords f).enrol t = s.enrol t := rfl
@[simp] theorem modRecords_light (t : Tree) : (s.modRecords f).light t = s.light t := rfl
@[simp] theorem modRecords_hunt (t : Tree) : (s.modRecords f).hunt t = s.hunt t := rfl
@[simp] theorem modRecords_link (l : LinkId) : (s.modRecords f).link l = s.link l := rfl
@[simp] theorem modRecords_tracker (k : Nat) : (s.modRecords f).tracker k = s.tracker k := rfl
@[simp] theorem modRecords_tally (k : Nat) : (s.modRecords f).tally k = s.tally k := rfl
@[simp] theorem modRecords_profile (n : Nat) : (s.modRecords f).profile n = s.profile n := rfl

end modRecords

/-! ## What is read after an update -/

theorem modEngine_engine (s : State) (i t : Tree) (f : Engine → Engine) :
    (s.modEngine i f).engine t = if t = i then f (s.engine i) else s.engine t := by
  by_cases e : t = i
  · subst e
    simp [State.modEngine, State.engine]
  · have : i.val ≠ t.val := fun h => e (Fin.ext h.symm)
    simp [State.modEngine, State.engine, e, Vector.getElem_set_ne, this]

@[simp] theorem modEngine_engine_self (s : State) (i : Tree) (f : Engine → Engine) : (s.modEngine i f).engine i = f (s.engine i) := by
  simp [modEngine_engine]

theorem modLoad_load (s : State) (i t : Tree) (f : Load → Load) :
    (s.modLoad i f).load t = if t = i then f (s.load i) else s.load t := by
  by_cases e : t = i
  · subst e
    simp [State.modLoad, State.load]
  · have : i.val ≠ t.val := fun h => e (Fin.ext h.symm)
    simp [State.modLoad, State.load, e, Vector.getElem_set_ne, this]

@[simp] theorem modLoad_load_self (s : State) (i : Tree) (f : Load → Load) : (s.modLoad i f).load i = f (s.load i) := by
  simp [modLoad_load]

theorem modEnrol_enrol (s : State) (i t : Tree) (f : Enrol → Enrol) :
    (s.modEnrol i f).enrol t = if t = i then f (s.enrol i) else s.enrol t := by
  by_cases e : t = i
  · subst e
    simp [State.modEnrol, State.enrol]
  · have : i.val ≠ t.val := fun h => e (Fin.ext h.symm)
    simp [State.modEnrol, State.enrol, e, Vector.getElem_set_ne, this]

@[simp] theorem modEnrol_enrol_self (s : State) (i : Tree) (f : Enrol → Enrol) : (s.modEnrol i f).enrol i = f (s.enrol i) := by
  simp [modEnrol_enrol]

theorem modLight_light (s : State) (i t : Tree) (f : LightWatch → LightWatch) :
    (s.modLight i f).light t = if t = i then f (s.light i) else s.light t := by
  by_cases e : t = i
  · subst e
    simp [State.modLight, State.light]
  · have : i.val ≠ t.val := fun h => e (Fin.ext h.symm)
    simp [State.modLight, State.light, e, Vector.getElem_set_ne, this]

@[simp] theorem modLight_light_self (s : State) (i : Tree) (f : LightWatch → LightWatch) : (s.modLight i f).light i = f (s.light i) := by
  simp [modLight_light]

theorem modHunt_hunt (s : State) (i t : Tree) (f : Hunt → Hunt) :
    (s.modHunt i f).hunt t = if t = i then f (s.hunt i) else s.hunt t := by
  by_cases e : t = i
  · subst e
    simp [State.modHunt, State.hunt]
  · have : i.val ≠ t.val := fun h => e (Fin.ext h.symm)
    simp [State.modHunt, State.hunt, e, Vector.getElem_set_ne, this]

@[simp] theorem modHunt_hunt_self (s : State) (i : Tree) (f : Hunt → Hunt) : (s.modHunt i f).hunt i = f (s.hunt i) := by
  simp [modHunt_hunt]

theorem modLink_link (s : State) (i l : LinkId) (f : Link → Link) :
    (s.modLink i f).link l = if l = i then f (s.link i) else s.link l := by
  by_cases e : l = i
  · subst e
    simp [State.modLink, State.link]
  · have : i.val ≠ l.val := fun h => e (Fin.ext h.symm)
    simp [State.modLink, State.link, e, Vector.getElem_set_ne, this]

@[simp] theorem modLink_link_self (s : State) (i : LinkId) (f : Link → Link) : (s.modLink i f).link i = f (s.link i) := by
  simp [modLink_link]

theorem modRecord_record (s : State) (i k : Nat) (f : DropRecord → DropRecord) :
    (s.modRecord i f).record k = if k = i ∧ 1 ≤ i ∧ i ≤ 256 then f (s.record i) else s.record k :=
  readAt_updateAt s.records k i f _

theorem modTracker_tracker (s : State) (i k : Nat) (f : Tracker → Tracker) :
    (s.modTracker i f).tracker k = if k = i ∧ 1 ≤ i ∧ i ≤ 256 then f (s.tracker i) else s.tracker k :=
  readAt_updateAt s.trackers k i f _

theorem modTally_tally (s : State) (i k : Nat) (f : Tally → Tally) :
    (s.modTally i f).tally k = if k = i ∧ 1 ≤ i ∧ i ≤ 256 then f (s.tally i) else s.tally k :=
  readAt_updateAt s.tallies k i f _

theorem modProfile_profile (s : State) (i n : Nat) (f : Profile → Profile) :
    (s.modProfile i f).profile n = if n = i ∧ i < 16 then f (s.profile i) else s.profile n := by
  have h := readAt_updateAt s.profiles (n + 1) (i + 1) f Profile.reset
  exact h.trans (if_congr (by omega) rfl rfl)

theorem modRecords_record (s : State) (f : Nat → DropRecord → DropRecord) (k : Nat) :
    (s.modRecords f).record k = if 1 ≤ k ∧ k ≤ 256 then f k (s.record k) else .vacant :=
  readAt_updateAll s.records k f _

/-- A record that is not VACANT has a tag from 1 to 256. -/
theorem record_tag_range {s : State} {k : Nat} (h : (s.record k).state ≠ .vacant) : 1 ≤ k ∧ k ≤ 256 := by
  by_contra hk
  exact h (by simp [State.record, readAt_of_not_mem, hk, DropRecord.vacant])

end Sys2Proof.Machine
end

