-- ==== Sys2Proof/Laws/Links.lean ====
section
/-! SUPPORT. What a transaction on a link can do, said once: a request taken, discarded, ignored or refused, and its
answer. -/

namespace Sys2Proof.Machine

/-! ## Links -/

theorem Link.active_iff (x : Link) : x.active = true ↔ x.role ≠ .off := by
  cases h : x.role <;> simp [Link.active, h]

theorem Link.inactive_iff (x : Link) : x.active = false ↔ x.role = .off := by
  cases h : x.role <;> simp [Link.active, h]

theorem Role.allows_off (cls : RequestClass) : Role.off.allows cls = false := by cases cls <;> rfl

/-- Two changes of one link are one change. -/
theorem modLink_modLink (s : State) (l : LinkId) (f g : Link → Link) :
    (s.modLink l f).modLink l g = s.modLink l (fun x => g (f x)) := by
  simp [State.modLink, State.link, Vector.set_set]

theorem modLink_self (s : State) (l : LinkId) : s.modLink l (fun x => x) = s := by
  simp [State.modLink, State.link]

theorem asked_eq (s : State) (l : LinkId) (i : Instr) : s.asked l i = s.modLink l (·.asked i) := rfl

theorem served_eq (s : State) (l : LinkId) (code seq : Nat) (status : Status) (data : ResponseData) :
    s.served l code seq status data = s.modLink l (·.served code (BitVec.ofNat 8 seq) status data) := rfl

theorem takeRequest_eq (x : Link) (i : Instr) : x.takeRequest (requestOf i) = x.asked i := rfl

@[simp] theorem asked_link (s : State) (l : LinkId) (i : Instr) :
    (s.asked l i).link l = (s.link l).asked i := by simp [asked_eq]

theorem answered_asked (x : Link) (i : Instr) (status : Status) (data : ResponseData) :
    (x.asked i).answered status data = x.served i.requestCode (BitVec.ofNat 8 i.requestSeq) status data := rfl

/-- The answer to the request a link waits with. -/
theorem asked_answer (s : State) (l : LinkId) (i : Instr) (status : Status) (data : ResponseData) :
    (s.asked l i).answer l status data = s.served l i.requestCode i.requestSeq status data := by
  simp [asked_eq, served_eq, State.answer, modLink_modLink, answered_asked]

/-- The answer to a link that waits with no request changes nothing. -/
theorem answer_of_none (s : State) (l : LinkId) (status : Status) (data : ResponseData) (h : (s.link l).request = none) :
    s.answer l status data = s := by
  have e : (s.link l).answered status data = s.link l := by simp [Link.answered, h]
  simp only [State.link] at e
  simp [State.answer, State.modLink, State.link, e]

/-! ## Transactions -/

theorem transaction_hears (s : State) (l : LinkId) (next : State) (h : s.Hears l) : s.transaction l next = next := by
  have h1 : (s.link l).active = true := (Link.active_iff _).mpr h.1
  simp [State.transaction, h1, h.2]

theorem transaction_off (s : State) (l : LinkId) (next : State) (h : (s.link l).role = .off) :
    s.transaction l next = s := by
  have h1 : (s.link l).active = false := (Link.inactive_iff _).mpr h
  simp [State.transaction, h1]

theorem transaction_straddling (s : State) (l : LinkId) (next : State) (h : (s.link l).role ≠ .off)
    (h' : (s.link l).straddling = true) :
    s.transaction l next = s.modLink l fun x => { x with straddling := false, sdo := .notDriven } := by
  have h1 : (s.link l).active = true := (Link.active_iff _).mpr h
  simp [State.transaction, h1, h']

/-- A request that its link takes and its role allows is served on the state with the request in its slot. -/
theorem request_serves (s : State) (l : LinkId) (i : Instr) (cls : RequestClass) (serve : State → State)
    (h : s.Serves l cls) : s.request l i cls serve = serve (s.asked l i) := by
  obtain ⟨⟨_, h2, h3⟩, h4⟩ := h
  unfold State.request State.write
  rw [transaction_hears s l _ h2, if_neg h3]
  simp only [takeRequest_eq, ← asked_eq]
  unfold State.checkRole
  rw [if_pos (by simpa [Link.asked] using h4)]

/-- A request that its link takes and its role does not allow is DENIED. -/
theorem request_denied (s : State) (l : LinkId) (i : Instr) (cls : RequestClass) (serve : State → State)
    (h : s.Takes l) (h4 : (s.link l).role.allows cls = false) :
    s.request l i cls serve = s.served l i.requestCode i.requestSeq .denied .none := by
  obtain ⟨_, h2, h3⟩ := h
  unfold State.request State.write
  rw [transaction_hears s l _ h2, if_neg h3]
  simp only [takeRequest_eq, ← asked_eq]
  unfold State.checkRole
  rw [if_neg (by simp [Link.asked, h4]), asked_answer]

/-- A write on a BUSY link is discarded. -/
theorem write_busy (s : State) (l : LinkId) (r : Request) (serve : State → State) (h : s.Hears l)
    (hb : (s.link l).state = .busy) : s.write l r serve = s.modLink l Link.discardWrite := by
  unfold State.write
  rw [transaction_hears s l _ h, if_pos hb]

theorem request_busy (s : State) (l : LinkId) (i : Instr) (cls : RequestClass) (serve : State → State)
    (h : s.Hears l) (hb : (s.link l).state = .busy) :
    s.request l i cls serve = s.modLink l Link.discardWrite := write_busy s l _ _ h hb

/-! ## Operands -/

theorem withTree_lt (s : State) (l : LinkId) (tree : Nat) (serve : Tree → State) (h : tree < 4) :
    s.withTree l tree serve = serve ⟨tree, h⟩ := by simp [State.withTree, treeOf, h]

theorem withTree_fin (s : State) (l : LinkId) (t : Tree) (serve : Tree → State) : s.withTree l t.val serve = serve t :=
  withTree_lt s l t.val serve t.isLt

theorem withTree_above (s : State) (l : LinkId) (tree : Nat) (serve : Tree → State) (h : 4 ≤ tree) :
    s.withTree l tree serve = s.answer l .badRequest .none := by
  have : ¬ tree < 4 := by omega
  simp [State.withTree, treeOf, this]

theorem withTag_mem (s : State) (l : LinkId) (tag : Nat) (serve : Nat → State) (h : 1 ≤ tag ∧ tag ≤ 256) :
    s.withTag l tag serve = serve tag := by simp [State.withTag, tagOf, h]

theorem withTag_outside (s : State) (l : LinkId) (tag : Nat) (serve : Nat → State) (h : ¬ (1 ≤ tag ∧ tag ≤ 256)) :
    s.withTag l tag serve = s.answer l .badRequest .none := by simp [State.withTag, tagOf, h]

/-! ## Out of reset -/

theorem live_out (s next : State) (h : s.OutOfReset) : live s next = .next next := by simp [live, h.1, h.2]

theorem live_held (s next : State) (h : ¬ s.OutOfReset) : live s next = .next s := by
  unfold State.OutOfReset at h
  unfold live
  rw [if_pos]
  cases h1 : s.powerHeld <;> cases h2 : s.resetHeld <;> simp_all

/-! ## What taking or answering a request leaves as it was -/

section
variable (s : State) (l : LinkId) (i : Instr)
@[simp] theorem asked_engine (t : Tree) : (s.asked l i).engine t = s.engine t := rfl
@[simp] theorem asked_load (t : Tree) : (s.asked l i).load t = s.load t := rfl
@[simp] theorem asked_enrol (t : Tree) : (s.asked l i).enrol t = s.enrol t := rfl
@[simp] theorem asked_light (t : Tree) : (s.asked l i).light t = s.light t := rfl
@[simp] theorem asked_hunt (t : Tree) : (s.asked l i).hunt t = s.hunt t := rfl
@[simp] theorem asked_record (k : Nat) : (s.asked l i).record k = s.record k := rfl
@[simp] theorem asked_tracker (k : Nat) : (s.asked l i).tracker k = s.tracker k := rfl
@[simp] theorem asked_tally (k : Nat) : (s.asked l i).tally k = s.tally k := rfl
@[simp] theorem asked_profile (n : Nat) : (s.asked l i).profile n = s.profile n := rfl
@[simp] theorem asked_kept : (s.asked l i).kept = s.kept := rfl
@[simp] theorem asked_frame : (s.asked l i).frame = s.frame := rfl
@[simp] theorem asked_departure (k : Nat) : (s.asked l i).departure k = s.departure k := rfl
@[simp] theorem asked_lookup (serial : Serial) : (s.asked l i).lookup serial = s.lookup serial := rfl
@[simp] theorem asked_allocate (t : Tree) : (s.asked l i).allocate t = s.allocate t := rfl
end

end Sys2Proof.Machine
end

