-- ==== Sys2Proof/Laws/Ops.lean ====
section
/-! SUPPORT. What each shared operation can do, said once: its shape (the only fields of the state it can change), and
what it does to the piece of state it is for. -/

namespace Sys2Proof.Machine

/-! ## Messages and the log -/

theorem raise_shape (s : State) (kind : FlagKind) : ∃ mail, s.raise kind = { s with mail := mail } := ⟨_, rfl⟩

theorem raise_mail (s : State) (kind : FlagKind) :
    (s.raise kind).mail = { s.mail with attention := s.mail.attention ++ [.event kind] } := rfl

theorem tellLight_shape (s : State) (t : Tree) (f : FrameNo) (b : LightBody) (offset : Option Nat) :
    ∃ mail, s.tellLight t f b offset = { s with mail := mail } := ⟨_, rfl⟩

theorem changesKnown_shape (s : State) (test : Nat → Bool) :
    ∃ mail, s.changesKnown test = { s with mail := mail } := ⟨_, rfl⟩

/-- The log changes only by `observe`, which touches the log, the overflow flag and the events told to the link unit. -/
theorem observe_shape (s : State) (o : Observation) :
    ∃ log overflow mail, s.observe o = { s with log := log, overflow := overflow, mail := mail } := by
  unfold State.observe
  split
  · exact ⟨_, s.overflow, s.mail, rfl⟩
  · split
    · exact ⟨_, s.overflow, _, rfl⟩
    · split
      · exact ⟨s.log, s.overflow, s.mail, rfl⟩
      · exact ⟨s.log, _, _, rfl⟩

/-- Two observations collapse only where they agree in kind, tree and tag. -/
theorem agrees_iff (a b : Observation) : a.agrees b = true ↔ a.kind = b.kind ∧ a.tree = b.tree ∧ a.tag = b.tag := by
  simp [Observation.agrees, and_assoc]

/-! ## State changes of a record -/

theorem leaveActive_shape (s : State) (k : Nat) (new : RecState) :
    ∃ loads, s.leaveActive k new = { s with loads := loads } := by
  unfold State.leaveActive
  split
  · exact ⟨_, rfl⟩
  · exact ⟨s.loads, rfl⟩

theorem leaveQueue_shape (s : State) (k : Nat) (new : RecState) :
    ∃ enrols kept, s.leaveQueue k new = { s with enrols := enrols, kept := kept } := by
  unfold State.leaveQueue
  dsimp only
  split
  · split
    · exact ⟨_, _, rfl⟩
    · exact ⟨_, s.kept, rfl⟩
  · exact ⟨s.enrols, s.kept, rfl⟩

theorem leaveSuspended_shape (s : State) (k : Nat) : ∃ kept, s.leaveSuspended k = { s with kept := kept } := by
  unfold State.leaveSuspended
  split
  · exact ⟨_, rfl⟩
  · exact ⟨s.kept, rfl⟩

theorem enterState_shape (s : State) (t : Tree) (k : Nat) (new : RecState) :
    ∃ loads enrols kept trackers tallies mail,
      s.enterState t k new =
        { s with
          loads := loads, enrols := enrols, kept := kept, trackers := trackers, tallies := tallies, mail := mail } := by
  cases new
  · exact ⟨s.loads, s.enrols, _, _, _, _, rfl⟩
  · exact ⟨s.loads, s.enrols, s.kept, s.trackers, s.tallies, s.mail, rfl⟩
  · exact ⟨s.loads, _, s.kept, s.trackers, s.tallies, s.mail, rfl⟩
  · exact ⟨s.loads, s.enrols, s.kept, s.trackers, s.tallies, s.mail, rfl⟩
  · exact ⟨_, s.enrols, s.kept, _, s.tallies, s.mail, rfl⟩
  · exact ⟨s.loads, s.enrols, s.kept, s.trackers, s.tallies, s.mail, rfl⟩
  · exact ⟨s.loads, s.enrols, s.kept, s.trackers, s.tallies, s.mail, rfl⟩
  · exact ⟨s.loads, s.enrols, s.kept, s.trackers, s.tallies, s.mail, rfl⟩
  · exact ⟨s.loads, s.enrols, _, s.trackers, s.tallies, s.mail, rfl⟩

theorem reportChange_shape (s : State) (k : Nat) (before after : RecState) (byRequest : Bool) :
    ∃ mail, s.reportChange k before after byRequest = { s with mail := mail } := ⟨_, rfl⟩

/-! What a release takes out of the reports in flight, and what it leaves (R36, R45). -/

section release
variable (m : Mail) (k : Nat)
@[simp] theorem release_valids : (m.release k).valids = m.valids.filter (·.tag != k) := rfl
@[simp] theorem release_misses : (m.release k).misses = m.misses.filter (·.tag != k) := rfl
@[simp] theorem release_samples : (m.release k).samples = m.samples.filter (·.tag != k) := rfl
@[simp] theorem release_changes : (m.release k).changes = m.changes := rfl
@[simp] theorem release_ups : (m.release k).ups = m.ups.filter (·.tag != k) := rfl
@[simp] theorem release_downs : (m.release k).downs = m.downs.filter (·.tag != k) := rfl
@[simp] theorem release_dispatches : (m.release k).dispatches = m.dispatches.filter (·.tag != k) := rfl
@[simp] theorem release_lights : (m.release k).lights = m.lights := rfl
@[simp] theorem release_strikes : (m.release k).strikes = m.strikes := rfl
@[simp] theorem release_cleans : (m.release k).cleans = m.cleans.filter (·.tag != k) := rfl
@[simp] theorem release_discovery : (m.release k).discovery = m.discovery := rfl
@[simp] theorem release_ranging : (m.release k).ranging = m.ranging := rfl
@[simp] theorem release_darkEnds : (m.release k).darkEnds = m.darkEnds := rfl
@[simp] theorem release_cutIns : (m.release k).cutIns = m.cutIns := rfl
@[simp] theorem release_triggers : (m.release k).triggers = m.triggers := rfl
@[simp] theorem release_attention : (m.release k).attention = m.attention := rfl
end release

/-- The entry into VACANT leaves no report of a tree engine for the tag in flight, and the tracker knows of the changes
before it (R36, R45, R90). -/
theorem enterState_vacant_mail (s : State) (t : Tree) (k : Nat) :
    (s.enterState t k .vacant).mail =
      Mail.release { s.mail with changes := s.mail.changes.filter fun r => !(r.tag == k) } k := rfl

/-- What a reported change tells the link unit and the delay tracker (R42, R90, R99). -/
theorem reportChange_mail (s : State) (k : Nat) (before after : RecState) (byRequest : Bool) :
    (s.reportChange k before after byRequest).mail =
      { s.mail with
        changes := s.mail.changes ++ [⟨k, before, after⟩]
        attention := s.mail.attention ++ [.change k before after byRequest]
        samples := if before = .active then s.mail.samples.map (·.meet k) else s.mail.samples } := rfl

/-- A report to the link unit latches a flag but for a change that a link request caused, other than the step from RETIRED
to VACANT (R42). -/
theorem latches_none_iff (r : LinkReport) :
    r.latches = none ↔ ∃ k before after, r = .change k before after true ∧ ¬ (before = .retired ∧ after = .vacant) := by
  cases r with
  | event kind => simp [LinkReport.latches]
  | change k before after byRequest => cases byRequest <;> simp [LinkReport.latches]

/-- A state change touches the record, its tree's load and ranging queue, kept directives, its tracker and tally sets,
and the reports in flight, and nothing else (R43). -/
theorem changeState_shape (s : State) (k : Nat) (new : RecState) (byRequest : Bool) :
    ∃ loads enrols kept records trackers tallies mail,
      s.changeState k new byRequest =
        { s with
          loads := loads, enrols := enrols, kept := kept, records := records, trackers := trackers, tallies := tallies,
          mail := mail } := by
  unfold State.changeState
  dsimp only
  split
  · exact ⟨s.loads, s.enrols, s.kept, s.records, s.trackers, s.tallies, s.mail, rfl⟩
  · obtain ⟨a, h1⟩ := leaveActive_shape s k new
    rw [h1]
    obtain ⟨b, c, h2⟩ := leaveQueue_shape { s with loads := a } k new
    rw [h2]
    obtain ⟨d, h3⟩ := leaveSuspended_shape { s with loads := a, enrols := b, kept := c } k
    rw [h3]
    obtain ⟨e, f, g, i, j, o, h4⟩ := enterState_shape
      (({ s with loads := a, enrols := b, kept := d } : State).modRecord k (·.enter new)) (s.record k).treeNo k new
    have h4' : (State.enterState (State.modRecord { s with loads := a, enrols := b, kept := d } k fun x => x.enter new)
      (s.record k).treeNo k new) = _ := h4
    rw [h4']
    obtain ⟨m, h5⟩ := reportChange_shape
      { (({ s with loads := a, enrols := b, kept := d } : State).modRecord k (·.enter new)) with
        loads := e, enrols := f, kept := g, trackers := i, tallies := j, mail := o } k (s.record k).state new byRequest
    exact ⟨e, f, g, _, i, j, m, h5⟩

/-- Writing the state a record already has changes nothing (R43). -/
theorem changeState_same (s : State) (k : Nat) (byRequest : Bool) :
    s.changeState k (s.record k).state byRequest = s := by simp [State.changeState]

/-- What a state change leaves in the records: record `k` as it stands in the new state, every other record as it was. -/
theorem changeState_record (s : State) (j k : Nat) (new : RecState) (byRequest : Bool) :
    (s.changeState k new byRequest).record j =
      if j = k ∧ (s.record k).state ≠ new ∧ 1 ≤ k ∧ k ≤ 256 then (s.record k).enter new else s.record j := by
  unfold State.changeState
  dsimp only
  split
  · rename_i h
    simp [h]
  · rename_i h
    obtain ⟨a, h1⟩ := leaveActive_shape s k new
    rw [h1]
    obtain ⟨b, c, h2⟩ := leaveQueue_shape { s with loads := a } k new
    rw [h2]
    obtain ⟨d, h3⟩ := leaveSuspended_shape { s with loads := a, enrols := b, kept := c } k
    rw [h3]
    obtain ⟨e, f, g, i, m, o, h4⟩ := enterState_shape
      (({ s with loads := a, enrols := b, kept := d } : State).modRecord k (·.enter new)) (s.record k).treeNo k new
    have h4' : (State.enterState (State.modRecord { s with loads := a, enrols := b, kept := d } k fun x => x.enter new)
      (s.record k).treeNo k new) = _ := h4
    rw [h4']
    obtain ⟨n, h5⟩ := reportChange_shape
      { (({ s with loads := a, enrols := b, kept := d } : State).modRecord k (·.enter new)) with
        loads := e, enrols := f, kept := g, trackers := i, tallies := m, mail := o } k (s.record k).state new byRequest
    rw [h5]
    have h6 := modRecord_record { s with loads := a, enrols := b, kept := d } k j (·.enter new)
    have h7 : State.record { s with loads := a, enrols := b, kept := d } k = s.record k := rfl
    have h8 : State.record { s with loads := a, enrols := b, kept := d } j = s.record j := rfl
    rw [h7, h8] at h6
    simp only [h, ne_eq, not_false_eq_true, true_and]
    exact h6

/-! ## Lanes -/

theorem push_urgent (e : Engine) (x : LaneEntry) (h : x.dir.urgent = true) :
    e.push x = { e with urgent := e.urgent ++ [x] } := by simp [Engine.push, h]

theorem push_normal (e : Engine) (x : LaneEntry) (h : x.dir.urgent = false) :
    e.push x = { e with normal := e.normal ++ [x] } := by simp [Engine.push, h]

/-- A directive is pushed only below its lane's capacity (R14). -/
theorem accepted_room {s : State} {t : Tree} {x : LaneEntry} (h : s.laneAnswer t x = .accepted) :
    (s.engine t).state ≠ .disabled ∧ (s.engine t).laneFull x.dir = false ∧
      s.kept.any (fun y => y.tree == t && y.entry.origin.producer == x.origin.producer) = false := by
  unfold State.laneAnswer at h
  split at h
  · cases h
  · split at h
    · cases h
    · rename_i h1 h2
      simp only [Bool.or_eq_true, not_or, Bool.not_eq_true] at h2
      exact ⟨h1, h2.1, h2.2⟩

/-- When a new directive of a producer falls due with older ones (R16). -/
theorem retryDue_iff (s : State) (t : Tree) (p : Producer) :
    s.retryDue t p = true ↔ ∃ y ∈ s.kept, y.tree = t ∧ y.entry.origin.producer = p ∧ y.due = true := by
  simp [State.retryDue, and_assoc]

theorem keep_shape (s : State) (t : Tree) (x : LaneEntry) :
    ∃ kept hunts, s.keep t x = { s with kept := kept, hunts := hunts } := by
  unfold State.keep
  dsimp only
  split
  · exact ⟨_, _, rfl⟩
  · exact ⟨_, s.hunts, rfl⟩

theorem offerDepart_shape (s : State) (t : Tree) (k : Nat) (origin : Origin) :
    ∃ engines kept hunts, s.offerDepart t k origin = { s with engines := engines, kept := kept, hunts := hunts } := by
  unfold State.offerDepart
  split
  · exact ⟨_, s.kept, s.hunts, rfl⟩
  · obtain ⟨a, b, h⟩ := keep_shape s t ⟨.depart k, origin⟩
    exact ⟨s.engines, a, b, h⟩
  · exact ⟨s.engines, s.kept, s.hunts, rfl⟩

/-- An offer is accepted, kept or abandoned (R14, R16). -/
theorem offer_cases (s : State) (t : Tree) (x : LaneEntry) :
    (s.laneAnswer t x = .accepted ∧ s.offer t x = s.acceptEntry t x) ∨
      (s.laneAnswer t x = .full ∧ s.offer t x = s.keep t x) ∨
        ((s.engine t).state = .disabled ∧ s.offer t x = s) := by
  unfold State.offer
  cases h : s.laneAnswer t x
  · exact .inl ⟨rfl, rfl⟩
  · exact .inr (.inl ⟨rfl, rfl⟩)
  · refine .inr (.inr ⟨?_, rfl⟩)
    unfold State.laneAnswer at h
    split at h
    · assumption
    · split at h <;> cases h

theorem suspendFrom_other (s : State) (k : Nat) (from' : RecState) (h : (s.record k).state ≠ from') :
    s.suspendFrom k from' = s := by simp [State.suspendFrom, h]

theorem answer_shape (s : State) (l : LinkId) (status : Status) (data : ResponseData) :
    ∃ links, s.answer l status data = { s with links := links } := ⟨_, rfl⟩

/-! ## Tallies and flags -/

/-- An addition keeps a tally within its 48 bits (R171). -/
theorem addTally_le (tally amount : Nat) : (addTally tally amount).1 ≤ tallyMax := by
  unfold addTally
  split
  · rename_i h; exact h.2
  · exact le_refl _

/-- An addition that stays within the tally is exact (R171). -/
theorem addTally_exact (tally amount : Nat) (h : tally < tallyMax) (h' : tally + amount ≤ tallyMax) :
    addTally tally amount = (tally + amount, false) := by simp [addTally, h, h']

theorem evalOver_shape (s : State) (k : Nat) :
    ∃ records mail, s.evalOver k = { s with records := records, mail := mail } := by
  unfold State.evalOver
  dsimp only
  split
  · exact ⟨_, _, rfl⟩
  · exact ⟨_, s.mail, rfl⟩

theorem latch_off (x : Link) (kind : FlagKind) (h : x.role = .off) : x.latch kind = x := by
  simp [Link.latch, Link.active, h]

end Sys2Proof.Machine
end

