-- ==== Sys2Proof/Laws/Roster.lean ====
section
/-! SUPPORT. What the taking of a tag for a new record can do, said once. -/

namespace Sys2Proof.Machine

/-- A new record touches its record, its tree's load and ranging queue, kept directives, its tracker and tally sets, and the
reports in flight, and nothing else (R57, R58). -/
theorem newRecord_shape (s : State) (t : Tree) (k : Nat) (state : RecState) (serial : Serial) (profile : Nat)
    (byRequest : Bool) :
    ∃ loads enrols kept records trackers tallies mail,
      s.newRecord t k state serial profile byRequest =
        { s with
          loads := loads, enrols := enrols, kept := kept, records := records, trackers := trackers, tallies := tallies,
          mail := mail } := by
  unfold State.newRecord
  obtain ⟨a, b, c, d, e, f, h⟩ := enterState_shape
    ((s.modMail (·.release k)).modRecord k (·.filled state serial t profile byRequest)) t k state
  rw [h]
  exact ⟨a, b, c, _, d, e, _, rfl⟩

/-- Every other record stays as it was. -/
theorem newRecord_record (s : State) (t : Tree) (j k : Nat) (state : RecState) (serial : Serial) (profile : Nat)
    (byRequest : Bool) :
    (s.newRecord t k state serial profile byRequest).record j =
      if j = k ∧ 1 ≤ k ∧ k ≤ 256 then (s.record k).filled state serial t profile byRequest else s.record j := by
  unfold State.newRecord
  obtain ⟨a, b, c, d, e, f, h⟩ := enterState_shape
    ((s.modMail (·.release k)).modRecord k (·.filled state serial t profile byRequest)) t k state
  rw [h]
  exact modRecord_record (s.modMail (·.release k)) k j (·.filled state serial t profile byRequest)

/-- What a new record leaves in flight, where its first state is EXPECTED or ANNOUNCED: no report of a tree engine for the
tag, and the report of its change (R36, R42, R45). -/
theorem newRecord_mail (s : State) (t : Tree) (k : Nat) (state : RecState) (serial : Serial) (profile : Nat)
    (byRequest : Bool) (h : state = .expected ∨ state = .announced) :
    (s.newRecord t k state serial profile byRequest).mail =
      { s.mail.release k with
        changes := s.mail.changes ++ [⟨k, .vacant, state⟩]
        attention := s.mail.attention ++ [.change k .vacant state byRequest] } := by
  rcases h with rfl | rfl <;> rfl

end Sys2Proof.Machine
end

