-- ==== Sys2Proof/Tests/Slice0.lean ====
section
/-! SUPPORT. Tests: the checks of WellFormed refuse an ill-formed term each; one step of each command on a small state, with
results from the worked cases and rules of spec/; and, for every statement with hypotheses, states and operands that meet
them. -/

namespace Sys2Proof.Tests

open Sys2Proof Sys2Proof.Machine

/-! ## WellFormed refuses ill-formed commands -/

theorem test_smoke_offsets :
    (Instr.rxResetPulse 0 80000).wellFormed = false ∧ (Instr.lockCapture 0 80000 0).wellFormed = false ∧
      (Instr.planLeavesList 0 80000).wellFormed = false ∧ (Instr.inputSample 0 2500 false false).wellFormed = false := by
  decide

theorem test_smoke_tags :
    (Instr.offerDelivered 0).wellFormed = false ∧ (Instr.settleMarkSettled 257).wellFormed = false ∧
      (Instr.departureClears 257).wellFormed = false ∧ (Instr.retire 0 1 65536).wellFormed = false := by decide

theorem test_smoke_octets :
    (Instr.headerReceipt 0 (List.replicate 11 0#8) []).wellFormed = false ∧
      (Instr.announcePayloadEnd 0 (List.replicate 15 0#8)).wellFormed = false ∧
      (Instr.downstreamPacketArrival 4294967296 []).wellFormed = false := by decide

theorem test_smoke_payload (payload : List Byte) (h : payload.length = 32001) :
    (Instr.headerReceipt 0 (List.replicate 12 0#8) payload).wellFormed = false := by simp [Instr.wellFormed, h]

theorem test_smoke_transactions :
    (Instr.disregardedTransaction 0 16).wellFormed = false ∧ (Instr.disregardedTransaction 0 32).wellFormed = false ∧
      (Instr.disregardedTransaction 0 256).wellFormed = false := by decide

theorem test_smoke_requests :
    (Instr.enableTree 0 256 1).wellFormed = false ∧ (Instr.enableTree 0 5 256).wellFormed = false ∧
      (Instr.assignProfile 0 5 1 256).wellFormed = false ∧ (Instr.setEnrolment 0 5 0 256).wellFormed = false ∧
      (Instr.readObservation 0 5 256).wellFormed = false := by decide

theorem test_smoke_values :
    (Instr.setTree 0 5 0 { tTarget := some 4294967296 }).wellFormed = false ∧
      (Instr.setProfile 0 5 0 { q := some 65536 }).wellFormed = false ∧
      (Instr.setAttentionMask 0 5 ⟨0, 0, 256, 0, 0⟩).wellFormed = false := by decide

/-! ## Small states -/

/-- The state a command leaves. -/
def after (c : Instr) (s : State) : State :=
  match exec c s with
  | .next t => t
  | .fault _ => s
  | .refused _ => s

/-- A tree in a state, all else as after reset. -/
def treeIn (t : Tree) (x : TreeState) : State := State.reset.modEngine t fun e => { e with state := x }

/-- Record `k` in a state, on tree `t`, with serial 7 + k. -/
def withRecord (s : State) (k : Nat) (t : Tree) (x : RecState) : State :=
  s.modRecord k fun _ => { DropRecord.vacant with state := x, serial := some (BitVec.ofNat 64 (7 + k)), tree := some t }

/-- Reports in flight. -/
def withMail (s : State) (f : Mail → Mail) : State := { s with mail := f s.mail }

/-- The state that a command leaves is the one it answers. -/
theorem after_of_next {c : Instr} {s u : State} (h : exec c s = .next u) : after c s = u := by simp [after, h]

def statusOf (s : State) (l : LinkId) : Option Status := (s.link l).response.map (·.status)
def dataOf (s : State) (l : LinkId) : Option ResponseData := (s.link l).response.map (·.data)

/-- A kept or waiting normal directive that fills lanes. -/
def filler : LaneEntry := ⟨.depart 99, .departRetire⟩

/-! ## Reset and the frame timer -/

/-- R206: power-on reset holds the part; R1: at release frame 0 begins. -/
theorem test_power_on_reset : (after .powerOnReset (treeIn 1 .running)).powerHeld = true ∧
    ((after .powerOnReset (treeIn 1 .running)).engine 1).state = .disabled := by decide

theorem test_reset_n : (after .resetN { treeIn 1 .running with frame := 9 }).resetHeld = true ∧
    (after .resetN { treeIn 1 .running with frame := 9 }).frame = 0 := by decide

/-- The strap table of spec/10 10.1: low, low is OFF, high on ROLE1 alone is TALLY. -/
theorem test_release :
    let t := after (.release #v[⟨false, false⟩, ⟨true, false⟩, ⟨false, true⟩] #v[false, true, false])
      { State.reset with resetHeld := true };
    (t.link 0).role = .off ∧ (t.link 1).role = .tally ∧ (t.link 2).role = .control ∧ (t.link 1).straddling = true ∧
      t.resetHeld = false := by decide +kernel

/-- R1: frame 16,777,215 is followed by frame 0. -/
theorem test_boundary_wraps : (after .frameBoundary { State.reset with frame := 16777215 }).frame = 0 := by decide

/-- R4, and the worked case of spec/10 10.4: the enable takes effect and its request is answered with the discarded-write
marker. -/
theorem test_boundary_enables :
    let s := after .frameBoundary (after (.writeDiscarded 0) (after (.enableTree 0 41 1) State.reset))
    (s.engine 1).state = .running ∧ (s.link 0).response = some ⟨1, 41, true, .ok, .none⟩ := by decide

/-! ## Places, lanes and boundaries (worked case of spec/01 1.5) -/

/-- Tree 1 at frame 500 of the worked case, the urgent lane holding the two directives offered during it. -/
def placesCase : State :=
  { State.reset with frame := 501 }.modEngine 1 fun e =>
    { e with
      state := .running
      places := #v[some ⟨filler, 498⟩, some ⟨filler, 498⟩, some ⟨filler, 499⟩, none]
      urgent := [⟨.laserHold 2 9, .huntRound⟩, ⟨.laserRelease 10 14, .huntRound⟩]
      normal := [⟨.setDelay 17 5, .corrected⟩, ⟨.enrolOffer 8#64 40 5, .offer⟩, ⟨.depart 9, .departRetire⟩] }

theorem test_places_boundary_501 :
    (((placesCase.fillPlaces 1).engine 1).places.toList.map fun p => p.map fun x => x.entry.dir) =
        [some (.laserHold 2 9), some (.laserRelease 10 14), some (.depart 99), some (.setDelay 17 5)] ∧
      ((placesCase.fillPlaces 1).engine 1).normal.map (·.dir) = [.enrolOffer 8#64 40 5, .depart 9] ∧
      ((placesCase.fillPlaces 1).engine 1).urgent = [] := by decide

/-- R76, R91, R155: an offer placed in frame 501 is sent, with its settle mark carried; the one hold of a round placed makes
the pending test frame 504. -/
theorem test_placements_report :
    let s := ((withRecord placesCase 40 1 .announced).modRecord 40 fun r => { r with serial := some 8#64, offer := .waiting }).modTracker
      40 fun x => { x with mark := .pending, unplaced := 1 }
    let t := s.placed 1 ⟨.enrolOffer 8#64 40 5, .offer⟩
    let u := (s.modHunt 1 fun h => { h with roundDirs := [⟨.laserHold 2 9, .waiting⟩] }).placed 1 ⟨.laserHold 2 9, .huntRound⟩
    (t.record 40).offer = .waiting ∧ (t.tracker 40).mark = .carried 501 ∧
      ((s.modEngine 1 fun e => { e with normal := [] }).placed 1 ⟨.enrolOffer 8#64 40 5, .offer⟩ |>.record 40).offer =
        .sent 501 ∧ (u.hunt 1).pendingTest = .frame 504 := by decide

/-- R16: a kept directive is offered again after a boundary. -/
theorem test_directive_retry :
    let s := { treeIn 1 .running with kept := [⟨1, filler, true⟩] }
    (after (.directiveRetry 1 .roster) s).kept = [] ∧ ((after (.directiveRetry 1 .roster) s).engine 1).normal = [filler] := by
  decide

/-- A directive made while an older one is due is offered behind it, in the same retry (R16). -/
theorem test_retry_follows :
    let s := ({ treeIn 1 .running with kept := [⟨1, filler, true⟩] }).offer 1 ⟨.depart 98, .departSuspend⟩
    s.kept.map (·.due) = [true, true] ∧
      ((after (.directiveRetry 1 .roster) s).engine 1).normal.map (·.dir) = [.depart 99, .depart 98] := by decide

/-- R55: the record that fits K exactly is promoted, the next is not. -/
theorem test_promotion :
    let s := (withRecord (withRecord (treeIn 1 .running) 11 1 .parked) 12 1 .parked).modLoad 1 fun _ => ⟨5921, 300, false⟩
    ((s.promotionScan 1).record 11).state = .active ∧ ((s.promotionScan 1).record 12).state = .parked ∧
      (s.promotionScan 1).load 1 = ⟨6000, 0, false⟩ := by decide +kernel

/-- R40, R174: the packet of a record that takes no data is discarded, the other placed and reported. -/
theorem test_send_frame :
    let s := (withRecord placesCase 3 1 .active).modEngine 1 fun e => { e with queue := [⟨4, [5]⟩, ⟨3, [1, 2]⟩] }
    ((s.sendFrame 1).engine 1).queue = [] ∧ ((s.sendFrame 1).engine 1).down.map (·.packets) = some [⟨3, [1, 2]⟩] ∧
      (s.sendFrame 1).mail.downs = [⟨1, 3, 2⟩] := by decide

/-- Log entry 5: a boundary ends the marks whose count was over in the frame before it. -/
theorem test_boundary_ends_marks :
    let s := fun f => { State.reset with frame := f }.modRecord 5 fun r => { r with offer := .sent 4 }
    ((after .frameBoundary (s 20)).record 5).offer = .delivered ∧
      ((after .frameBoundary (s 19)).record 5).offer = .sent 4 := by decide +kernel

/-- R76, R91, R62 at their frame counts. -/
theorem test_offer_delivered :
    let s := { State.reset with frame := 20 }.modRecord 5 fun r => { r with offer := .sent 4 }
    ((after (.offerDelivered 5) s).record 5).offer = .delivered := by decide

theorem test_offer_still_sent :
    let s := { State.reset with frame := 19 }.modRecord 5 fun r => { r with offer := .sent 4 }
    ((after (.offerDelivered 5) s).record 5).offer = .sent 4 := by decide

theorem test_settle_mark :
    let s := { State.reset with frame := 4024 }.modTracker 21 fun x => { x with mark := .carried 4008 }
    ((after (.settleMarkSettled 21) s).tracker 21).mark = .settled := by decide

/-- The worked case of spec/03: DEPART(40) carried in 6,011 has cleared at 6,016 and not before. -/
theorem test_departure :
    let s := fun f => { State.reset with frame := f }.modRecord 40 fun r => { r with departed := some 6011 }
    ((after (.departureClears 40) (s 6015)).record 40).departed = some 6011 ∧
      ((after (.departureClears 40) (s 6016)).record 40).departed = none := by decide

/-! ## Inputs and pulses -/

/-- The worked case of spec/01 1.7: the third agreeing sample changes the qualified level. -/
theorem test_input_sample :
    let s := treeIn 2 .running |>.modEngine 2 fun e => { e with light := ⟨false, [true, true]⟩ }
    ((after (.inputSample 2 4 true false) s).engine 2).light.level = true ∧
      ((after (.inputSample 2 4 false false) s).engine 2).light.level = false ∧
      (after (.inputSample 2 4 true false) s).stepOffset = 128 := by decide

/-- The conversion of the worked case: grain 16 of frame 700 is upstream grain 1,266 of frame 698. -/
theorem test_upstream_position : upstreamPos 700 128 150000 0 = (698, 1266 * 8) := by decide

def onePlan : Plan :=
  { Plan.emptyPlan 900 false with
    kind := .ordinary
    entries := [⟨3, 8, 100, 100, 0⟩, ⟨7, 123, 50, 50, 0⟩, ⟨12, 188, 0, 0, 0⟩] }

/-- Tree 0 of the worked case of spec/02, its plan for frame 900 awaited. -/
def slotsCase (receptions : List Reception) : State :=
  ((((treeIn 0 .running).modEngine 0 fun e =>
    { e with expect := [⟨onePlan, [], false, [0, 115, 180]⟩], receptions := receptions }).modRecord 3 fun r =>
      { r with state := .active, tree := some 0, outstanding := 100 }).modRecord 7 fun r =>
      { r with state := .active, tree := some 0, outstanding := 50, missRun := 2 }).modRecord 12 fun r =>
      { r with state := .active, tree := some 0, missRun := 5 }

/-- R18, R130: the pulses of a plan stand at its guard starts, and the light watch holds its burst intervals. -/
theorem test_dispatch_pulses :
    let t := (slotsCase []).modEngine 0 (fun e => { e with planPrep := some onePlan, expect := [] }) |>.dispatch 0
    (t.engine 0).expect.map (·.pulses) = [[0, 115, 180]] ∧
      (t.light 0).table = [⟨900, [⟨3, 6, 117⟩, ⟨7, 121, 182⟩, ⟨12, 186, 197⟩], none⟩] := by decide

/-- R18: the pulse of the slot that starts at grain 115, T_target + 920 steps after the boundary of frame 900. -/
theorem test_rx_reset :
    let t := after (.rxResetPulse 0 70920) { slotsCase [] with frame := 901 }
    (t.engine 0).rxPulse = some (901, 70920) ∧ (t.engine 0).expect.map (·.pulses) = [[0, 180]] := by decide

theorem test_cut_in_assertion :
    ((after (.cutInAssertion 1) (withMail (treeIn 1 .running) fun m => { m with cutIns := [⟨1, true⟩] })).hunt 1).cutPending =
      true := by decide

theorem test_cut_in_deassertion :
    (after (.cutInDeassertion 1) (withMail (treeIn 1 .running) fun m => { m with cutIns := [⟨1, false⟩] })) =
      treeIn 1 .running := by rfl

theorem test_auto_hunt_trigger :
    ((after (.autoHuntTrigger 1) (withMail (treeIn 1 .running) fun m => { m with triggers := [1] })).hunt 1).state =
      .confirming := by decide

/-! ## Arrivals (worked case of spec/02) -/

/-- A lock at upstream grain 12, phase 3, of frame 900: step 99 of it. -/
theorem test_lock_capture :
    let t := after (.lockCapture 0 70099 3) { slotsCase [] with frame := 901 }
    (t.engine 0).receptions = [⟨900, 99, .header⟩] := by decide

/-- The first lock of the worked case: δ = +3, user octets clamped to 400, backlog 30,000, against a header built here. -/
def headerOf (octets : List Byte) : List Byte := octets ++ checkOctets octets

theorem test_header_valid :
    let t := after (.headerReceipt 0 (headerOf [0, 3, 0, 0x01, 0xA4, 0x00, 0x75, 0x30]) []) (slotsCase [⟨900, 99, .header⟩])
    t.mail.valids = [⟨0, 3, 30000, 100⟩] ∧ t.mail.samples = [⟨0, 3, 900, 3, false⟩] ∧ t.mail.ups = [⟨0, 3, 400, true⟩] ∧
      (t.engine 0).expect.map (·.arrived) = [[3]] ∧ t.mail.cleans = [⟨0, 3, 900, 0, 115⟩] := by decide +kernel

/-- R38, R204: a packet of two octets reaches the uplink behind its tag in 4 octets. -/
theorem test_uplink_prefix :
    (after (.headerReceipt 0 (headerOf [0, 3, 0, 0, 4, 0, 0, 0]) [0, 2, 9, 9]) (slotsCase [⟨900, 99, .header⟩])).uplink =
      [[0, 0, 0, 3, 9, 9]] := by decide +kernel

/-- R38: two packets, then a length that runs past the end, whose octets are discarded. -/
theorem test_walk : walkPackets 10 [0, 2, 7, 8, 0, 1, 9, 0, 2, 5] = [[7, 8], [9]] := by decide

/-- R34: a capture in no slot is reported with its frame and its offset. -/
theorem test_stray_offset :
    (after (.headerReceipt 0 [] []) (slotsCase [⟨900, 9000, .header⟩])).mail.lights = [⟨0, 900, .stray, some 9000⟩] := by decide

/-- R27, R32, R37: a lock 9 steps after the capture of a header in slot 3 cuts it short, one miss. -/
theorem test_lock_cuts_a_header :
    let t := after (.lockCapture 0 70099 3) { slotsCase [⟨900, 90, .header⟩] with frame := 901 }
    (t.engine 0).receptions = [⟨900, 99, .header⟩] ∧ t.mail.misses = [⟨0, 3, 100⟩] := by decide

theorem test_header_misplaced :
    let t := after (.headerReceipt 0 (headerOf [0, 12, 0, 0, 0, 0, 0, 0]) []) (slotsCase [⟨900, 1014, .header⟩])
    t.mail.misses = [⟨0, 7, 50⟩] ∧ t.mail.lights = [⟨0, 900, .wrongSlot (some 12), none⟩] := by decide +kernel

/-- R204: serial in octets 0 to 7, stagger in the low 11 bits of octets 8 and 9. -/
theorem test_announce_payload :
    let t := after (.announcePayloadEnd 0 [0, 0, 0, 0, 0, 0, 1, 2, 0x0C, 0xB0, 0, 0, 0, 0, 0, 0])
      (slotsCase [⟨900, 10000, .payload false⟩])
    t.mail.discovery = [⟨0, 900, .announce 10000 258#64 1200 false⟩] := by decide

/-- When the plan for frame 900 leaves, slot 12, alone without a lock, is one miss. -/
theorem test_plan_leaves :
    let s := { slotsCase [] with frame := 902 }.modEngine 0 fun e => { e with expect := e.expect.map fun (a : Awaited) =>
      { a with arrived := [3, 7] } }
    (after (.planLeavesList 0 69999) s).mail.misses = [] ∧
      (after (.planLeavesList 0 70000) s).mail.misses = [⟨0, 12, 0⟩] := by decide

theorem test_packet_arrival :
    ((after (.downstreamPacketArrival 3 [1, 2]) (slotsCase [])).engine 0).queue = [⟨3, [1, 2]⟩] ∧
      ((after (.downstreamPacketArrival 4 [1, 2]) (slotsCase [])).engine 0).queue = [] := by decide

/-- Record 3 after its valid burst, record 7 after its miss. -/
theorem test_valid_burst :
    let t := after (.validBurstReport 0) (withMail (slotsCase []) fun m => { m with valids := [⟨0, 3, 30000, 100⟩] })
    (t.record 3).backlog = 30000 ∧ (t.record 3).outstanding = 0 ∧ (t.record 3).missRun = 0 := by decide

theorem test_miss :
    let t := after (.missReport 0) (withMail (slotsCase []) fun m => { m with misses := [⟨0, 7, 50⟩] })
    (t.record 7).missRun = 3 ∧ (t.record 7).outstanding = 0 ∧ (t.record 7).state = .active := by decide

/-- The eighth miss (worked case of spec/03): load 815 leaves the committed load and joins the release pending. -/
theorem test_eighth_miss :
    let s := (withMail (slotsCase []) fun m => { m with misses := [⟨0, 7, 0⟩] }).modRecord 7 (fun r => { r with missRun := 7, profile := 3 })
      |>.modProfile 3 (fun p => { p with f := 0, a := 800 }) |>.modLoad 0 fun _ => ⟨1909, 0, false⟩
    ((after (.missReport 0) s).record 7).state = .suspended ∧ (after (.missReport 0) s).load 0 = ⟨1094, 815, false⟩ := by
  decide

/-! ## Grants (worked cases of spec/06) -/

def grantCase : List Candidate :=
  [⟨3, 200, 300, 2000, 4, 12000, 1000⟩, ⟨7, 0, 100, 8000, 2, 400000, 8000⟩, ⟨12, 500, 0, 500, 1, 0, 0⟩,
    ⟨20, 0, 100, 100, 1, 2000, 100⟩]

/-- The compile for frame 12,000 of the worked case, all its records read. -/
def compileCase : State :=
  (treeIn 0 .running).modEngine 0 fun e =>
    { e with compile := some ⟨12000, .ranging, some (.range 25 64 128), 257, grantCase, [], [20]⟩ }

theorem test_compile_end :
    let t := after (.compileEnd 0) compileCase
    ((t.engine 0).planPrep.map fun x => x.entries) =
        some [⟨3, 136, 2000, 500, 1500⟩, ⟨7, 2151, 7212, 100, 7112⟩, ⟨12, 9378, 500, 500, 0⟩, ⟨20, 9893, 100, 100, 0⟩] ∧
      (t.engine 0).surplusPtr = 8 := by decide

/-- Tree 1 with record 11 at the head of its ranging queue. -/
def startCase (x : RecState) (f : Hunt → Hunt) (g : Enrol → Enrol) : State :=
  ((withRecord (treeIn 1 .running) 11 1 x).modHunt 1 f).modEnrol 1 fun e => g { e with queue := [11] }

/-- R67: a discovery frame makes the count 0; R83: a ranging frame takes the head. -/
theorem test_start_discovery :
    let t := (startCase .ranging id fun e => { e with mode := .opened, count := 16 }).startCompile 1 7
    (t.enrol 1).count = 0 ∧ (t.enrol 1).seqNo = 1 ∧ (t.engine 1).planPrep.map (·.window) = some (some .discover) := by decide

theorem test_start_ranging :
    let t := (startCase .announced id fun e => { e with mode := .opened, count := 15 }).startCompile 1 7
    (t.record 11).state = .ranging ∧ (t.enrol 1).attempt = some 7 ∧
      (t.engine 1).compile.map (·.window) = some (some (.range 11 64 128)) := by decide

/-- The dark test frame of the second case: shares 5,819, 1,939, 1,939 and a leftover of 2 to tag 250. -/
theorem test_surplus_wraps :
    let cs : List Candidate := [⟨40, 0, 0, 8000, 3, 4000000, 0⟩, ⟨180, 0, 0, 8000, 1, 4000000, 0⟩, ⟨250, 0, 0, 8000, 1, 4000000, 0⟩]
    cs.map (divide 200 9699 cs).1 = [5819, 1939, 1941] ∧ (divide 200 9699 cs).2.1 = 251 := by decide

/-- Record 20 of the case is over: its effective M and A are 100, its weight 1. -/
theorem test_compile_read :
    let s := (withRecord (treeIn 0 .running) 20 0 .active |>.modRecord 20 fun r =>
        { r with isOver := true, backlog := 2000, outstanding := 100, profile := 4 })
      |>.modProfile 4 (fun _ => ⟨0, 400, 3000, 8, 100, 1⟩)
      |>.modEngine 0 fun e => { e with compile := some (.start 12000 .ordinary none) }
    ((after (.compileReadRecord 0) s).engine 0).compile =
      some ⟨12000, .ordinary, none, 21, [⟨20, 0, 100, 100, 1, 2000, 100⟩], [], [20]⟩ := by decide

/-! ## Roster (worked cases of spec/03) -/

/-- The lowest tag is taken; a miss of an earlier record's burst, still on its way, is discarded (R36, R45, R57). -/
theorem test_provision :
    let t := after (.provision 0 7 5#64 1 0) (withMail State.reset fun m => { m with misses := [⟨1, 1, 20⟩, ⟨1, 2, 20⟩] })
    (t.record 1).state = .expected ∧ (t.record 1).serial = some 5#64 ∧ (t.record 2).state = .vacant ∧
      dataOf t 0 = some (.tag 1) ∧ t.mail.misses = [⟨1, 2, 20⟩] := by decide

theorem test_provision_duplicate :
    let t := after (.provision 0 7 8#64 1 0) (withRecord State.reset 1 0 .rogue)
    statusOf t 0 = some .duplicate ∧ dataOf t 0 = some (.tag 1) ∧ (t.record 2).state = .vacant := by decide

/-- Record 13 of the budget case takes its 79 grains; record 11, of 315, is PARKED. -/
def budgetCase (profile : Nat) : State :=
  ((((withRecord (treeIn 1 .running) 11 1 .ranging).modRecord 11 fun r => { r with profile := profile, delay := 100 }).modEngine 1
      fun e => { e with params := { e.params with k := 2000 } }).modLoad 1 fun _ => ⟨1830, 0, false⟩).modProfile 5
    fun _ => ⟨100, 200, 2000, 1, 100, 0⟩

theorem test_admission :
    ((budgetCase 0).admission 1 11 90).load 1 = ⟨1909, 0, false⟩ ∧ (((budgetCase 0).admission 1 11 90).record 11).state = .active ∧
      (((budgetCase 5).admission 1 11 90).record 11).state = .parked := by decide

/-- R59: a rise past K is refused with the load, the release and K. -/
theorem test_assign_over_budget :
    let s := (budgetCase 0).modRecord 11 fun r => { r with state := .active }
    dataOf (after (.assignProfile 0 1 11 5) s) 0 = some (.budget 1 1830 0 2000) := by decide

/-- 2,090 is past K = 2,000 and 1,830 + (300 − 64) is not: the budget case with K 2,066. -/
theorem test_assign_fits :
    let s := ((budgetCase 0).modRecord 11 fun r => { r with state := .active }).modEngine 1 fun e =>
      { e with params := { e.params with k := 2066 } }
    (after (.assignProfile 0 1 11 5) s).load 1 = ⟨2066, 0, false⟩ ∧
      ((after (.assignProfile 0 1 11 5) s).record 11).profile = 5 := by decide

/-- Record 40 with nonzero live tallies is RETIRED and its home offered DEPART. -/
theorem test_retire :
    let s := (withRecord (treeIn 3 .running) 40 3 .active).modTally 40 fun x => { x with live := { x.live with up := 1 } }
    ((after (.retire 0 1 40) s).record 40).state = .retired ∧
      ((after (.retire 0 1 40) s).engine 3).normal = [⟨.depart 40, .departRetire⟩] ∧
      (after (.retire 0 1 40) s).lookup 47#64 = none := by decide +kernel

theorem test_retire_settled :
    let t := after (.retire 0 1 40) (withRecord (treeIn 3 .running) 40 3 .expected)
    (t.record 40).state = .vacant ∧ dataOf t 0 = some (.recState .vacant) := by decide

theorem test_rerange :
    let t := after (.rerange 0 1 40) (withRecord (treeIn 3 .running) 40 3 .parked)
    (t.record 40).state = .announced ∧ (t.enrol 3).queue = [40] := by decide

theorem test_restore :
    let t := after (.restore 0 1 40) (withRecord (treeIn 3 .running) 40 3 .rogue)
    (t.record 40).state = .suspended ∧ statusOf t 0 = some .ok ∧
      (t.engine 3).normal.map (·.dir) = [.shutLift 40, .depart 40] := by decide

theorem test_restore_waits :
    let s := (withRecord (treeIn 3 .running) 40 3 .rogue).modEngine 3 fun e => { e with normal := List.replicate 32 filler }
    ((after (.restore 0 1 40) s).record 40).state = .rogue ∧ ((after (.restore 0 1 40) s).link 0).state = .busy := by decide

/-- The allowance case of spec/09: Q 3 lifts the over flag, Q 2 sets it again. -/
def allowanceCase (up : Nat) (isOver : Bool) : State :=
  (((withRecord (treeIn 0 .running) 57 0 .active).modRecord 57 fun r => { r with profile := 4, isOver := isOver }).modTally 57
    fun x => { x with live := { x.live with up := up } }).modProfile 4 fun p => { p with q := 2 }

theorem test_set_profile :
    let t := after (.setProfile 0 1 4 { q := some 3, w := some 99 }) (allowanceCase 2103400 true)
    (t.record 57).isOver = false ∧ (t.profile 4).q = 3 ∧ (t.profile 4).w = 15 ∧ statusOf t 0 = some .okAdjusted := by
  decide +kernel

theorem test_find_serial :
    dataOf (after (.findSerial 2 1 64#64) (allowanceCase 0 false)) 2 = some (.found 57 (some 0) .active) := by decide

theorem test_read_record :
    (dataOf (after (.readRecord 2 1 57) (allowanceCase 0 false)) 2).isSome = true ∧
      statusOf (after (.readRecord 2 1 58) (allowanceCase 0 false)) 2 = some .noRecord := by decide

theorem test_read_profile :
    dataOf (after (.readProfile 2 1 0) State.reset) 2 =
      some (.loads ⟨0, 64, 2000, 1, 100, 0⟩ [(0, 0, 6000), (0, 0, 6000), (0, 0, 6000), (0, 0, 6000)]) := by decide

/-! ## Tallies and periods (worked cases of spec/09) -/

theorem test_tally_up :
    let s := withMail (allowanceCase 2097000 false) fun m => { m with ups := [⟨0, 57, 400, false⟩] }
    ((after (.tallyUpOctets 0) s).tally 57).live.up = 2097400 ∧ ((after (.tallyUpOctets 0) s).record 57).isOver = true ∧
      (after (.tallyUpOctets 0) s).mail.attention = [.event .allowance] := by decide

theorem test_tally_up_saturates :
    let s := withMail (allowanceCase 281474976710655 true) fun m => { m with ups := [⟨0, 57, 1, false⟩] }
    ((after (.tallyUpOctets 0) s).tally 57).live = ⟨281474976710655, 0, 0, 0, 0, true, false⟩ := by decide

theorem test_tally_down :
    ((after (.tallyDownOctets 0) (withMail (allowanceCase 0 false) fun m => { m with downs := [⟨0, 57, 9600⟩] })).tally
      57).live.down = 9600 := by decide

theorem test_tally_dispatch :
    ((after (.tallyDispatch 0) (withMail (allowanceCase 0 true) fun m =>
      { m with dispatches := [⟨0, 57, 100, false, true⟩] })).tally 57).live = ⟨0, 0, 100, 0, 1, false, false⟩ := by decide

theorem test_tally_withheld :
    ((after (.tallyDispatch 0) (withMail (allowanceCase 0 true) fun m =>
      { m with dispatches := [⟨0, 57, 0, true, false⟩] })).tally 57).live = ⟨0, 0, 0, 1, 0, false, false⟩ := by decide

theorem test_close_period :
    let t := after (.closePeriod 2 1) { allowanceCase 2103400 true with period := 11, frame := 30002 }
    t.tally 57 = ⟨⟨0, 0, 0, 0, 0, false, false⟩, ⟨⟨2103400, 0, 0, 0, 0, false, false⟩, some 11, some 30002, false⟩⟩ ∧
      t.period = 12 ∧ (t.record 57).isOver = false := by decide +kernel

theorem test_close_refused :
    let s := (allowanceCase 0 false).modTally 57 fun x => { x with closed := { x.closed with collected := false } }
    dataOf (after (.closePeriod 2 1) s) 2 = some (.uncollected 1 57) ∧
      (ResponseData.uncollected 1 57).octets = [0, 0, 0, 1, 0, 57] := by decide +kernel

/-- A RETIRED record is collected and becomes VACANT; the reports of the tree engine for its tag are discarded, those for
another tag are not (R36, R45, R181). -/
theorem test_collect :
    let s := withMail (withRecord (withRecord (treeIn 0 .running) 57 0 .retired) 58 0 .active) fun m =>
      { m with misses := [⟨0, 57, 4⟩, ⟨0, 58, 4⟩], ups := [⟨0, 57, 8, false⟩], cleans := [⟨0, 57, 9, 0, 20⟩] }
    let t := after (.collect 2 1 57) (s.modTally 57 fun x => { x with closed := { x.closed with collected := false } })
    (t.record 57).state = .vacant ∧ statusOf t 2 = some .ok ∧ t.mail.misses = [⟨0, 58, 4⟩] ∧ t.mail.ups = [] ∧
      t.mail.cleans = [] := by decide +kernel

theorem test_collect_twice : statusOf (after (.collect 2 1 57) (allowanceCase 0 false)) 2 = some .noData := by decide

theorem test_read_live :
    (dataOf (after (.readLive 2 1 57) (allowanceCase 2097400 true)) 2) =
      some (.live ⟨.active, some 0, 4, 2, some 2097152, ⟨2097400, 0, 0, 0, 0, false, false⟩, 0, true,
        ⟨⟨0, 0, 0, 0, 0, false, false⟩, none, none, true⟩⟩) := by decide

/-- R184, R202: Q 2 and Q 4,095 in 4 octets. -/
theorem test_threshold_octets :
    thresholdOctets (2 * 1048576) = [0, 0x20, 0, 0] ∧ thresholdOctets (4095 * 1048576) = [0xFF, 0xF0, 0, 0] := by decide

theorem test_read_period :
    dataOf (after (.readPeriod 2 1) { State.reset with period := 65535 }) 2 =
      some (.period ⟨65535, none, 0, none, 0, true⟩) := by decide +kernel

/-! ## Enrolment and tracking (worked cases of spec/04 and spec/05) -/

/-- Tree 1 of the discovery case: P 4, Z 50,000, OPEN. -/
def discoveryCase (body : DiscoveryBody) : State :=
  (withMail (treeIn 1 .running) fun m => { m with discovery := [⟨1, 7200, body⟩] }).modEnrol 1 fun e => { e with mode := .opened }

/-- A record EXPECTED with the announced serial: δ = 10,000 − (1,200 + 4) × 8 = 368, and e = 50,000 − 368. -/
theorem test_announcement :
    let t := after (.discoveryReport 1) (withRecord (discoveryCase (.announce 10000 11#64 1200 false)) 4 1 .expected)
    (t.record 4).state = .announced ∧ (t.record 4).delay = 49632 ∧ (t.enrol 1).queue = [4] ∧
      (t.engine 1).normal = [⟨.enrolOffer 11#64 4 49632, .offer⟩] := by decide +kernel

theorem test_unknown_announcement :
    let t := after (.discoveryReport 1) (discoveryCase (.announce 10000 11#64 1200 false))
    t.stranger 0 = some ⟨11#64, 1, .unknown, 7200, 7200, 0, 1, 368⟩ ∧ t.mail.attention = [.event .stranger] := by decide +kernel

/-- The interval after a collision is max(4, 16 / 2). -/
theorem test_window_end :
    let s := (discoveryCase .windowEnd).modEnrol 1 fun e => { e with notes := [⟨7200, true, true⟩] }
    ((after (.discoveryWindowEnd 1) s).enrol 1).d = 8 := by decide +kernel

/-- The interval rises after silence, to at most D. -/
theorem test_window_end_silent :
    let s := (discoveryCase .windowEnd).modEnrol 1 fun e => { e with d := 4 }
    ((after (.discoveryWindowEnd 1) s).enrol 1).d = 8 := by decide +kernel

theorem test_ranging_accepted :
    let s := withMail ((budgetCase 0).modEnrol 1 fun e => { e with queue := [11], attempt := some 4005 }) fun m =>
      { m with ranging := [⟨1, 4005, 11, .capture 0 3 (some (11, 30000))⟩] }
    ((after (.rangingAttemptReport 1) s).record 11).state = .active ∧ ((after (.rangingAttemptReport 1) s).record 11).delay = 97 ∧
      ((after (.rangingAttemptReport 1) s).engine 1).normal = [⟨.setDelay 11 97, .ranged⟩] := by decide

theorem test_ranging_third_failure :
    let s := withMail (((budgetCase 0).modEnrol 1 fun e => { e with queue := [11], attempt := some 4005 }).modRecord 11 fun r =>
        { r with rangeAttempts := 2 }) fun m =>
      { m with ranging := [⟨1, 4005, 11, .windowEnd true⟩] }
    ((after (.rangingAttemptReport 1) s).record 11).state = .suspended ∧ ((after (.rangingAttemptReport 1) s).enrol 1).queue = [] :=
  by decide

/-- Record 21 of spec/05 with three samples kept. -/
def trackCase (samples : List Int) (delta : Int) : State :=
  withMail (((withRecord (treeIn 2 .running) 21 2 .active).modRecord 21 fun r => { r with delay := 34997 }).modTracker 21
    fun _ => ⟨samples, .carried 4008, .ranged, 0⟩) fun m => { m with samples := [⟨2, 21, 4019, delta, false⟩] }

/-- +6, +4, +9, +5: the estimate is +5 and e becomes 34,992. -/
theorem test_delay_sample :
    let t := after (.delaySample 0) (trackCase [6, 4, 9] 5)
    (t.record 21).delay = 34992 ∧ (t.tracker 21).samples = [] ∧
      (t.engine 2).normal = [⟨.setDelay 21 34992, .corrected⟩] := by decide

/-- R99: a RERANGE meets a sample on its way; taken before the report of it, the sample's SET_DELAY goes and e stays. -/
theorem test_delay_sample_late :
    let t := after (.delaySample 0) (after (.rerange 0 1 21) (trackCase [6, 4, 9] 5))
    (t.record 21).delay = 34997 ∧ (t.engine 2).normal = [⟨.setDelay 21 34992, .corrected⟩] := by decide

/-- R95: after the tracker's own suspension the other samples on their way are discarded, and so is one of a later burst. -/
theorem test_delay_samples_after_suspension :
    let s := withMail (trackCase [6, 4] 33) fun m => { m with samples := m.samples ++ [⟨2, 21, 4020, 9, false⟩] }
    let t := after (.delaySample 0) (after (.delaySample 0) s)
    (t.record 21).state = .suspended ∧ (t.tracker 21).samples = [] ∧ t.mail.samples = [] := by decide

/-- R42: the change of a request is reported to the link unit with its tag, states and cause, and latches nothing. -/
theorem test_change_by_request :
    let s := after (.rerange 0 1 21) (trackCase [] 0)
    s.mail.attention = [.change 21 .active .announced true] ∧
      ((after (.attentionLatch 0) s).link 2).flags.roster = ⟨false, 0, false⟩ := by decide

/-- R37: an announce is forgotten six frames on and not before. -/
theorem test_announce_forgotten :
    let e := (slotsCase []).engine 0
    (({ e with lastAnnounce := some (900, 7) }.forgetAnnounce 905).lastAnnounce,
      ({ e with lastAnnounce := some (900, 7) }.forgetAnnounce 906).lastAnnounce) = (some (900, 7), none) := by decide

/-- −3, −4, 0 and −8: the estimate is −3, rounded toward zero, and no correction is made. -/
theorem test_delay_sample_rounds :
    let t := after (.delaySample 0) (trackCase [-3, -4, 0] (-8))
    (t.record 21).delay = 34997 ∧ (t.tracker 21).samples = [] ∧ (t.engine 2).normal = [] := by decide

theorem test_state_change :
    ((after (.stateChangeReport 0) (withMail (trackCase [6, 4] 0) fun m =>
      { m with changes := [⟨21, .active, .suspended⟩] })).tracker 21) = ⟨[], .carried 4008, .ranged, 0⟩ := by decide

theorem test_set_enrolment :
    ((after (.setEnrolment 0 1 3 2) State.reset).enrol 3).mode = .auto ∧
      statusOf (after (.setEnrolment 0 1 3 3) State.reset) 0 = some .badRequest := by decide

theorem test_read_enrolment :
    (dataOf (after (.readEnrolment 2 1 3) State.reset) 2) =
      some (.enrolment ⟨.closed, 16, 16, 0, 0, none, [], none, 0⟩) := by decide

def strangerCase : State :=
  { State.reset with strangers := State.reset.strangers.set 15 (some ⟨11#64, 1, .unknown, 7200, 7200, 0, 1, 368⟩) }

theorem test_dismiss_stranger :
    (after (.dismissStranger 0 1 15) strangerCase).stranger 15 = none ∧
      statusOf (after (.dismissStranger 0 1 14) strangerCase) 0 = some .noData ∧
      statusOf (after (.dismissStranger 0 1 16) strangerCase) 0 = some .badRequest := by decide

theorem test_read_stranger :
    dataOf (after (.readStranger 2 1) strangerCase) 2 =
      some (.strangers [(15, ⟨11#64, 1, .unknown, 7200, 7200, 0, 1, 368⟩)] 15) := by decide

/-- R80, R202, R205: the count of the list, then each entry of 31 octets with its position number after it. -/
theorem test_stranger_octets :
    let o := (ResponseData.strangers [(15, ⟨11#64, 1, .unknown, 7200, 7200, 0, 1, 368⟩)] 15).octets
    o.take 10 = [0, 1, 0, 0, 0, 0, 0, 0, 0, 11] ∧ o.drop 33 = [0, 0, 0, 15, 0, 0, 0, 15] := by decide

theorem test_read_tracking :
    dataOf (after (.readTracking 2 1 21) (trackCase [6] 0)) 2 =
      some (.tracking ⟨.active, 34997, 0, some 2, 4, 32, [6], .carried 4008, .ranged, none⟩) := by decide

/-! ## Light watch and log (worked cases of spec/07) -/

def strayCase (n : Nat) (o : Option Observation) : State :=
  { withMail (treeIn 2 .running) fun m => { m with lights := [⟨2, 9011, .stray, some 90⟩] } with
    log := (Vector.replicate 16 none).set! n o }

/-- Record 5 collapses: repeats 11, last frame 9,011. -/
theorem test_light_watch_report :
    (after (.lightWatchReport 0) (strayCase 5 (some ⟨.stray, 2, none, none, none, 9000, 9010, 10⟩))).logRecord 5 =
      some ⟨.stray, 2, none, none, none, 9000, 9011, 11⟩ := by decide

theorem test_light_watch_report_new :
    let t := after (.lightWatchReport 0) (strayCase 0 (some ⟨.stray, 3, none, none, none, 9000, 9010, 10⟩))
    t.logRecord 1 = some ⟨.stray, 2, none, none, none, 9011, 9011, 0⟩ ∧ t.mail.attention = [.event .observation] := by decide

/-- The trigger case: the late STRAY for 3,401 makes three closed entries lit. -/
theorem test_trigger :
    let s := (treeIn 1 .running).modLight 1 fun w =>
      { w with closed := [⟨3400, true⟩, ⟨3401, false⟩, ⟨3402, true⟩], current := some ⟨3403, false⟩ }
    (s.markStray 1 3401).mail.triggers = [1] ∧ (s.markStray 1 3403).mail.triggers = [] := by decide

/-- The judging case: position 118 of frame 5,000 is uncovered after a run charged to tag 3. -/
theorem test_long_tail :
    let s := withRecord (treeIn 0 .running) 3 0 .active |>.modLight 0 fun w =>
      { w with table := [⟨5000, [⟨3, 6, 117⟩, ⟨7, 121, 182⟩], none⟩], run := some ⟨5000, 10, .tag 3, none⟩ }
    ((s.judge 0 5000 118 true).logRecord 0).map (fun o => (o.kind, o.tag)) = some (.longTail, some 3) ∧
      (s.judge 0 5000 118 true).mail.strikes = [⟨0, 3⟩] ∧ (s.judge 0 5000 122 true).mail.strikes = [] := by decide

def strikeCase (strikes : Nat) : State :=
  (withMail (withRecord (treeIn 0 .running) 3 0 .active) fun m => { m with strikes := [⟨0, 3⟩] }).modRecord 3 fun r =>
    { r with strikes := strikes, cleanRun := 9 }

theorem test_strike :
    ((after (.strike 0) (strikeCase 2)).record 3).strikes = 3 ∧ ((after (.strike 0) (strikeCase 2)).record 3).cleanRun = 0 ∧
      ((after (.strike 0) (strikeCase 2)).record 3).state = .active := by decide

/-- The fourth strike meets the strike limit of reset. -/
theorem test_strike_isolates :
    ((after (.strike 0) (strikeCase 3)).record 3).state = .rogue ∧
      ((after (.strike 0) (strikeCase 3)).engine 0).urgent = [⟨.laserShut 3, .strikeShut⟩] ∧
      ((after (.strike 0) (strikeCase 3)).logRecord 0).map (fun o => (o.kind, o.cause)) = some (.huntIsolated, some .tail) := by
  decide

theorem test_clean_run :
    let s := (withMail (strikeCase 3) fun m => { m with cleans := [⟨0, 3, 900, 0, 115⟩] }).modRecord 3 fun r => { r with cleanRun := 1023 }
    ((after (.cleanRun 0) s).record 3).strikes = 0 ∧ ((after (.cleanRun 0) s).record 3).cleanRun = 1024 := by decide

theorem test_read_light :
    dataOf (after (.readLight 2 1 1) State.reset) 2 = some (.light ⟨2, 4, true, [], none, [], none, 0, []⟩) := by decide

theorem test_read_log_status :
    dataOf (after (.readLogStatus 2 1) (strayCase 5 (some ⟨.stray, 2, none, none, none, 9000, 9010, 10⟩))) 2 =
      some (.logStatus 1 (some 5) false) := by decide

theorem test_read_observation :
    statusOf (after (.readObservation 2 1 15) State.reset) 2 = some .noData ∧
      statusOf (after (.readObservation 2 1 16) State.reset) 2 = some .badRequest := by decide

theorem test_clear_observation :
    let t := after (.clearObservation 0 1 5) (strayCase 5 (some ⟨.stray, 2, none, none, none, 9000, 9010, 10⟩))
    t.logRecord 5 = none ∧ dataOf t 0 = some (.observation ⟨.stray, 2, none, none, none, 9000, 9010, 10⟩) := by decide

theorem test_clear_overflow :
    let t := after (.clearOverflow 0 1) { State.reset with overflow := true }
    t.overflow = false ∧ dataOf t 0 = some (.flag true) := by decide

/-! ## The hunt (worked cases of spec/08) -/

/-- Tree 1 with suspects 2, 5, 9, 14 and 30, and record 7 EXPECTED, its hunt as given. -/
def huntCase (frame : FrameNo) (f : Hunt → Hunt) : State :=
  (withMail ((withRecord (withRecord (withRecord (withRecord (withRecord (withRecord (treeIn 1 .running) 2 1 .active) 5 1
    .active) 9 1 .active) 14 1 .active) 30 1 .active) 7 1 .expected)) fun m => { m with darkEnds := [⟨1, frame⟩] }).modHunt 1 f

theorem test_hunt :
    let t := after (.hunt 0 1 1) (treeIn 1 .running)
    (t.hunt 1).state = .confirming ∧ (t.hunt 1).suspects = some (1, 256) ∧ statusOf t 0 = some .ok ∧
      statusOf (after (.hunt 0 1 1) State.reset) 0 = some .state := by decide

/-- The second confirming test lit: range [2, 256], LASER_HOLD(2, 9), five suspects, held 2, 5, 7 and 9. -/
theorem test_dark_window_end_confirmed :
    let t := after (.darkWindowEnd 1) (huntCase 10003 fun h =>
      { h with state := .confirming, suspects := some (1, 256), tests := [⟨10003, true⟩], firstLit := true })
    (t.hunt 1).state = .splitting ∧ (t.hunt 1).suspects = some (2, 256) ∧ (t.hunt 1).hold = some (2, 9) ∧
      (t.hunt 1).count = 5 ∧ (t.record 7).held = true ∧ (t.record 14).held = false := by decide +kernel

/-- The split test dark: range [10, 14], verifying 14 with no directive. -/
theorem test_dark_window_end_split :
    let t := after (.darkWindowEnd 1) (huntCase 10015 fun h =>
      { h with state := .splitting, suspects := some (10, 256), hold := some (10, 14), tests := [⟨10015, false⟩], round := 2 })
    (t.hunt 1).state = .verifying ∧ (t.hunt 1).suspects = some (10, 14) ∧ (t.hunt 1).verified = some (14, some 21#64) ∧
      (t.hunt 1).pendingTest = .atOnce ∧ (t.hunt 1).round = 3 := by decide +kernel

/-- R158, R159: a dark verification offers the shut and then the release; with one place left in the lane the release is
kept, and the holds stand. -/
theorem test_dark_window_end_isolated :
    let s := huntCase 10020 fun h =>
      { h with state := .verifying, hold := some (10, 14), verified := some (14, some 21#64), tests := [⟨10020, false⟩] }
    let t := after (.darkWindowEnd 1) (s.modEngine 1 fun e => { e with urgent := List.replicate 7 ⟨.laserShut 3, .strikeShut⟩ })
    (t.engine 1).urgent.drop 7 = [⟨.laserShut 14, .huntShut (some 21#64) 10020⟩] ∧
      t.kept.map (·.entry) = [⟨.laserRelease 1 256, .huntRelease⟩] ∧ (t.record 14).state = .rogue ∧
      (t.hunt 1).hold = some (10, 14) ∧ t.logRecord 0 = some ⟨.huntIsolated, 1, some 14, some 21#64, some .hunt, 10020, 10020, 0⟩ := by
  decide +kernel

theorem test_abort_hunt :
    let t := after (.abortHunt 0 1 1) (huntCase 1 fun h => { h with state := .splitting, suspects := some (2, 256) })
    (t.hunt 1).state = .idle ∧ dataOf t 0 = some (.aborted .splitting (some (2, 256))) ∧
      (t.engine 1).urgent = [⟨.laserRelease 1 256, .huntRelease⟩] := by decide +kernel

theorem test_resume_tree :
    let s := (treeIn 1 .cut).modEngine 1 fun e => { e with light := ⟨true, []⟩ }
    ((after (.resumeTree 0 1 1) (treeIn 1 .cut)).engine 1).resumePending = true ∧
      statusOf (after (.resumeTree 0 1 1) s) 0 = some .lightPresent ∧
      statusOf (after (.resumeTree 0 1 1) (s.modEngine 1 fun e => { e with resumePending := true, cutIn := ⟨true, []⟩ })) 0 =
        some .ok ∧
      statusOf (after (.resumeTree 0 1 1) (treeIn 1 .running)) 0 = some .state := by decide

theorem test_read_hunt :
    dataOf (after (.readHunt 2 1 1) State.reset) 2 = some (.hunt ⟨Hunt.reset, [], false, false⟩) := by decide

/-! ## Trees -/

theorem test_enable_tree :
    let t := after (.enableTree 0 41 1) State.reset
    (t.engine 1).enableWaiters = [0] ∧ (t.link 0).state = .busy ∧
      statusOf (after (.enableTree 0 41 1) (treeIn 1 .cut)) 0 = some .state := by decide

theorem test_disable_tree :
    ((after (.disableTree 0 41 1) (treeIn 1 .cut)).engine 1).disableWaiters = [0] ∧
      statusOf (after (.disableTree 0 41 1) State.reset) 0 = some .state := by decide

theorem test_set_tree :
    let t := after (.setTree 0 1 1 { tTarget := some 262144, d := some 3, cutPol := some 1 }) State.reset
    (t.engine 1).params.tTarget = 262143 ∧ (t.enrol 1).d = 4 ∧ statusOf t 0 = some .okAdjusted ∧
      t.mail.cutIns = [⟨1, true⟩] := by decide

theorem test_set_tree_refused :
    statusOf (after (.setTree 0 1 1 { g := some 8 }) (treeIn 1 .running)) 0 = some .treeRunning ∧
      statusOf (after (.setTree 0 1 1 {}) State.reset) 0 = some .badRequest ∧
      statusOf (after (.setTree 0 1 1 { autoHunt := some 2 }) State.reset) 0 = some .badRequest := by decide

theorem test_read_tree : statusOf (after (.readTree 2 1 3) State.reset) 2 = some .ok ∧
    statusOf (after (.readTree 2 1 4) State.reset) 2 = some .badRequest := by decide

theorem test_read_plan :
    dataOf (after (.readPlan 2 1 0) compileCase) 2 = some (.plan 1 none) := by decide

/-! ## Links (worked cases of spec/10) -/

theorem test_write_discarded :
    let s := after (.enableTree 0 41 1) State.reset
    ((after (.writeDiscarded 0) s).link 0).discarded = true ∧ ((after (.writeDiscarded 0) s).link 0).state = .busy := by decide

/-- R190, R205: PENDING is the octet F0 hexadecimal, with fill of zeros. -/
theorem test_read_transaction :
    ((after (.readTransaction 0 3) State.reset).link 0).sdo = .octets [0xF0, 0, 0] := by decide

theorem test_disregarded : ((after (.disregardedTransaction 0 17) State.reset).link 0).sdo = .notDriven := by decide

/-- The octets of SET_ENROLMENT(3, AUTO), sequence 9, written out from the tables of R205. -/
theorem test_octets_of_a_request :
    parseRequest 1 [15, 9, 0, 2, 3, 2] = some (.setEnrolment 1 9 3 2) ∧
      ((after (.malformedRequest 1 [15, 9, 0, 2, 3, 2]) State.reset).enrol 3).mode = .auto := by decide

theorem test_malformed_request :
    let t := after (.malformedRequest 1 [99, 5, 1]) State.reset
    (t.link 1).response = some ⟨99, 5, false, .badRequest, .none⟩ := by decide

theorem test_denied : statusOf (after (.enableTree 2 1 1) State.reset) 2 = some .denied ∧
    statusOf (after (.closePeriod 0 1) State.reset) 0 = some .denied := by decide

/-- Record 57's over flag set: ALLOWANCE on every link, ATTN on link 1, which shows it, alone. -/
theorem test_attention_latch :
    let s := after (.setAttentionMask 1 1 ⟨0, 0, 0, 0, 1⟩) (withMail State.reset fun m => { m with attention := [.event .allowance] })
    ((after (.attentionLatch 0) s).link 1).attn = true ∧ ((after (.attentionLatch 0) s).link 2).attn = false ∧
      ((after (.attentionLatch 0) s).link 2).flags.allowance = ⟨true, 1, false⟩ := by decide +kernel

theorem test_read_attention :
    let s := State.reset.modLink 1 fun x => { x with flags := { x.flags with roster := ⟨true, 2, true⟩ } }
    ((after (.readAttention 1 1) s).link 1).flags.roster = ⟨false, 0, true⟩ ∧
      ((after (.readAttention 1 1) s).link 1).attn = false := by decide

theorem test_set_attention_mask :
    statusOf (after (.setAttentionMask 1 1 ⟨0, 0, 2, 0, 1⟩) State.reset) 1 = some .badRequest := by decide

theorem test_read_links :
    dataOf (after (.readLinks 2 7) State.reset) 2 =
      some (.links [⟨.control, .idle, none, [false, false, false, false, false], false⟩,
        ⟨.control, .idle, none, [false, false, false, false, false], false⟩,
        ⟨.tally, .busy, some (35, 7, false, false), [false, false, false, false, false], false⟩]) := by decide

/-! ## States and operands that meet the hypotheses of each statement

One theorem for each statement with hypotheses, clause by clause; numbers stand at the ends of their ranges. -/

/-- Every record of the part right after reset is VACANT. -/
theorem reset_record (k : Nat) : State.reset.record k = .vacant := by
  simp [State.reset, State.resetWith, State.record, readAt_replicate]

theorem reset_engine (t : Tree) : State.reset.engine t = .reset := by
  simp [State.reset, State.resetWith, State.engine]

theorem reset_tally (k : Nat) : State.reset.tally k = .reset := by
  simp [State.reset, State.resetWith, State.tally, readAt_replicate]

/-- A part with one command waiting. -/
def waiting (c : Instr) (s : State) : State := { s with pending := [c] }

/-- A part with one link BUSY. -/
def busy (l : LinkId) : State := State.reset.asked l (.enableTree l 41 1)

/-- A part that RESET_N holds. -/
def held : State := { State.reset with resetHeld := true }

theorem test_meets_steps : State.reset.pending = [] := rfl

theorem test_meets_held : ¬ held.OutOfReset ∧ ¬ { State.reset with powerHeld := true }.OutOfReset ∧ State.reset.OutOfReset := by
  decide

/-- Both lanes at their capacities. -/
theorem test_meets_lanes :
    let s := waiting .frameBoundary ((treeIn 1 .running).modEngine 1 fun e =>
      { e with urgent := List.replicate 8 ⟨.laserShut 1, .strikeShut⟩, normal := List.replicate 32 filler })
    s.LanesInv ∧ ∃ t, step s = .next t := ⟨by decide +kernel, _, rfl⟩

theorem test_meets_links : (waiting (.readTransaction 0 1) (busy 0)).LinksInv ∧
    ∃ t, step (waiting (.readTransaction 0 1) (busy 0)) = .next t := ⟨by decide, _, rfl⟩

/-- A tally and counters at the ends of their ranges. -/
theorem test_meets_tallies :
    let s := waiting (.tallyUpOctets 0) ((State.reset.modTally 1 fun x => { x with live := { x.live with up := tallyMax } }).modRecord
      1 fun r => { r with outstanding := 40000, missRun := 8, strikes := 15, cleanRun := 1024, rangeAttempts := 3 })
    s.TalliesInv ∧ s.RecordsInv ∧ ∃ t, step s = .next t := by
  refine ⟨fun k => ?_, fun k => ?_, _, rfl⟩
  · show ((State.reset.modTally 1 _).tally k).live.Fits ∧ ((State.reset.modTally 1 _).tally k).closed.set.Fits
    rw [modTally_tally, reset_tally, reset_tally]
    split <;> decide
  · show ((State.reset.modRecord 1 _).record k).Ranged
    rw [modRecord_record, reset_record, reset_record]
    split <;> decide

theorem test_meets_lookup :
    let s := waiting (.provision 0 1 9#64 0 0) (withRecord State.reset 1 0 .expected)
    s.LookupInv ∧ ∃ t, step s = .next t := by
  refine ⟨fun j k serial hj hk _ _ => ?_, _, rfl⟩
  have e : ∀ i, ((withRecord State.reset 1 0 .expected).record i).state.inLookup = true → i = 1 := by
    intro i hi
    rw [withRecord, modRecord_record, reset_record] at hi
    by_contra h
    rw [if_neg (by tauto)] at hi
    cases hi
  exact (e j hj).trans (e k hk).symm

/-- Record 1 ACTIVE on tree 1, with its 79 grains committed. -/
theorem test_meets_budget :
    let s := waiting (.frameBoundary) ((withRecord (treeIn 1 .running) 1 1 .active).modLoad 1 fun _ => ⟨79, 5921, false⟩)
    s.BudgetInv ∧ ∃ t, step s = .next t := by
  have e : ∀ k, ((withRecord (treeIn 1 .running) 1 1 .active).record k).state = .active → k = 1 := by
    intro k hk
    rw [withRecord, modRecord_record] at hk
    by_contra h
    rw [if_neg (by tauto)] at hk
    rw [show (treeIn 1 .running).record k = .vacant from reset_record k] at hk
    cases hk
  refine ⟨⟨fun k hk => ?_, ?_⟩, _, rfl⟩
  · rw [e k hk]; decide
  · intro t
    refine ⟨?_, ?_, fun hd => ⟨?_, fun k hk => ?_⟩⟩
    · fin_cases t <;> decide +kernel
    · fin_cases t <;> decide +kernel
    · fin_cases t
      · decide
      · exact absurd hd (by decide)
      · decide
      · decide
    · obtain ⟨h1, h2⟩ := hk
      rw [e k h1] at h2
      have h3 : ((withRecord (treeIn 1 .running) 1 1 .active).record 1).tree = some t := h2
      rw [show ((withRecord (treeIn 1 .running) 1 1 .active).record 1).tree = some 1 by decide] at h3
      rw [← (Option.some.injEq _ _).mp h3] at hd
      exact absurd hd (by decide)

theorem test_meets_parse :
    (Instr.readLinks 2 255).wellFormed = true ∧ (Instr.readLinks 2 255).requestSource = some (2, 255) ∧
      (Instr.retire 0 0 65535).wellFormed = true ∧ (Instr.retire 0 0 65535).requestSource = some (0, 0) := by decide

theorem test_meets_denied :
    (Instr.closePeriod 0 5).requestSource = some (0, 5) ∧ (Instr.closePeriod 0 5).requestClass = some .tally ∧
      State.reset.Takes 0 ∧ (State.reset.link 0).role.allows .tally = false := by decide

theorem test_meets_busy :
    (busy 0).OutOfReset ∧ (busy 0).Hears 0 ∧ ((busy 0).link 0).state = .busy ∧
      (Instr.readTree 0 255 0).requestSource = some (0, 255) ∧ State.reset.Hears 0 ∧ (State.reset.link 0).state ≠ .busy := by
  decide

theorem test_meets_off :
    let off := State.reset.modLink 2 fun x => { x with role := .off }
    let straddling := State.reset.modLink 0 fun x => { x with straddling := true }
    (Instr.readTransaction 2 0).transactionLink = some 2 ∧ off.OutOfReset ∧ (off.link 2).role = .off ∧
      (Instr.disregardedTransaction 0 17).transactionLink = some 0 ∧ straddling.OutOfReset ∧
      (straddling.link 0).role ≠ .off ∧ (straddling.link 0).straddling = true := by decide

/-- Tree 4, tags 0 and 257, profile 16 (with the VACANT tag 1 too); and tags 1 and 256, VACANT. -/
theorem test_meets_numbers :
    State.reset.Serves 0 .control ∧ (Instr.enableTree 0 5 4).requestSource = some (0, 5) ∧
      (Instr.enableTree 0 5 4).requestClass = some .control ∧ (Instr.enableTree 0 5 4).namedTree = some 4 ∧
      (Instr.retire 0 5 0).namedTag = some 0 ∧ (Instr.retire 0 5 257).namedTag = some 257 ∧
      (Instr.provision 0 5 1#64 3 16).namedProfile = some 16 ∧
      (Instr.assignProfile 0 5 1 16).namedTag = some 1 ∧ (Instr.assignProfile 0 5 1 16).namedProfile = some 16 ∧ (Instr.retire 0 5 1).namedTag = some 1 ∧
      (Instr.retire 0 5 256).namedTag = some 256 ∧ (State.reset.record 1).state = .vacant ∧
      (State.reset.record 256).state = .vacant := by decide

theorem test_meets_octets :
    State.reset.Takes 0 ∧ parseRequest 0 [0, 0] = none ∧ parseRequest 0 [35, 0, 0, 1] = none ∧
      (Instr.readLinks 2 255).wellFormed = true := by decide

theorem test_meets_transactions : State.reset.OutOfReset ∧ State.reset.Hears 2 ∧ (15 : Nat) ≠ 16 ∧ (33 : Nat) ≠ 32 := by decide

/-- A latching event, a change that no request caused, the step to VACANT at a COLLECT, and a change that latches nothing. -/
theorem test_meets_latch :
    ∀ x ∈ [LinkReport.event .tree, .change 3 .active .suspended false, .change 3 .retired .vacant true,
        .change 3 .vacant .expected true],
      let s := (withMail State.reset fun m => { m with attention := [x] }).modLink 2 fun y => { y with role := .off }
      s.OutOfReset ∧ s.mail.attention[0]? = some x ∧ (s.link 2).role = .off ∧ (s.link 0).role ≠ .off := by decide

theorem test_meets_attn : ¬ held.OutOfReset ∧ ∃ t, exec .powerOnReset State.reset = .next t := ⟨by decide, _, rfl⟩

theorem test_meets_attention :
    State.reset.Serves 2 .read ∧ (∀ n ∈ (MaskValues.mk 1 0 1 0 1).toList, n ≤ 1) ∧
      (∃ n ∈ (MaskValues.mk 1 0 2 0 1).toList, 2 ≤ n) := by decide

theorem test_meets_tree_requests :
    State.reset.Serves 0 .control ∧ (State.reset.engine 1).state = .disabled ∧ (treeIn 1 .running).Serves 0 .control ∧
      ((treeIn 1 .running).engine 1).state ≠ .disabled ∧ ((treeIn 1 .running).engine 1).state ≠ .cut ∧
      (treeIn 1 .cut).Serves 0 .control ∧ ((treeIn 1 .cut).engine 1).state = .cut ∧
      ((treeIn 1 .cut).engine 1).cutInAsserted = false ∧ ((treeIn 1 .cut).engine 1).light.level = false ∧
      ((treeIn 1 .cut).engine 1).resumePending = false ∧
      (((treeIn 1 .cut).modEngine 1 fun e => { e with resumePending := true }).engine 1).resumePending = true ∧
      (((treeIn 1 .cut).modEngine 1 fun e => { e with cutIn := ⟨true, []⟩ }).engine 1).cutInAsserted = true ∧
      (((treeIn 1 .cut).modEngine 1 fun e => { e with light := ⟨true, []⟩ }).engine 1).light.level = true := by decide

theorem test_meets_set_tree :
    let v : TreeValues := { wd := some 31, autoHunt := some 1, cutPol := some 1 }
    State.reset.Serves 0 .control ∧ (State.reset.engine 3).state = .disabled ∧ (State.reset.engine 3).enableWaiters = [] ∧
      v ≠ {} ∧ (∀ n, v.autoHunt = some n → n ≤ 1) ∧ (∀ n, v.cutPol = some n → n ≤ 1) ∧
      ((treeIn 3 .cut).engine 3).state ≠ .disabled := by
  refine ⟨by decide, by decide, by decide, by decide, ?_, ?_, by decide⟩ <;> rintro n ⟨⟩ <;> decide

/-- Record 5 with marks of frame 4 and 15, at a frame. -/
def markedCase (f : FrameNo) : State :=
  ({ State.reset with frame := f }.modRecord 5 fun r => { r with offer := .sent 4, departed := some 15 }).modTracker 5
    fun x => { x with mark := .carried 4 }

/-- With marks whose count is not over, and with marks whose count is over at the old frame. -/
theorem test_meets_boundary (f : FrameNo) :
    (markedCase f).OutOfReset ∧ (markedCase f).frame = f ∧ ((markedCase f).record 5).offer = .sent 4 ∧
      ((markedCase f).tracker 5).mark = .carried 4 ∧ ((markedCase f).record 5).departed = some 15 ∧
      (¬ 16 ≤ ((19 : FrameNo) - 4).toInt ∧ 16 ≤ ((20 : FrameNo) - 4).toInt) ∧
      ∀ t : Tree, ((markedCase f).engine t).state = .disabled ∧ ((markedCase f).engine t).enableWaiters = [] ∧
        ((markedCase f).engine t).disableWaiters = [] ∧ ((markedCase f).engine t).compile = none ∧
        ((markedCase f).engine t).expect = [] := by
  refine ⟨⟨rfl, rfl⟩, rfl, rfl, rfl, rfl, by decide, fun t => ?_⟩
  have h : (markedCase f).engine t = Engine.reset := reset_engine t
  rw [h]
  exact ⟨rfl, rfl, rfl, rfl, rfl⟩

/-- A tree with a disable pending, one with an enable pending, a cut pending, a resume pending, and each state with none. -/
def changing : State :=
  (((State.reset.modEngine 0 fun e => { e with state := .running, disableWaiters := [0] }).modEngine 1 fun e =>
    { e with enableWaiters := [1] }).modEngine 2 fun e => { e with state := .running }).modEngine 3 fun e =>
      { e with state := .cut, resumePending := true }

theorem test_meets_tree_changes :
    changing.OutOfReset ∧ (∃ u, exec .frameBoundary changing = .next u) ∧ (changing.engine 0).disableWaiters ≠ [] ∧
      (changing.engine 1).disableWaiters = [] ∧ (changing.engine 1).enableWaiters ≠ [] ∧
      (changing.engine 2).state = .running ∧ (changing.hunt 2).cutPending = false ∧ (changing.engine 3).state = .cut ∧
      (changing.engine 3).resumePending = true ∧
      ((changing.modHunt 2 fun h => { h with cutPending := true }).hunt 2).cutPending = true ∧
      ((treeIn 3 .cut).engine 3).resumePending = false ∧ (State.reset.engine 3).state = .disabled := by
  refine ⟨by decide, ⟨_, rfl⟩, ?_⟩
  decide

/-- A boundary of a RUNNING and of a CUT tree with no change pending, one of them with a compile to end first. -/
theorem test_meets_order :
    let s := (treeIn 1 .running).modEngine 3 fun e => { e with state := .cut, compile := some (.start 0 .ordinary none) }
    s.OutOfReset ∧ (∃ u, exec .frameBoundary s = .next u) ∧ (s.engine 1).enableWaiters = [] ∧
      (s.engine 1).disableWaiters = [] ∧ (s.engine 1).state = .running ∧ (s.hunt 1).cutPending = false ∧
      (s.engine 1).compile = none ∧ (s.engine 3).enableWaiters = [] ∧ (s.engine 3).disableWaiters = [] ∧
      (s.engine 3).state = .cut ∧ (s.engine 3).resumePending = false ∧ (s.engine 3).compile ≠ none := by
  refine ⟨by decide, ⟨_, rfl⟩, ?_⟩
  decide

theorem test_meets_disable :
    let s := withRecord (changing.asked 0 (.disableTree 0 7 0)) 1 0 .active
    let r := { s with kept := [⟨0, ⟨.shutLift 1, .restore 0⟩, false⟩] }
    let b := { s.asked 2 (.restore 2 9 1) with kept := [⟨0, ⟨.shutLift 1, .restore 2⟩, false⟩] }
    let e := changing.asked 1 (.enableTree 1 7 1)
    (s.OutOfReset ∧ (∃ u, exec .frameBoundary s = .next u) ∧ (s.record 1).state = .active ∧
      (∀ x ≠ (0 : Tree), ∀ y ∈ (s.engine x).urgent ++ (s.engine x).normal, y.dir ≠ .depart 1)) ∧
    ((∃ u, exec .frameBoundary b = .next u) ∧ (b.link 2).request = some ⟨10, 9, [10, 9, 0, 2, 0, 1]⟩ ∧
      (∀ y : Tree, (2 : LinkId) ∉ (b.engine y).enableWaiters ∧ (2 : LinkId) ∉ (b.engine y).disableWaiters)) ∧
    ((∃ u, exec .frameBoundary e = .next u) ∧ e.OutOfReset ∧ (e.engine 1).disableWaiters = [] ∧ e.kept = []) ∧
    (s.engine 0).disableWaiters ≠ [] ∧ (∃ u b, s.changeTree 0 = (u, b)) ∧ s.isRecordOf 0 1 = true ∧
      (s.link 0).request = some ⟨2, 7, [2, 7, 0, 1, 0]⟩ ∧ (0 : LinkId) ∈ (s.engine 0).disableWaiters ∧ s.kept = [] ∧
      ((changing.asked 1 (.enableTree 1 7 1)).link 1).request = some ⟨1, 7, [1, 7, 0, 1, 1]⟩ ∧ (1 : LinkId) ∈ (changing.engine 1).enableWaiters ∧
      (r.link 0).request = some ⟨2, 7, [2, 7, 0, 1, 0]⟩ ∧ (∃ x ∈ r.kept, x.tree = 0 ∧ x.entry.origin = .restore 0) :=
  ⟨⟨by decide, ⟨_, rfl⟩, by decide, by decide⟩, ⟨⟨_, rfl⟩, by decide, by decide⟩,
    ⟨⟨_, rfl⟩, by decide, by decide, by decide⟩, by decide, ⟨_, _, rfl⟩, by and_intros <;> decide⟩

theorem test_meets_dispatch :
    let s := (slotsCase []).modEngine 0 fun e => { e with planPrep := some onePlan }
    let c := (treeIn 0 .cut).modEngine 0 fun e => { e with planPrep := some (.emptyPlan 9 true) }
    let windowed := { onePlan with kind := .ranging, window := some (.range 20 64 128), entries := [⟨3, 136, 100, 100, 0⟩] }
    let w := (slotsCase []).modEngine 0 fun e => { e with planPrep := some windowed }
    (w.engine 0).planPrep = some windowed ∧ (windowed.entries.map (·.tag)).Nodup ∧ (s.engine 0).planPrep = some onePlan ∧ (onePlan.entries.map (·.tag)).Nodup ∧ onePlan.cutMark = false ∧
      s.isRecordOf 0 3 = true ∧ (c.engine 0).planPrep = some (.emptyPlan 9 true) ∧ (Plan.emptyPlan 9 true).cutMark = true := by
  decide

/-- Place 2 holds its directive, place 0 is free with the urgent lane waiting, then the normal lane, then neither. -/
theorem test_meets_places :
    let e := placesCase.engine 1
    (¬ ∀ x, e.places[2] = some x → 3 ≤ (placesCase.frame - x.carriage).toInt) ∧
      (∀ x, e.places[0] = some x → 3 ≤ (placesCase.frame - x.carriage).toInt) ∧ e.urgent ≠ [] ∧
      ((placesCase.modEngine 1 fun e => { e with urgent := [] }).engine 1).normal ≠ [] ∧
      ((treeIn 1 .running).engine 1).urgent = [] ∧ ((treeIn 1 .running).engine 1).normal = [] := by
  refine ⟨fun h => absurd (h _ rfl) (by decide), ?_, by decide, by decide, by decide, by decide⟩
  rintro x ⟨⟩
  decide

/-- Each kind of placement, an offer with and without a newer one behind it, a DEPART with and without another, and the
unplaced counts 0, 1 and 2. -/
theorem test_meets_placements :
    let offer : Directive := .enrolOffer 8#64 256 5
    let s := (withRecord (treeIn 1 .running) 256 1 .announced).modRecord 256 fun r =>
      { r with serial := some 8#64, offer := .waiting }
    let behind := fun d => s.modEngine 1 fun e => { e with normal := [⟨d, .offer⟩] }
    let waits := fun (u : State) (d : Directive) =>
      (∃ y ∈ u.kept, y.entry.dir = d) ∨ ∃ x : Tree, ∃ y ∈ (u.engine x).normal, y.dir = d
    s.isRecordOf 1 256 = true ∧ (s.record 256).serial = some 8#64 ∧ (s.record 256).offer = .waiting ∧
      ¬ waits s offer ∧ waits (behind offer) offer ∧ ¬ waits s (.depart 256) ∧ waits (behind (.depart 256)) (.depart 256) ∧
      (s.tracker 256).unplaced = 0 ∧
      (∀ n ∈ [1, 2], ((s.modTracker 256 fun x => { x with unplaced := n }).tracker 256).unplaced = n) ∧
      Origin.huntOver ≠ .huntRound := by decide

/-- A load with nothing due, one with a release pending and one with a scan due; a boundary of a RUNNING tree; a frame with
a place in each of its three copies, a packet that is taken and one that is discarded. -/
theorem test_meets_promotion_and_frame :
    let s := withRecord (treeIn 1 .running) 11 1 .parked
    let due := s.modLoad 1 fun _ => ⟨0, 1, false⟩
    let scan := s.modLoad 1 fun _ => ⟨0, 0, true⟩
    let y : Place := ⟨filler, 500⟩
    let sent := fun (f : FrameNo) => ({ s with frame := f }).modEngine 1 fun e =>
      { e with planForce := some (.emptyPlan f false), places := #v[some y, none, none, none], queue := [⟨4, [5]⟩, ⟨11, [1, 2]⟩] }
    (s.load 1).release = 0 ∧ (s.load 1).scanDue = false ∧ 0 < (due.load 1).release ∧ (scan.load 1).scanDue = true ∧
      s.OutOfReset ∧ (∃ u, exec .frameBoundary s = .next u) ∧ ((after .frameBoundary s).engine 1).state ≠ .disabled ∧
      (∀ j ∈ [0, 1, 2], ((sent (500 + BitVec.ofNat 24 j)).engine 1).planForce = some (.emptyPlan (500 + BitVec.ofNat 24 j) false) ∧
        (sent (500 + BitVec.ofNat 24 j)).frame = y.carriage + BitVec.ofNat 24 j ∧ j < 3) := by
  exact ⟨by decide, by decide, by decide, by decide, by decide, ⟨_, rfl⟩, by decide +kernel, by decide⟩

/-- Tree 1 with its discovery count `n` frames high, in OPEN mode, and no home to range. -/
def openedCase (n : Nat) : State := startCase .expected id fun e => { e with mode := .opened, count := n }

/-- R107's first two cases: a CUT tree; a CONFIRMING hunt with one test requested and with two; a SPLITTING one whose pending
test is at once, at frame 7, and at frame 8, which frame 7 has not reached. -/
theorem test_meets_hunt_test :
    let hunting := fun x n p => (startCase .announced (fun h => { h with state := x, requested := n, pendingTest := p }) id).hunt 1
    ((treeIn 1 .cut).engine 1).state = .cut ∧ (hunting .confirming 1 .absent).requested < 2 ∧
      ¬ (hunting .confirming 2 .absent).requested < 2 ∧ (hunting .splitting 0 .atOnce).tests = [] ∧
      (hunting .verifying 0 (.frame 7)).pendingTest = .frame 7 ∧ (0 : Int) ≤ ((7 : FrameNo) - 7).toInt ∧
      ¬ (0 : Int) ≤ ((7 : FrameNo) - 8).toInt := by decide

/-- R107's third case: the count at the interval, and one frame below it. -/
theorem test_meets_discovery_question :
    ∀ n ∈ [15, 16], ((openedCase n).hunt 1).state = .idle ∧ ((openedCase n).enrol 1).mode ≠ .closed ∧
      ((openedCase n).engine 1).state = .running ∧ ((openedCase n).record 11).state = .expected ∧
      (((openedCase n).enrol 1).d ≤ ((openedCase n).enrol 1).count ↔ n = 16) := by decide

/-- R107's fourth case: a head that is RANGING already, and an ANNOUNCED one. -/
theorem test_meets_ranging_question :
    ∀ x ∈ [RecState.announced, .ranging],
      let s := startCase x id id
      (s.enrol 1).queue.head? = some 11 ∧ (s.engine 1).state = .running ∧ (s.hunt 1).state = .idle ∧
        (s.enrol 1).attempt = none ∧ (s.record 11).tree = some 1 ∧ s.kept = [] ∧ (s.record 11).state = x ∧
        (s.record 11).offer = .none ∧ (s.tracker 11).mark = .none := by decide

/-- The readiness of the head at frame 7, by its offer or its settle mark; three frames after frame 4, two after frame 5. -/
theorem test_meets_readiness :
    let s := startCase .announced id id
    (∀ o ∈ [OfferState.sent 4, .sent 5, .delivered], ((s.modRecord 11 fun r => { r with offer := o }).record 11).offer = o) ∧
      (∀ m ∈ [SettleMark.settled, .pending, .carried 4, .carried 5], ∀ c ∈ [SettleCause.offer, .corrected],
        (s.modTracker 11 fun x => { x with mark := m, cause := c }).tracker 11 = ⟨[], m, c, 0⟩) ∧
      (3 : Int) ≤ ((7 : FrameNo) - 4).toInt ∧ ¬ (3 : Int) ≤ ((7 : FrameNo) - 5).toInt := by decide

/-- A boundary of a tree that runs on: it takes the count to 16, and a discovery frame is prepared, or to 15. -/
theorem test_meets_count_rises (n : Nat) :
    (openedCase n).OutOfReset ∧ ((openedCase n).engine 1).state ≠ .disabled ∧
      ((openedCase n).engine 1).enableWaiters = [] ∧ ((openedCase n).engine 1).disableWaiters = [] ∧
      ∃ u, exec .frameBoundary (openedCase n) = .next u :=
  ⟨⟨rfl, rfl⟩, TreeState.noConfusion, rfl, rfl, _, rfl⟩

theorem test_meets_discovery_prepared :
    ((after .frameBoundary (openedCase 15)).engine 1).planPrep.map (·.kind) = some .discovery := by decide +kernel

theorem test_meets_no_discovery_prepared : ((after .frameBoundary (openedCase 14)).engine 1).planPrep = none := by
  decide +kernel

theorem test_meets_pulse :
    let s := { slotsCase [] with frame := 901 }
    let due := fun (now : Nat) (a : Awaited) (g : Nat) =>
      (s.frame - a.plan.frame).toInt * 80000 + now = ((s.engine 0).params.tTarget : Int) + 8 * g
    s.OutOfReset ∧ (∃ a ∈ (s.engine 0).expect, ∃ g ∈ a.pulses, due 70920 a g) ∧
      (s.engine 0).expect.Pairwise (fun a b => a.plan.frame ≠ b.plan.frame) ∧
      (∀ a ∈ (s.engine 0).expect, ∀ g ∈ a.pulses, ¬ due 79999 a g) := by decide

/-- A DARK window of 32 grains that the judged position lies in, and one that ends before it. -/
def darkCase (width : Nat) : State :=
  { treeIn 0 .running with frame := 901, stepOffset := 70064 + 8 * 31 }.modEngine 0 fun e =>
    { e with expect := [⟨{ Plan.emptyPlan 900 false with window := some (.dark width) }, [], false, [0]⟩] }

theorem test_meets_dark_light :
    (∃ a ∈ ((darkCase 32).engine 0).expect, a.plan.frame = 900 ∧ ∃ width, a.plan.window = some (.dark width) ∧ 31 < width) ∧
      upstreamPos 901 (70064 + 8 * 31) 150000 64 = (900, 31 * 8) ∧
      (∀ a ∈ ((darkCase 31).engine 0).expect, a.plan.frame = 900 → ∀ width, a.plan.window = some (.dark width) → width ≤ 31) ∧
      ((darkCase 31).light 0).table = [] := by
  refine ⟨⟨_, List.mem_singleton_self _, rfl, 32, rfl, by decide⟩, by decide, ?_, by decide⟩
  intro a ha _ width hw
  rw [List.mem_singleton.mp ha] at hw
  cases hw
  decide

theorem test_meets_cut_in :
    let s := fun x asserted => withMail (treeIn 1 x) fun m => { m with cutIns := [⟨0, true⟩, ⟨1, asserted⟩] }
    (s .running true).OutOfReset ∧ (s .running true).mail.cutIns = [⟨0, true⟩] ++ ⟨1, true⟩ :: [] ∧
      ((s .running true).engine 1).state = .running ∧ ((s .running true).hunt 1).state = .idle ∧
      (((s .running true).modHunt 1 fun h => { h with state := .splitting }).hunt 1).cutPending = false ∧
      ((s .cut true).engine 1).state = .cut ∧ ((s .disabled true).engine 1).state = .disabled ∧
      (s .cut false).mail.cutIns = [⟨0, true⟩] ++ ⟨1, false⟩ :: [] := by decide

theorem test_meets_compile_read :
    let c := Compile.start 12000 .ordinary none
    let s := (withRecord (treeIn 0 .running) 256 0 .active).modEngine 0 fun e => { e with compile := some c }
    let with' := fun f => s.modRecord 256 f
    s.OutOfReset ∧ (s.engine 0).compile = some c ∧ c.cursor ≤ 256 ∧ s.isRecordOf 0 256 = true ∧
      (∀ j, c.cursor ≤ j → j < 256 → s.isRecordOf 0 j = false) ∧ (s.record 256).state = .active ∧
      (s.record 256).held = false ∧ (s.record 256).isOver = false ∧ (s.tracker 256).cause ≠ .ranged ∧
      ((with' fun r => { r with held := true }).record 256).held = true ∧
      ((with' fun r => { r with isOver := true }).record 256).isOver = true ∧
      ((with' fun r => { r with state := .parked }).record 256).state ≠ .active ∧
      ((s.modTracker 256 fun x => { x with mark := .carried 11997, cause := .ranged }).tracker 256).mark = .carried 11997 ∧
      ((12000 : FrameNo) - 11997).toInt < 4 := by
  refine ⟨by decide, by decide, by decide, by decide, fun j _ hj => ?_, by decide⟩
  show (withRecord (treeIn 0 .running) 256 0 .active).isRecordOf 0 j = false
  unfold State.isRecordOf
  rw [withRecord, modRecord_record, if_neg (by omega), show (treeIn 0 .running).record j = .vacant from reset_record j]
  rfl

theorem test_meets_compile_end :
    let c : Compile := ⟨12000, .ranging, some (.range 25 64 128), 257, grantCase, [], [20]⟩
    compileCase.OutOfReset ∧ (compileCase.engine 0).compile = some c ∧
      (∀ k, c.cursor ≤ k → compileCase.isRecordOf 0 k = false) ∧ residualTotal [] ≤ 9872 := by
  refine ⟨by decide, by decide, fun k hk => ?_, by decide⟩
  have h : compileCase.record k = .vacant := reset_record k
  simp [State.isRecordOf, h, DropRecord.vacant]

theorem test_meets_surplus :
    (grantCase.map (·.tag)).Nodup ∧ 8612 < residualTotal grantCase ∧
      windowWidth (some (.range 25 64 128)) + (grantCase.map fun x => TreeParams.reset.overhead + x.base).sum ≤ 10000 := by
  decide

/-- Shares 5,819, 1,939 and 1,939 of 9,699 with the leftover 2 for the first home from the pointer 200 on; shares of 5
and 5 of 10 with no leftover; and a home whose share is its residual of 1. -/
theorem test_meets_leftover :
    let cs : List Candidate := [⟨40, 0, 0, 8000, 3, 4000000, 0⟩, ⟨180, 0, 0, 8000, 1, 4000000, 0⟩, ⟨250, 0, 0, 8000, 1, 4000000, 0⟩]
    let even : List Candidate := [⟨1, 0, 0, 10, 1, 40, 0⟩, ⟨256, 0, 0, 10, 1, 40, 0⟩]
    let small : Candidate := ⟨3, 0, 0, 1, 1, 4, 0⟩
    let share := fun (surplus wsum : Nat) (c : Candidate) => min c.residual (surplus * c.w / wsum)
    (cs.map (·.tag)).Pairwise (· < ·) ∧ 9699 < residualTotal cs ∧ cs.map (share 9699 5) = [5819, 1939, 1939] ∧
      (cs.filter fun c => decide (200 ≤ c.tag)).map (·.tag) = [250] ∧
      (even.map (·.tag)).Pairwise (· < ·) ∧ 10 < residualTotal even ∧ even.map (share 10 2) = [5, 5] ∧
      residualTotal even ≤ 20 ∧ share 10 1 small = small.residual := by decide +kernel

/-- A LOCK pulse 23 steps after the capture of a header cuts it short, one 24 steps after it does not; of an announce, 55
and 56; and one at a phase 7 steps earlier in the same grain does, 8 no more. -/
theorem test_meets_lock :
    (⟨900, 96, .payload true⟩ : Reception).cutBy 900 151 = true ∧ (⟨900, 96, .payload true⟩ : Reception).cutBy 900 152 = false ∧
      (⟨900, 96, .header⟩ : Reception).cutBy 900 89 = true ∧ (⟨900, 96, .header⟩ : Reception).cutBy 900 88 = false ∧
      ((slotsCase [⟨900, 96, .header⟩]).engine 0).receptions.filter (·.cutBy 900 119) = [⟨900, 96, .header⟩] ∧
      (∃ v, exec (.headerReceipt 0 [] []) ((slotsCase []).modEngine 0 fun e =>
        { e with receptions := [⟨900, 96, .header⟩] }) = .next v) ∧ State.reset.OutOfReset ∧ (State.reset.engine 0).state = .disabled ∧ ((slotsCase []).engine 0).state ≠ .disabled ∧
      (⟨900, 96, .header⟩ : Reception).cutBy 900 119 = true ∧ (⟨900, 96, .header⟩ : Reception).cutBy 900 120 = false :=
  ⟨by decide, by decide, by decide, by decide, by decide, ⟨_, rfl⟩, by decide, by decide, by decide, by decide, by decide⟩

theorem test_meets_first_lock :
    let s := slotsCase [⟨900, 919, .header⟩]
    let b : Burst := ⟨3, 8, 100, 100, 0⟩
    let again := s.modEngine 0 fun e => { e with expect := e.expect.map fun (a : Awaited) => { a with arrived := [3] } }
    s.OutOfReset ∧ (s.engine 0).receptions = [] ++ ⟨900, 919, .header⟩ :: [] ∧
      (s.engine 0).expect = [⟨onePlan, [], false, [0, 115, 180]⟩] ∧
      (s.engine 0).expect.Pairwise (fun x y => x.plan.frame ≠ y.plan.frame) ∧ b ∈ onePlan.entries ∧
      8 * (b.preamble - (s.engine 0).params.g) ≤ 919 ∧ 919 < 8 * (b.preamble + (s.engine 0).params.p + 3 + b.payload) ∧
      (∀ x ∈ onePlan.entries, 8 * (x.preamble - (s.engine 0).params.g) ≤ 919 →
        919 < 8 * (x.preamble + (s.engine 0).params.p + 3 + x.payload) → x = b) ∧
      b.tag ∈ ((again.engine 0).expect.head?.map (·.arrived)).getD [] := by decide

theorem test_meets_headers :
    judgeHeader (headerOf [0, 3, 0, 0, 0, 0, 0, 0]) = .good 3 false 0 0 ∧ judgeHeader [] = .bad ∧
      judgeHeader (headerOf [0, 0, 1, 0, 0, 0, 0, 0]) = .good 0 true 0 0 ∧
      judgeHeader (headerOf [1, 0, 0, 0, 0, 0, 0, 0]) = .good 256 false 0 0 := by decide +kernel

/-- A capture with its frame's plan gone, one at the last step of each window, and one in a discovery frame. -/
def windowCase (w : Window) (hit : Bool) (s : Nat) : State :=
  (treeIn 0 .running).modEngine 0 fun e =>
    { e with
      expect := [⟨{ Plan.emptyPlan 900 false with window := some w }, [], hit, [0]⟩]
      receptions := [⟨900, s, .header⟩] }

theorem test_meets_windows :
    let gone := (treeIn 0 .running).modEngine 0 fun e => { e with receptions := [⟨900, 5, .header⟩] }
    (gone.engine 0).expect = [] ∧ (gone.engine 0).receptions = [] ++ ⟨900, 5, .header⟩ :: [] ∧
      (∀ w ∈ [Window.dark 128, .range 25 64 128, .discover], ∀ hit ∈ [false, true],
        (windowCase w hit 1023).OutOfReset ∧
          ((windowCase w hit 1023).engine 0).receptions = [] ++ ⟨900, 1023, .header⟩ :: [] ∧
          ((windowCase w hit 1023).engine 0).expect.Pairwise (fun x y => x.plan.frame ≠ y.plan.frame) ∧
          (∀ a ∈ ((windowCase w hit 1023).engine 0).expect,
            a.plan.frame = 900 ∧ a.plan.entries = [] ∧ a.plan.window = some w ∧ a.windowHit = hit) ∧ 1023 < 8 * 128) := by
  decide

/-- Captures of awaited plans in no slot and no window: past the last slot, on an EMPTY plan, at the end of a DARK window; in
the window of a plan that has a burst, one step before its first slot; and announces 55 and 56 steps before a later lock. -/
theorem test_meets_outside :
    let plan := fun (x : Plan) (rs : List Reception) => (treeIn 0 .running).modEngine 0 fun e =>
      { e with expect := [⟨x, [], false, []⟩], receptions := rs }
    let mixed := { onePlan with kind := .ranging, window := some (.range 20 64 128), entries := [⟨3, 136, 100, 100, 0⟩] }
    let discovery := { Plan.emptyPlan 900 false with kind := .discovery, window := some .discover }
    let outOf := fun (x : Plan) (at' : Nat) => ∀ b ∈ x.entries, ¬ (8 * (b.preamble - 8) ≤ at' ∧ at' < 8 * (b.preamble + 4 + 3 + b.payload))
    outOf onePlan 1560 ∧ ¬ outOf onePlan 1559 ∧ onePlan.window = none ∧ (Plan.emptyPlan 900 false).window = none ∧
      ((plan onePlan [⟨900, 1560, .header⟩]).engine 0).receptions = [] ++ ⟨900, 1560, .header⟩ :: [] ∧
      ((plan (.emptyPlan 900 false) [⟨900, 5, .header⟩]).engine 0).expect = [⟨.emptyPlan 900 false, [], false, []⟩] ∧
      ((plan (.emptyPlan 900 false) []).engine 0).params = .reset ∧ (TreeParams.reset.g, TreeParams.reset.p) = (8, 4) ∧
      ((windowCase (.dark 128) false 1024).engine 0).expect.map (·.plan.window) = [some (.dark 128)] ∧ 8 * 128 ≤ 1024 ∧
      outOf mixed 1023 ∧ ¬ outOf mixed 1024 ∧ mixed.window = some (.range 20 64 128) ∧ 1023 < 8 * 128 ∧
      discovery.window = some .discover ∧
      (let d := fun (a b : Reception) => (b.frame - a.frame).toInt * 80000 + b.s - a.s
      d ⟨900, 0, .header⟩ ⟨900, 55, .header⟩ < 56 ∧ ¬ d ⟨900, 0, .header⟩ ⟨900, 56, .header⟩ < 56 ∧
        -8 < d ⟨900, 7, .header⟩ ⟨900, 0, .header⟩) ∧
      ((plan discovery [⟨900, 0, .header⟩, ⟨900, 55, .header⟩]).engine 0).receptions = [] ++ ⟨900, 0, .header⟩ :: [⟨900, 55, .header⟩] := by
  decide

/-- A boundary five frames after an announce, which is still the latest after it. -/
theorem test_meets_latest_announce :
    let s := { treeIn 0 .running with frame := 904 }.modEngine 0 fun e => { e with lastAnnounce := some (900, 7) }
    s.OutOfReset ∧ (∃ u, exec .frameBoundary s = .next u) ∧ ((after .frameBoundary s).engine 0).state ≠ .disabled ∧
      ((after .frameBoundary s).engine 0).lastAnnounce = some (900, 7) := by
  refine ⟨by decide, ⟨_, rfl⟩, ?_⟩
  decide +kernel

theorem test_meets_announce_and_plan :
    let s := slotsCase [⟨900, 0, .header⟩, ⟨900, 10000, .payload true⟩]
    let late := fun (now : Nat) => { slotsCase [] with frame := 902, stepOffset := now }
    (s.engine 0).receptions = [⟨900, 0, .header⟩] ++ ⟨900, 10000, .payload true⟩ :: [] ∧ (List.replicate 16 0#8).length = 16 ∧
      (late 0).OutOfReset ∧ ((late 0).engine 0).expect = ⟨onePlan, [], false, [0, 115, 180]⟩ :: [] ∧
      ((late 0).engine 0).receptions = [] ∧ (150000 : Int) + 80000 ≤ ((902 : FrameNo) - 900).toInt * 80000 + 70000 ∧
      ¬ (150000 : Int) + 80000 ≤ ((902 : FrameNo) - 900).toInt * 80000 + 69999 := by decide

/-- A packet of 9,600 octets that fills the queue to its end, and cases of each discard. -/
theorem test_meets_packet (octets : List Byte) (h : octets.length = 9600) :
    let s := slotsCase []
    s.OutOfReset ∧ (s.record 3).state = .active ∧ (s.record 3).tree = some 0 ∧ (s.engine 0).state ≠ .disabled ∧
      1 ≤ octets.length ∧ octets.length ≤ 9600 ∧
      ((s.engine 0).queue.map fun x => x.octets.length).sum + octets.length ≤ 262144 ∧
      ((s.record 4).state ≠ .active ∧ (s.record 4).state ≠ .parked) ∧ ([] : List Byte).length = 0 := by
  rw [h]; decide

/-! ### The roster -/

/-- Every record EXPECTED on tree 0 with no serial; or those up to tag 96 alone. -/
def crowded (n : Nat) : State :=
  { State.reset with
    records := Vector.ofFn fun (i : Fin 256) =>
      if i.val < n then { DropRecord.vacant with state := .expected, tree := some 0 } else .vacant }

theorem crowded_record (n k : Nat) :
    (crowded n).record k =
      if 1 ≤ k ∧ k ≤ n ∧ k ≤ 256 then { DropRecord.vacant with state := .expected, tree := some 0 } else .vacant := by
  unfold crowded State.record readAt
  by_cases hk : 1 ≤ k ∧ k ≤ 256
  · rw [dif_pos hk, Vector.getElem_ofFn]
    by_cases hn : k ≤ n
    · rw [if_pos (by show k - 1 < n; omega), if_pos (by omega)]
    · rw [if_neg (by show ¬ k - 1 < n; omega), if_neg (by omega)]
  · rw [dif_neg hk, if_neg (by omega)]

theorem test_meets_provision :
    State.reset.Serves 0 .control ∧ 15 < 16 ∧
      (∀ k, ¬ ((State.reset.record k).state.inLookup = true ∧ (State.reset.record k).serial = some 8#64)) ∧
      ((State.reset.record 1).state = .vacant ∧ State.reset.departure 1 = .none) ∧
      ((withRecord State.reset 1 1 .rogue).record 1).serial = some 8#64 ∧
      (∀ n k, ¬ (((crowded n).record k).state.inLookup = true ∧ ((crowded n).record k).serial = some 8#64)) ∧
      (∀ k, ¬ (1 ≤ k ∧ k ≤ 256 ∧ ((crowded 256).record k).state = .vacant)) ∧
      (((crowded 96).record 97).state = .vacant ∧ (crowded 96).departure 97 = .none) ∧
      ((List.range' 1 256).filter fun k => (crowded 96).isRecordOf 0 k).length = 96 := by
  refine ⟨by decide, by decide, fun k => ?_, by decide, by decide, fun n k => ?_, fun k hk => ?_, by decide +kernel,
    by decide +kernel⟩
  · rw [reset_record]; decide
  · rw [crowded_record]; split <;> decide
  · rw [crowded_record, if_pos (by omega)] at hk; exact absurd hk.2.2 (by decide)

theorem test_meets_profiles :
    let active := (budgetCase 0).modRecord 11 fun r => { r with state := .active }
    let roomy := active.modEngine 1 fun e => { e with params := { e.params with k := 2066 } }
    let share := fun (s : State) (n : Nat) => (s.profile n).f + (s.profile n).a
    active.Serves 0 .control ∧ (active.record 11).state = .active ∧ (active.record 11).tree = some 1 ∧
      share active 0 < share active 5 ∧
      (active.engine 1).params.k < (active.load 1).committed + (active.load 1).release + (share active 5 - share active 0) ∧
      (roomy.load 1).committed + (roomy.load 1).release + (share roomy 5 - share roomy 0) ≤ (roomy.engine 1).params.k ∧
      ((withRecord State.reset 1 0 .retired).record 1).state = .retired ∧
      ((withRecord State.reset 1 0 .parked).record 1).tree = some 0 ∧ ({ w := some 16 } : ProfileValues) ≠ {} := by decide

/-- A rise of profile 0 to 5,921 + 64 + 15 = 6,000 grains for the one ACTIVE record of tree 1 fits K, and one grain more does
not. -/
theorem test_meets_set_profile :
    let s := (withRecord (treeIn 1 .running) 1 1 .active).modLoad 1 fun _ => ⟨79, 0, false⟩
    s.Serves 0 .control ∧ s.activeWith 1 0 = 1 ∧ 79 - 1 * 64 + 1 * 5985 ≤ 6000 ∧ 6000 < 79 - 1 * 64 + 1 * 5986 := by
  decide +kernel

theorem test_meets_retire :
    let s := withRecord (treeIn 3 .running) 256 3 .active
    s.Serves 0 .control ∧ (s.record 256).state ≠ .vacant ∧ (s.record 256).tree = some 3 ∧ s.kept = [] ∧
      (s.tally 256).live = ⟨0, 0, 0, 0, 0, false, false⟩ ∧ (s.tally 256).closed.collected = true ∧
      ((s.modTally 256 fun x => { x with live := { x.live with overFrames := 1 } }).tally 256).live.overFrames ≠ 0 ∧
      ((s.modRecord 256 fun r => { r with state := .retired }).record 256).state = .retired := by decide

/-- A RESTORE of the record kept for link 1, a RETIRE on link 0. -/
theorem test_meets_retire_of_a_restore :
    let s := { (withRecord (treeIn 3 .running) 256 3 .rogue).asked 1 (.restore 1 9 256) with
      kept := [⟨3, ⟨.shutLift 256, .restore 1⟩, false⟩] }
    s.Serves 0 .control ∧ (s.record 256).state ≠ .vacant ∧ (s.record 256).state ≠ .retired ∧ (s.record 256).tree = some 3 ∧
      s.kept = [] ++ ⟨3, ⟨.shutLift 256, .restore 1⟩, false⟩ :: [] ∧ (1 : LinkId) ≠ 0 ∧
      (s.link 1).request = some ⟨10, 9, [10, 9, 0, 2, 1, 0]⟩ ∧
      ((after (.retire 0 1 256) s).link 1).response = some ⟨10, 9, false, .state, .none⟩ := by decide +kernel

theorem test_meets_rerange_restore :
    let s := withRecord (treeIn 3 .running) 256 3 .rogue
    let full := s.modEngine 3 fun e => { e with normal := List.replicate 32 filler }
    let room := s.modEngine 3 fun e => { e with normal := List.replicate 31 filler }
    let kept := { s with kept := [⟨3, ⟨.shutLift 256, .restore 1⟩, false⟩] }
    s.Serves 0 .control ∧ (s.record 256).state = .rogue ∧ (s.record 256).tree = some 3 ∧ (s.engine 3).state ≠ .disabled ∧
      s.kept = [] ∧ 32 ≤ (full.engine 3).normal.length ∧ (room.engine 3).normal.length < 32 ∧
      (∃ x ∈ kept.kept, ∃ m, x.entry = ⟨.shutLift 256, .restore m⟩) ∧
      (s.record 256).state ∉ [RecState.vacant, .active, .parked] ∧
      ((withRecord State.reset 1 0 .parked).record 1).state = .parked := by
  dsimp only
  and_intros <;> first | exact ⟨_, List.mem_singleton_self _, 1, rfl⟩ | decide

theorem test_meets_arrival_reports :
    let s := fun n => (withMail (slotsCase []) fun m => { m with valids := [⟨0, 3, 16777215, 100⟩], misses := [⟨0, 7, 50⟩] }).modRecord
      7 fun r => { r with missRun := n }
    (s 6).OutOfReset ∧ (s 6).mail.valids[0]? = some ⟨0, 3, 16777215, 100⟩ ∧ (s 6).mail.misses[0]? = some ⟨0, 7, 50⟩ ∧
      (s 6).isRecordOf 0 7 = true ∧ ((s 6).record 7).missRun < 7 ∧ 7 ≤ ((s 7).record 7).missRun ∧
      ((s 7).record 7).state = .active ∧ ((s 7).engine 0).state ≠ .disabled ∧ (slotsCase []).isRecordOf 0 256 = false := by
  decide

theorem test_meets_usage :
    let s := withMail (allowanceCase 2097151 false) fun m =>
      { m with ups := [⟨0, 57, 1, true⟩], downs := [⟨0, 57, 9600⟩], dispatches := [⟨0, 57, 100, false, true⟩] }
    s.OutOfReset ∧ s.mail.ups[0]? = some ⟨0, 57, 1, true⟩ ∧ s.mail.downs[0]? = some ⟨0, 57, 9600⟩ ∧
      s.mail.dispatches[0]? = some ⟨0, 57, 100, false, true⟩ ∧ s.isRecordOf 0 57 = true ∧ s.isRecordOf 1 57 = false := by
  decide

theorem test_meets_closing :
    let s := (allowanceCase 5 false).modRecord 57 fun r => { r with state := .retired }
    let left := s.modTally 57 fun x => { x with closed := { x.closed with collected := false } }
    let count := fun (x : State) => (List.range' 1 256).filter fun k => !(x.tally k).closed.collected
    s.Serves 2 .tally ∧ count s = [] ∧ count left = [57] ∧ (s.record 57).state ≠ .vacant ∧ (s.tally 57).closed.collected = true ∧
      (left.tally 57).closed.collected = false ∧ (s.tally 57).live.up ≠ 0 ∧
      ((left.modTally 57 fun x => { x with live := .zero }).tally 57).live.up = 0 := by decide +kernel

/-! ### Enrolment, ranging and tracking -/

theorem test_meets_enrolment :
    State.reset.Serves 0 .control ∧ (2, EnrolMode.auto) ∈ [(0, EnrolMode.closed), (1, .opened), (2, .auto)] ∧
      strangerCase.Serves 0 .control ∧ (strangerCase.stranger 15).isSome = true ∧ strangerCase.stranger 14 = none := by decide

/-- An announcement of a listed serial, one that takes position 0, and one that finds the list full. -/
theorem test_meets_strangers :
    let full := { State.reset with strangers := Vector.replicate 16 (some ⟨11#64, 1, .unknown, 1, 1, 0, 255, 0⟩) }
    (full.stranger 0).map (fun x => (x.serial, x.tree)) = some (11#64, 1) ∧
      (∀ m, State.reset.stranger m = none) ∧ (∀ n, n < 16 → full.stranger n ≠ none) ∧
      (∀ n x, full.stranger n = some x → ¬ (x.serial = 12#64 ∧ x.tree = 1)) := by
  refine ⟨by decide, fun m => ?_, by decide, fun n x h => ?_⟩
  · simp [State.reset, State.resetWith, State.stranger, readAt_replicate]
  · simp only [State.stranger, readAt_replicate] at h
    split at h
    · cases h; decide
    · cases h

theorem test_meets_window_end :
    let s := fun c a => (discoveryCase .windowEnd).modEnrol 1 fun e => { e with notes := [⟨7200, c, a⟩] }
    (s true true).OutOfReset ∧ (s true true).mail.discovery = [] ++ ⟨1, 7200, .windowEnd⟩ :: [] ∧
      (((s true false).enrol 1).noteOf 7200).collision = true ∧ (((s false true).enrol 1).noteOf 7200).collision = false ∧
      (((s false true).enrol 1).noteOf 7200).announced = true ∧ (((s false false).enrol 1).noteOf 7200).announced = false := by
  decide

/-- Samples at both ends of the zone and one step past each: (z + P) × 8 is 9,632 for z 1,200. -/
theorem test_meets_discovery :
    let s := discoveryCase (.announce 9632 11#64 1200 false)
    let known := fun x => withRecord s 4 1 x
    s.OutOfReset ∧ s.mail.discovery = [] ++ ⟨1, 7200, .announce 9632 11#64 1200 false⟩ :: [] ∧
      ((0 : Int) ≤ 9632 - (1200 + 4) * 8 ∧ (9632 : Int) - (1200 + 4) * 8 ≤ (s.engine 1).params.z) ∧
      ¬ (0 : Int) ≤ 9631 - (1200 + 4) * 8 ∧ (59632 : Int) - (1200 + 4) * 8 ≤ (s.engine 1).params.z ∧
      ¬ (59633 : Int) - (1200 + 4) * 8 ≤ (s.engine 1).params.z ∧
      (∀ k, ¬ ((s.record k).state.inLookup = true ∧ (s.record k).serial = some 11#64)) ∧ (s.enrol 1).mode ≠ .auto ∧
      ((known .active).record 4).serial = some 11#64 ∧ ((known .active).record 4).tree = some 1 ∧
      ((known .rogue).record 4).state = .rogue ∧ ((withRecord s 4 2 .active).record 4).tree ≠ some 1 ∧
      (s.engine 1).state ≠ .disabled ∧ (s.engine 1).normal.length < 32 ∧ s.kept = [] ∧ s.allocate 1 = .tag 1 ∧
      (crowded 256).allocate 1 = .poolFull ∧ (crowded 96).allocate 0 = .treeFull := by
  refine ⟨by decide, by decide, by decide, by decide, by decide, by decide, fun k => ?_, by decide +kernel⟩
  rw [show (discoveryCase (.announce 9632 11#64 1200 false)).record k = .vacant from reset_record k]
  decide

theorem test_meets_discovery_collisions :
    ∀ b ∈ [DiscoveryBody.badHeader true, .badHeader false, .plain 4 true, .cutShort, .announce 1 2#64 3 true, .plain 4 false],
      (discoveryCase b).mail.discovery = [] ++ ⟨1, 7200, b⟩ :: [] := by decide

/-- δ at the bound 8 × (E − P − 3) = 456, and one step past it; e − δ at 0. -/
theorem test_meets_ranging :
    let s := fun d (n : Nat) => withMail (((budgetCase 0).modEnrol 1 fun e => { e with queue := [11], attempt := some 4005 }).modRecord
        11 fun r => { r with delay := 456, rangeAttempts := n }) fun m =>
      { m with ranging := [⟨1, 4005, 11, .capture 0 d (some (11, 30000))⟩] }
    (s 456 0).OutOfReset ∧ (s 456 0).mail.ranging = [] ++ ⟨1, 4005, 11, .capture 0 456 (some (11, 30000))⟩ :: [] ∧
      ((s 456 0).enrol 1).attempt = some 4005 ∧ |(456 : Int)| ≤ (8 * (128 / 2 - 4 - 3) : Nat) ∧
      0 ≤ (((s 456 0).record 11).delay : Int) - 456 ∧ ((s 456 0).record 11).state = .ranging ∧
      ((s 456 0).record 11).tree = some 1 ∧ ((s 456 0).engine 1).state ≠ .disabled ∧ ((s 456 0).engine 1).normal.length < 32 ∧
      (s 456 0).kept = [] ∧ ¬ |(457 : Int)| ≤ (8 * (128 / 2 - 4 - 3) : Nat) ∧ ((s 457 1).record 11).rangeAttempts < 2 ∧
      ((s 457 2).record 11).rangeAttempts = 2 ∧ (State.reset.enrol 1).attempt ≠ some 4005 := by decide

/-- A sample at the drift limit is kept, one past it is not; a fourth sample at the drift tolerance corrects, and one with
e − estimate outside the zone suspends. -/
theorem test_meets_samples :
    let s := trackCase [4, 4, 4] 32
    s.OutOfReset ∧ s.mail.samples[0]? = some ⟨2, 21, 4019, 32, false⟩ ∧ s.isRecordOf 2 21 = true ∧ (s.record 21).state = .active ∧
      s.kept = [] ∧ ((4019 : FrameNo) - 4008).toInt = 11 ∧ |(32 : Int)| ≤ 32 ∧ (32 : Int) < |33| ∧
      (s.tracker 21).samples = [4, 4, 4] ∧ [(4 : Int), 4, 4, 32].Perm [4, 4, 4, 32] ∧ (4 : Int) ≤ |(4 + 4 : Int).tdiv 2| ∧
      ¬ (4 : Int) ≤ |(3 + 4 : Int).tdiv 2| ∧ ((trackCase [1, 2] 0).tracker 21).samples.length < 3 ∧ (s.record 22).state ≠ .active ∧
      ((s.modRecord 21 fun r => { r with delay := 3 }).record 21).delay = 3 ∧ (3 : Int) - 4 < 0 := by
  dsimp only
  and_intros <;> first | exact .refl _ | decide

/-- A record that left ACTIVE while the sample was on its way, its report in flight, with three samples kept: past the drift
limit, and a fourth. -/
theorem test_meets_late_samples :
    let s := fun d => (withMail (trackCase [4, 4, 4] d) fun m =>
      { m with samples := [⟨2, 21, 4019, d, true⟩], changes := [⟨21, .active, .suspended⟩] }).modRecord 21 fun r =>
        { r with state := .suspended }
    (∀ d ∈ [(33 : Int), 32], (s d).OutOfReset ∧ (s d).mail.samples[0]? = some ⟨2, 21, 4019, d, true⟩ ∧ (s d).isRecordOf 2 21 = true ∧
      ((s d).record 21).state ≠ .active ∧
      (∃ y ∈ (s d).mail.changes, y.tag = 21 ∧ y.before = .active ∧ y.after ≠ .vacant)) ∧
      (((s 32).modRecord 21 fun r => { r with delay := 3 }).record 21).delay = 3 ∧
      ((s 32).engine 2).state ≠ .disabled ∧ ((s 32).engine 2).normal.length < 32 := by decide

/-- An ACTIVE record that leaves for VACANT, and one that leaves for another state. -/
theorem test_meets_leaving :
    let s := trackCase [4] 0
    (s.record 21).state = .active ∧ (s.record 21).state ≠ .vacant ∧ (s.record 21).state ≠ .suspended ∧
      ((s.changeState 21 .vacant true).mail.samples = []) ∧
      ((s.changeState 21 .suspended false).mail.samples.map (·.met)) = [true] := by decide

theorem test_meets_state_change :
    let s := fun x => withMail (trackCase [6, 4] 0) fun m => { m with changes := [⟨21, x, .suspended⟩] }
    (s .active).mail.changes[0]? = some ⟨21, .active, .suspended⟩ ∧ (s .ranging).mail.changes[0]? = some ⟨21, .ranging, .suspended⟩ := by
  decide

theorem test_meets_offers :
    let e := fun u n => (treeIn 1 .running).modEngine 1 fun e =>
      { e with urgent := List.replicate u ⟨.laserShut 1, .strikeShut⟩, normal := List.replicate n filler }
    let kept := fun x due => { e 7 31 with kept := [⟨1, x, due⟩] }
    let offered : LaneEntry := ⟨.enrolOffer 8#64 4 5, .offer⟩
    (State.reset.engine 1).state = .disabled ∧ ((e 8 32).engine 1).state ≠ .disabled ∧ 8 ≤ ((e 8 32).engine 1).urgent.length ∧
      32 ≤ ((e 8 32).engine 1).normal.length ∧ ¬ 8 ≤ ((e 7 31).engine 1).urgent.length ∧
      ¬ 32 ≤ ((e 7 31).engine 1).normal.length ∧ (e 7 31).kept = [] ∧
      (kept filler true).kept = [] ++ ⟨1, filler, true⟩ :: [] ∧ filler.origin.producer = .roster ∧
      (kept filler true).mail.changes = [] ∧ ((kept filler true).engine 1).laneFull filler.dir = false ∧
      ((e 8 32).engine 1).laneFull filler.dir = true ∧ (kept offered true).kept = [] ++ ⟨1, offered, true⟩ :: [] ∧
      ((kept offered true).record 4).state ≠ .announced ∧ (kept filler false).kept = [⟨1, filler, false⟩] := by decide

/-- A hold range [2, 9] with a release of the whole of it and of its upper part. -/
theorem test_meets_round_accepted :
    let s := (treeIn 1 .running).modHunt 1 fun h => { h with hold := some (2, 9) }
    (s.hunt 1).hold = some (2, 9) ∧ (2 : Nat) = 2 ∧ (2 : Nat) < 3 := by decide

/-- Several due: a stale one first, one the lane takes first, one the full lane refuses, each before another that is due;
and one with none of its producer behind it. -/
theorem test_meets_retries :
    let e := fun n => (treeIn 1 .running).modEngine 1 fun e => { e with normal := List.replicate n filler }
    let stale : LaneEntry := ⟨.enrolOffer 8#64 4 5, .offer⟩
    let next : LaneEntry := ⟨.depart 98, .departSuspend⟩
    let s := fun n x y => { e n with kept := [⟨1, x, true⟩, ⟨1, y, true⟩] }
    (∀ n ∈ [31, 32], (s n filler next).kept = [] ++ ⟨1, filler, true⟩ :: [⟨1, next, true⟩] ∧
      ((s n filler next).engine 1).state ≠ .disabled ∧
      ((s n filler next).engine 1).laneFull filler.dir = decide (n = 32)) ∧
      next.origin.producer = .roster ∧ stale.origin.producer = .enrolment ∧
      (s 31 stale stale).kept = [] ++ ⟨1, stale, true⟩ :: [⟨1, stale, true⟩] ∧ ((s 31 stale stale).record 4).state ≠ .announced ∧
      (s 31 stale filler).kept = [] ++ ⟨1, stale, true⟩ :: [⟨1, filler, true⟩] ∧
      ((s 31 filler stale).offer 1 next).kept = [⟨1, filler, true⟩, ⟨1, stale, true⟩, ⟨1, next, true⟩] := by decide

/-! ### Light watch, log and hunt -/

/-- A log with a matching record at its first and its last place, with one free place, and with none. -/
theorem test_meets_log :
    let o : Observation := ⟨.stray, 2, none, none, none, 9011, 9011, 0⟩
    let other : Observation := { o with tree := 3 }
    let full := { State.reset with log := Vector.replicate 16 (some other) }
    ((strayCase 15 (some o)).logRecord 15) = some o ∧ (∀ m, m < 15 → (strayCase 15 (some o)).logRecord m = none) ∧
      (∀ m, m < 16 → full.logRecord m = some other) ∧ other.tree ≠ o.tree ∧ full.overflow = false ∧
      { full with overflow := true }.overflow = true ∧
      ({ full with log := full.log.set 15 none }.logRecord 15 = none) := by decide

theorem test_meets_light_reports :
    let s := fun b => withMail (withRecord (treeIn 0 .running) 256 0 .active) fun m => { m with lights := [⟨0, 9, b, some 5⟩] }
    (s .stray).OutOfReset ∧
      (∀ b ∈ [LightBody.hunt .externalCut, .duplicate 256 9#64, .wrongSlot none, .wrongSlot (some 1), .wrongSlot (some 256), .stray],
        (s b).mail.lights[0]? = some ⟨0, 9, b, some 5⟩) ∧
      (s .stray).isRecordOf 0 1 = false ∧ (s .stray).isRecordOf 0 256 = true ∧ ((s .stray).light 0).current = none ∧
      (((s .stray).modLight 0 fun w => { w with current := some ⟨9, false⟩ }).light 0).current = some ⟨9, false⟩ := by decide

/-- A STRAY for the frame of a closed entry, with two others lit, and with one. -/
theorem test_meets_late_strays :
    let s := fun lit => (strayCase 0 none).modLight 2 fun w =>
      { w with closed := [⟨9011, false⟩, ⟨9012, true⟩, ⟨9013, lit⟩], current := some ⟨9014, false⟩ }
    ∀ lit ∈ [false, true], (s lit).OutOfReset ∧ (s lit).mail.lights[0]? = some ⟨2, 9011, .stray, some 90⟩ ∧
      ((s lit).light 2).current = some ⟨9014, false⟩ ∧ (9014 : FrameNo) ≠ 9011 ∧
      (∃ y ∈ ((s lit).light 2).closed, y.frame = 9011) ∧ ((s lit).engine 2).state = .running ∧
      ((s lit).engine 2).params.autoHunt = true ∧ ((s lit).hunt 2).state = .idle ∧
      (decide (3 ≤ ((((s lit).light 2).closed.map fun y => if y.frame = 9011 then ⟨y.frame, true⟩ else y).filter
        (·.lit)).length) = lit) := by decide

/-- Plan 5,000 of tree 0 in the interval table, its history as given: grain 117 is the first past record 3's interval. -/
def judgeCase (window : Option Window) (run : Option Run) (current : Option HistEntry) : State :=
  withRecord (treeIn 0 .running) 3 0 .active |>.modLight 0 fun w =>
    { w with
      table := [⟨5000, [⟨3, 6, 117⟩, ⟨7, 121, 182⟩], window⟩]
      run := run
      closed := [⟨4996, true⟩, ⟨4997, true⟩]
      current := current }

/-- Samples not judged, covered and not, with a run of a record, of no record, of a window and of a gap, one that has raised
its event; and histories with no entry, one of the same frame and one of an earlier frame, that triggers or not. -/
theorem test_meets_judged :
    let none' := judgeCase none none none
    let span : BurstSpan := ⟨3, 6, 117⟩
    let inside := fun (g : Int) => span.first ≤ g ∧ g < span.past
    let run := fun a => judgeCase none (some ⟨5000, 116, a, none⟩) (some ⟨5000, false⟩)
    (State.reset.engine 0).state = .disabled ∧ (∀ x ∈ (none'.light 0).table, x.frame ≠ 5001) ∧
      ((judgeCase (some (.dark 200)) none none).light 0).table.map (·.window) = [some (.dark 200)] ∧
      (none'.engine 0).state ≠ .disabled ∧ (∃ x ∈ (none'.light 0).table, x.frame = 5000) ∧
      (inside 6 ∧ inside 116 ∧ ¬ inside 117) ∧
      ((none'.light 0).table = [] ++ ⟨5000, [] ++ ⟨3, 6, 117⟩ :: [⟨7, 121, 182⟩], none⟩ :: []) ∧ (none'.light 0).run = none ∧
      (∀ a ∈ [Attribution.tag 3, .tag 7, .window, .gap], ((run a).light 0).run = some ⟨5000, 116, a, none⟩) ∧
      none'.isRecordOf 0 3 = true ∧ none'.isRecordOf 0 7 = false ∧
      ((judgeCase none (some ⟨4999, 9, .gap, some 5000⟩) none).light 0).run = some ⟨4999, 9, .gap, some 5000⟩ ∧
      (((run .gap).historyAt 0 5000).light 0).current = some ⟨5000, false⟩ ∧ (none'.light 0).current = none ∧
      ((judgeCase none none (some ⟨5000, true⟩)).light 0).current = some ⟨5000, true⟩ ∧
      (∀ lit ∈ [false, true], ((judgeCase none none (some ⟨4999, lit⟩)).light 0).current = some ⟨4999, lit⟩) ∧
      (0 : Int) < ((5000 : FrameNo) - 4999).toInt ∧ (none'.hunt 0).state = .idle ∧ (none'.engine 0).params.autoHunt = true := by
  decide

theorem test_meets_strikes :
    let full := (strikeCase 3).modEngine 0 fun e => { e with urgent := List.replicate 8 ⟨.laserHold 1 2, .huntRound⟩ }
    let room := (strikeCase 3).modEngine 0 fun e => { e with urgent := List.replicate 7 ⟨.laserHold 1 2, .huntRound⟩ }
    (strikeCase 3).OutOfReset ∧ (strikeCase 3).mail.strikes[0]? = some ⟨0, 3⟩ ∧ ((strikeCase 3).record 3).state = .active ∧
      ((strikeCase 3).record 3).tree = some 0 ∧ min 15 (((strikeCase 2).record 3).strikes + 1) < 4 ∧
      4 ≤ min 15 (((strikeCase 3).record 3).strikes + 1) ∧ ((strikeCase 3).engine 0).params.strikeLim = 4 ∧
      (strikeCase 3).kept = [] ∧ (∀ y ∈ (room.engine 0).urgent, y.dir ≠ .laserShut 3) ∧ (room.engine 0).urgent.length < 8 ∧
      8 ≤ (full.engine 0).urgent.length ∧
      (withMail State.reset fun m => { m with strikes := [⟨0, 3⟩], cleans := [⟨0, 3, 900, 0, 115⟩] }).mail.cleans[0]? = some ⟨0, 3, 900, 0, 115⟩ ∧
      (State.reset.record 3).state ≠ .active ∧
      (((strikeCase 3).modRecord 3 fun r => { r with tree := some 1 }).record 3).tree ≠ some 0 := by decide

theorem test_meets_log_requests :
    let o : Observation := ⟨.stray, 2, none, none, none, 9011, 9011, 0⟩
    State.reset.Serves 0 .control ∧ State.reset.Takes 2 ∧ (State.reset.link 2).role = .tally ∧
      (strayCase 15 (some o)).Serves 0 .control ∧ (strayCase 15 (some o)).logRecord 15 = some o ∧
      State.reset.logRecord 0 = none ∧ State.reset.overflow = false := by decide

theorem test_meets_hunts :
    let s := treeIn 1 .running
    let hunting := s.modHunt 1 fun h => { h with state := .verifying }
    let trigger := withMail s fun m => { m with triggers := [0, 1] }
    let kept := { s with kept := [⟨1, ⟨.laserRelease 1 256, .huntRelease⟩, false⟩] }
    s.Serves 0 .control ∧ (s.engine 1).state = .running ∧ (s.hunt 1).state = .idle ∧ (s.hunt 1).cutPending = false ∧
      s.kept = [] ∧ (∃ x ∈ kept.kept, x.tree = 1 ∧ x.entry.origin = .huntRelease) ∧ hunting.Serves 0 .control ∧
      (hunting.hunt 1).state ≠ .idle ∧ (hunting.engine 1).urgent.length < 8 ∧ trigger.OutOfReset ∧
      trigger.mail.triggers = [0] ++ 1 :: [] ∧ (1 : Tree) ∉ [(0 : Tree)] := by decide

/-- The urgent lane with no place, one and two for the directives of an ending, and with one kept before them. -/
theorem test_meets_hunt_room :
    let s := fun n => (treeIn 1 .running).modEngine 1 fun e => { e with urgent := List.replicate n ⟨.laserShut 3, .strikeShut⟩ }
    let kept := { s 0 with kept := [⟨1, ⟨.laserRelease 1 256, .huntRelease⟩, false⟩, ⟨1, ⟨.laserHold 2 9, .huntRound⟩, true⟩] }
    (∀ n ∈ [6, 7, 8], (s n).huntRoom 1 ((s n).endingKept 1) = 8 - n) ∧ kept.endingKept 1 = [.laserRelease 1 256] ∧
      kept.huntRoom 1 (kept.endingKept 1) = 0 := by decide

/-- A verdict of each kind in each hunt state. -/
theorem test_meets_verdicts :
    let s := fun st lit => huntCase 10003 fun h =>
      { h with state := st, suspects := some (1, 256), hold := some (1, 256), verified := some (14, some 21#64), tests := [⟨10003, lit⟩] }
    (∀ st ∈ [HuntState.confirming, .splitting, .verifying], ∀ lit ∈ [false, true],
      (s st lit).OutOfReset ∧ (s st lit).mail.darkEnds = [] ++ ⟨1, 10003⟩ :: [] ∧ ((s st lit).engine 1).state ≠ .disabled ∧
        ((s st lit).hunt 1).state = st ∧ ((s st lit).hunt 1).tests.find? (fun x => x.frame == 10003) = some ⟨10003, lit⟩ ∧
        ((s st lit).hunt 1).suspects = some (1, 256) ∧ ((s st lit).hunt 1).hold = some (1, 256) ∧
        ((s st lit).hunt 1).verified = some (14, some 21#64)) ∧
      ((s .verifying false).engine 1).urgent.length < 8 ∧ (s .verifying false).kept = [] ∧
      ((s .verifying false).record 14).state = .active ∧ ((huntCase 9 id).hunt 1).tests = [] := by decide +kernel

theorem test_meets_reads :
    let s := trackCase [6] 0
    s.Serves 2 .read ∧ (s.record 21).state ≠ .vacant ∧ (s.record 21).tree = some 2 ∧ s.kept = [] ∧
      ((s.record 21).state.inLookup = true ∧ (s.record 21).serial = some 28#64) ∧
      (strayCase 15 (some ⟨.stray, 2, none, none, none, 0, 0, 0⟩)).logRecord 15 = some ⟨.stray, 2, none, none, none, 0, 0, 0⟩ ∧
      { s with kept := [⟨2, ⟨.setDelay 21 9, .corrected⟩, true⟩] }.kept = [] ++ ⟨2, ⟨.setDelay 21 9, .corrected⟩, true⟩ :: [] := by
  decide

end Sys2Proof.Tests
end

/-! ## Numbered vectors: the numbers that pass a test, in order -/

namespace Sys2Proof.Machine

theorem numbersWhere_eq {α : Type} {n : Nat} (v : Vector α n) (test : Nat → α → Bool) (absent : α) :
    numbersWhere v test = (List.range' 1 n).filter fun k => test k (readAt v k absent) := by
  have zip : v.toList.zipIdx 1 = (List.range' 1 n).map fun k => (readAt v k absent, k) := by
    apply List.ext_getElem
    · simp
    · intro i h1 h2
      have hi : i < n := by simpa using h2
      simp [readAt, show i + 1 ≤ n from hi, Nat.add_comm 1 i]
  unfold numbersWhere
  rw [zip, List.filter_map, List.map_map]
  simp [Function.comp_def]

/-- The numbers that pass a test stand in ascending order. -/
theorem numbersWhere_sorted {α : Type} {n : Nat} (v : Vector α n) (test : Nat → α → Bool) :
    (numbersWhere v test).Pairwise (· < ·) := by
  by_cases hn : n = 0
  · subst hn
    have h : v.toList = [] := by simp
    simp [numbersWhere, h]
  · rw [numbersWhere_eq v test v[0]]
    exact (List.pairwise_lt_range' (s := 1) (n := n)).filter _

theorem numbersWhere_nodup {α : Type} {n : Nat} (v : Vector α n) (test : Nat → α → Bool) :
    (numbersWhere v test).Nodup := (numbersWhere_sorted v test).imp Nat.ne_of_lt

/-- The first number that passes a test, where no smaller one does. -/
theorem numbersWhere_head?_eq_some {α : Type} {n : Nat} (v : Vector α n) (test : Nat → α → Bool) (k : Nat)
    (h : k ∈ numbersWhere v test) (least : ∀ j ∈ numbersWhere v test, k ≤ j) : (numbersWhere v test).head? = some k := by
  have sorted := numbersWhere_sorted v test
  cases e : numbersWhere v test with
  | nil => simp [e] at h
  | cons a rest =>
    rw [e] at h sorted
    have ha : k ≤ a := least a (by simp [e])
    rcases List.mem_cons.mp h with rfl | hk
    · rfl
    · have := List.rel_of_pairwise_cons sorted hk
      omega

/-! ## The part right after reset -/

theorem reset_engine (t : Tree) : State.reset.engine t = Engine.reset := by
  simp [State.reset, State.resetWith, State.engine]

theorem reset_load (t : Tree) : State.reset.load t = Load.reset := by
  simp [State.reset, State.resetWith, State.load]

theorem reset_record (k : Nat) : State.reset.record k = DropRecord.vacant := by
  simp [State.reset, State.resetWith, State.record, readAt_replicate]

theorem reset_tally (k : Nat) : State.reset.tally k = Tally.reset := by
  simp [State.reset, State.resetWith, State.tally, readAt_replicate]

theorem reset_link_sound (l : LinkId) : (State.reset.link l).Sound := by
  revert l
  decide

theorem reset_budget : State.reset.BudgetInv := by
  refine ⟨fun k h => ?_, fun t => ⟨?_, ?_, fun _ => ⟨?_, fun k h => ?_⟩⟩⟩
  · simp [reset_record, DropRecord.vacant] at h
  · simp [reset_load, reset_record, DropRecord.vacant, Load.reset]
  · simp [reset_load, Load.reset]
  · simp [reset_load, Load.reset]
  · simp [reset_record, DropRecord.vacant] at h

/-- Settles O8: every block holds its reset values, in which no lane, link, tally, counter, serial or load is taken. -/
theorem resetMeetsTheInvariants : Obligations.ResetMeetsTheInvariants := by
  refine ⟨fun t => ?_, reset_link_sound, fun k => ?_, fun k => ?_, fun j k serial hj => ?_, reset_budget⟩
  · simp [reset_engine, Engine.reset]
  · simp [reset_tally, Tally.reset, TallySet.zero, TallySet.Fits]
  · simp [reset_record, DropRecord.vacant, DropRecord.Ranged]
  · simp [reset_record, DropRecord.vacant, RecState.inLookup] at hj

end Sys2Proof.Machine

/-! ## Requests of the tree engines and reads of trees and roster -/

namespace Sys2Proof.Machine

/-! ### One equation for each request, on a link that serves it -/

section
variable {s : State} {l : LinkId} {seq : Nat} {t : Tree}

theorem exec_enableTree_eq (h : s.Serves l .control) :
    exec (.enableTree l seq t.val) s = .next ((s.asked l (.enableTree l seq t.val)).serveEnable l t) := by
  show live s _ = _
  rw [live_out _ _ h.1.1, State.reqEnableTree, request_serves _ _ _ _ _ h, withTree_fin]

theorem exec_disableTree_eq (h : s.Serves l .control) :
    exec (.disableTree l seq t.val) s = .next ((s.asked l (.disableTree l seq t.val)).serveDisable l t) := by
  show live s _ = _
  rw [live_out _ _ h.1.1, State.reqDisableTree, request_serves _ _ _ _ _ h, withTree_fin]

theorem exec_resumeTree_eq (h : s.Serves l .control) :
    exec (.resumeTree l seq t.val) s = .next ((s.asked l (.resumeTree l seq t.val)).serveResume l t) := by
  show live s _ = _
  rw [live_out _ _ h.1.1, State.reqResumeTree, request_serves _ _ _ _ _ h, withTree_fin]

theorem exec_setTree_eq {v : TreeValues} (h : s.Serves l .control) :
    exec (.setTree l seq t.val v) s = .next ((s.asked l (.setTree l seq t.val v)).serveSetTree l t v) := by
  show live s _ = _
  rw [live_out _ _ h.1.1, State.reqSetTree, request_serves _ _ _ _ _ h, withTree_fin]

theorem exec_readTree_eq (h : s.Serves l .read) :
    exec (.readTree l seq t.val) s = .next (s.served l 4 seq .ok (.tree (s.treeView t))) := by
  show live s _ = _
  rw [live_out _ _ h.1.1, State.reqReadTree, request_serves _ _ _ _ _ h, withTree_fin, asked_answer]
  rfl

theorem exec_readPlan_eq (h : s.Serves l .read) :
    exec (.readPlan l seq t.val) s =
      .next (s.served l 5 seq .ok (.plan (s.engine t).surplusPtr (s.engine t).planForce)) := by
  show live s _ = _
  rw [live_out _ _ h.1.1, State.reqReadPlan, request_serves _ _ _ _ _ h, withTree_fin, asked_answer]
  rfl

theorem exec_readRecord_eq {k : Nat} (h : s.Serves l .read) (hk : (s.record k).state ≠ .vacant) :
    exec (.readRecord l seq k) s = .next (s.served l 12 seq .ok (.record (s.record k) (s.departure k))) := by
  show live s _ = _
  rw [live_out _ _ h.1.1, State.reqReadRecord, request_serves _ _ _ _ _ h, withTag_mem _ _ _ _ (record_tag_range hk),
    State.needRecord, asked_record, if_neg hk, asked_answer]
  rfl

theorem exec_findSerial_eq {serial : Serial} (h : s.Serves l .read) :
    exec (.findSerial l seq serial) s =
      .next (match s.lookup serial with
        | some k => s.served l 13 seq .ok (.found k (s.record k).tree (s.record k).state)
        | none => s.served l 13 seq .noRecord .none) := by
  show live s _ = _
  rw [live_out _ _ h.1.1, State.reqFindSerial, request_serves _ _ _ _ _ h, State.serveFind, asked_lookup]
  cases s.lookup serial with
  | none => exact congrArg _ (asked_answer ..)
  | some k => exact congrArg _ (asked_answer ..)

theorem exec_readProfile_eq {n : Nat} (h : s.Serves l .read) (hn : n < 16) :
    exec (.readProfile l seq n) s = .next (s.served l 14 seq .ok (.loads (s.profile n) s.loadViews)) := by
  show live s _ = _
  rw [live_out _ _ h.1.1, State.reqReadProfile, request_serves _ _ _ _ _ h, State.withProfile, if_pos hn, asked_answer]
  rfl

end

/-! ### ENABLE_TREE, DISABLE_TREE and RESUME_TREE -/

theorem enablePending_iff (e : Engine) : e.enablePending = true ↔ e.enableWaiters ≠ [] := by simp [Engine.enablePending]

theorem disablePending_iff (e : Engine) : e.disablePending = true ↔ e.disableWaiters ≠ [] := by
  simp [Engine.disablePending]

theorem serveResume_asked (s : State) (l : LinkId) (seq : Nat) (t : Tree) :
    (s.asked l (.resumeTree l seq t.val)).serveResume l t =
      if (s.engine t).state ≠ .cut then s.served l 27 seq .state .none
      else if (s.engine t).resumePending then s.served l 27 seq .ok .none
      else if (s.engine t).cutInAsserted then s.served l 27 seq .cutActive .none
      else if (s.engine t).light.level then s.served l 27 seq .lightPresent .none
      else (s.served l 27 seq .ok .none).modEngine t fun e => { e with resumePending := true } := by
  have pending (f : Engine → Engine) :
      ((s.asked l (.resumeTree l seq t.val)).modEngine t f).answer l .ok .none =
        ((s.asked l (.resumeTree l seq t.val)).answer l .ok .none).modEngine t f := rfl
  simp only [State.serveResume, asked_engine, pending, asked_answer]
  rfl

/-- Settles O18: each request by the state of its tree, on the equation of its step. -/
theorem enableDisableAndResumeWaitOrAreRefused : Obligations.EnableDisableAndResumeWaitOrAreRefused := by
  refine ⟨fun l seq t s h => ⟨fun hd => ?_, fun hd => ?_⟩, fun l seq t s h => ⟨fun hd => ?_, fun hd => ?_⟩,
    fun l seq t s h => ⟨fun hc => ?_, fun hc hr => ?_, fun hc hr hi => ?_, fun hc hr hi hl => ?_, fun hc hr hi hl => ?_⟩⟩
  · rw [exec_enableTree_eq h, State.serveEnable, asked_engine, if_pos hd]
  · rw [exec_enableTree_eq h, State.serveEnable, asked_engine, if_neg hd, asked_answer]
    rfl
  · rw [exec_disableTree_eq h, State.serveDisable, asked_engine, if_neg hd]
  · rw [exec_disableTree_eq h, State.serveDisable, asked_engine, if_pos hd, asked_answer]
    rfl
  · rw [exec_resumeTree_eq h, serveResume_asked, if_pos hc]
  all_goals rw [exec_resumeTree_eq h, serveResume_asked, if_neg (not_not_intro hc)]; simp [*]

/-! ### SET_TREE -/

theorem named_eq_valueAfter (lo hi : Nat) (value : Option Nat) (before : Nat) (h : lo ≤ hi) :
    named lo hi value before = valueAfter lo hi value before := by
  cases value with
  | none => rfl
  | some n =>
    simp only [named, clamp, valueAfter, Option.map_some, Option.getD_some]
    split
    · omega
    · split <;> omega

/-- A named value was outside its range exactly where another value was written (R8, R53). -/
theorem outside_iff_changed (lo hi : Nat) (value : Option Nat) (before : Nat) :
    outside lo hi value = true ↔ ∃ n, value = some n ∧ valueAfter lo hi value before ≠ n := by
  cases value with
  | none => simp [outside]
  | some n =>
    simp only [outside, valueAfter, Option.map_some, Option.getD_some, Bool.or_eq_true, decide_eq_true_eq,
      Option.some.injEq, exists_eq_left']
    split
    · omega
    · split <;> omega

theorem twoValued_eq_none_iff (value : Option Nat) (before : Bool) :
    twoValued value before = none ↔ ∃ n, value = some n ∧ 2 ≤ n := by
  match value with
  | none => simp [twoValued]
  | some 0 => simp [twoValued]
  | some 1 => simp [twoValued]
  | some (n + 2) => simp [twoValued]

theorem twoValued_eq_some (value : Option Nat) (before : Bool) (h : ∀ n, value = some n → n ≤ 1) :
    twoValued value before = some ((value.map fun n => n == 1).getD before) := by
  match value with
  | none => rfl
  | some 0 => rfl
  | some 1 => rfl
  | some (n + 2) => have := h (n + 2) rfl; omega

theorem ofBit_bit (c : CutPolarity) : CutPolarity.ofBit c.bit = c := by cases c <;> rfl

theorem ofBit_cutPol (value : Option Nat) (before : CutPolarity) :
    CutPolarity.ofBit ((value.map fun n => n == 1).getD before.bit) =
      (value.map fun n => if n = 1 then CutPolarity.lowWhenCut else .highWhenCut).getD before := by
  cases value with
  | none => exact ofBit_bit before
  | some n =>
    by_cases h : n = 1
    · simp [h, CutPolarity.ofBit]
    · simp [h, CutPolarity.ofBit, beq_eq_false_iff_ne.mpr h]

theorem emptySelection_iff (v : TreeValues) : emptySelection v.toList = true ↔ v = {} := by
  cases v
  simp [emptySelection, TreeValues.toList]

theorem params_set_eq_none_iff (p : TreeParams) (v : TreeValues) :
    p.set v = none ↔ (∃ n, v.autoHunt = some n ∧ 2 ≤ n) ∨ ∃ n, v.cutPol = some n ∧ 2 ≤ n := by
  rw [← twoValued_eq_none_iff v.autoHunt p.autoHunt, ← twoValued_eq_none_iff v.cutPol p.cutPol.bit, TreeParams.set]
  cases twoValued v.autoHunt p.autoHunt <;> cases twoValued v.cutPol p.cutPol.bit <;> simp

/-- The parameter set a SET_TREE leaves, each named value moved to the nearer limit of its range (R8). -/
def paramsAfter (q : TreeParams) (v : TreeValues) : TreeParams where
  tTarget := valueAfter 50000 262143 v.tTarget q.tTarget
  z := valueAfter 1000 50000 v.z q.z
  g := valueAfter 4 32 v.g q.g
  p := valueAfter 2 16 v.p q.p
  k := valueAfter 0 6000 v.k q.k
  d := valueAfter 4 64 v.d q.d
  wr := valueAfter 64 512 v.wr q.wr
  wd := valueAfter 32 2000 v.wd q.wd
  driftTol := valueAfter 1 64 v.driftTol q.driftTol
  driftLim := valueAfter 8 256 v.driftLim q.driftLim
  tailTol := valueAfter 1 16 v.tailTol q.tailTol
  strikeLim := valueAfter 1 15 v.strikeLim q.strikeLim
  autoHunt := (v.autoHunt.map fun n => n == 1).getD q.autoHunt
  cutPol := (v.cutPol.map fun n => if n = 1 then .lowWhenCut else .highWhenCut).getD q.cutPol

/-- A value of a SET_TREE was clamped: one of the named values is not the one in force after it (R8). -/
def clampedIn (v : TreeValues) (p : TreeParams) : Prop :=
  ∃ x ∈ [(v.tTarget, p.tTarget), (v.z, p.z), (v.g, p.g), (v.p, p.p), (v.k, p.k), (v.d, p.d), (v.wr, p.wr),
    (v.wd, p.wd), (v.driftTol, p.driftTol), (v.driftLim, p.driftLim), (v.tailTol, p.tailTol),
    (v.strikeLim, p.strikeLim)], ∃ n, x.1 = some n ∧ x.2 ≠ n

theorem params_set_eq_some (q : TreeParams) (v : TreeValues) (ha : ∀ n, v.autoHunt = some n → n ≤ 1)
    (hc : ∀ n, v.cutPol = some n → n ≤ 1) :
    ∃ adjusted, q.set v = some (paramsAfter q v, adjusted) ∧ (adjusted = true ↔ clampedIn v (paramsAfter q v)) := by
  cases e : q.set v with
  | none => simp [TreeParams.set, twoValued_eq_some _ _ ha, twoValued_eq_some _ _ hc] at e
  | some r =>
    rw [TreeParams.set, twoValued_eq_some _ _ ha, twoValued_eq_some _ _ hc] at e
    cases e
    refine ⟨_, congrArg some (Prod.ext ?_ rfl), ?_⟩
    · simp [paramsAfter, ofBit_cutPol, named_eq_valueAfter]
    · simp [clampedIn, paramsAfter, outside_iff_changed 50000 262143 v.tTarget q.tTarget,
        outside_iff_changed 1000 50000 v.z q.z, outside_iff_changed 4 32 v.g q.g, outside_iff_changed 2 16 v.p q.p,
        outside_iff_changed 0 6000 v.k q.k, outside_iff_changed 4 64 v.d q.d, outside_iff_changed 64 512 v.wr q.wr,
        outside_iff_changed 32 2000 v.wd q.wd, outside_iff_changed 1 64 v.driftTol q.driftTol,
        outside_iff_changed 8 256 v.driftLim q.driftLim, outside_iff_changed 1 16 v.tailTol q.tailTol,
        outside_iff_changed 1 15 v.strikeLim q.strikeLim, or_assoc]

theorem writeParams_answer_engine (s : State) (l : LinkId) (t : Tree) (p : TreeParams) (status : Status)
    (data : ResponseData) :
    ((s.writeParams t p).answer l status data).engine t = { s.engine t with params := p } := by
  have engines : ((s.writeParams t p).answer l status data).engine t =
      (s.modEngine t fun e => { e with params := p }).engine t := by
    unfold State.writeParams
    dsimp only
    split <;> rfl
  rw [engines, modEngine_engine_self]

/-- The state of a SET_TREE that writes: its parameters, the interval d, and the report of a change of CUT_IN (R8, R19). -/
theorem writeParams_answer_asked (s : State) (l : LinkId) (seq : Nat) (t : Tree) (v : TreeValues) (p : TreeParams)
    (status : Status) :
    let u := ((s.asked l (.setTree l seq t.val v)).writeParams t p).answer l status (.params p)
    u = { (s.modEngine t fun e => { e with params := p }).modEnrol t fun e => { e with d := p.d } with
      links := s.links.set l.val ((s.link l).served 3 (BitVec.ofNat 8 seq) status (.params p))
      mail := { s.mail with
        cutIns := s.mail.cutIns ++
          if (u.engine t).cutInAsserted = (s.engine t).cutInAsserted then []
          else [⟨t, (u.engine t).cutInAsserted⟩] } } := by
  intro u
  have links : s.links.set l.val ((s.link l).served 3 (BitVec.ofNat 8 seq) status (.params p)) =
      ((s.asked l (.setTree l seq t.val v)).answer l status (.params p)).links := by
    rw [asked_answer]
    rfl
  rw [links, writeParams_answer_engine]
  unfold u State.writeParams
  dsimp only
  by_cases h : (s.engine t).cutInAsserted = { s.engine t with params := p }.cutInAsserted
  · simp [h]
    rfl
  · simp [h, Ne.symm h]
    rfl

/-- Settles O19: the three answers of SET_TREE; where it writes, its parameters are `paramsAfter`. -/
theorem setTreeWritesTheNamedParametersClamped : Obligations.SetTreeWritesTheNamedParametersClamped := by
  refine fun l seq t v s h => ⟨fun hr => ?_, fun hd he => ⟨fun hb => ?_, fun hv ha hc => ?_⟩⟩
  · rw [exec_setTree_eq h, State.serveSetTree, asked_engine,
      if_pos (by simpa [Engine.enablePending] using hr), asked_answer]
    rfl
  · rw [exec_setTree_eq h, State.serveSetTree, asked_engine,
      if_neg (by simp [hd, he, Engine.enablePending])]
    by_cases empty : v = {}
    · rw [if_pos ((emptySelection_iff v).mpr empty), asked_answer]
      rfl
    · rw [if_neg (by rwa [emptySelection_iff]), (params_set_eq_none_iff _ v).mpr (hb.resolve_left empty)]
      exact congrArg _ (asked_answer ..)
  · obtain ⟨adjusted, set, changed⟩ := params_set_eq_some (s.engine t).params v ha hc
    refine ⟨_, paramsAfter (s.engine t).params v, if adjusted then .okAdjusted else .ok, ?_, rfl, ?_, ?_,
      writeParams_answer_asked s l seq t v _ _⟩
    · rw [exec_setTree_eq h, State.serveSetTree, asked_engine,
        if_neg (by simp [hd, he, Engine.enablePending]), if_neg (by rwa [emptySelection_iff]), set]
    · rw [← clampedIn, ← changed]
      cases adjusted <;> simp
    · cases adjusted <;> simp

/-! ### Reads of trees, roster and profiles -/

theorem isDepart_iff (k : Nat) (d : Directive) : d.isDepart k = true ↔ d = .depart k := by
  cases d <;> simp [Directive.isDepart]

theorem mem_engines_iff (s : State) (e : Engine) : e ∈ s.engines.toList ↔ ∃ t : Tree, s.engine t = e := by
  simp only [Vector.mem_toList_iff, Vector.mem_iff_getElem, State.engine]
  exact ⟨fun ⟨i, hi, h⟩ => ⟨⟨i, hi⟩, h⟩, fun ⟨t, h⟩ => ⟨t.val, t.isLt, h⟩⟩

/-- A DEPART for tag `k` is kept or waits in a lane (R62). -/
def State.departWaits (s : State) (k : Nat) : Prop :=
  (∃ x ∈ s.kept, x.entry.dir = .depart k) ∨ ∃ t, ∃ x ∈ (s.engine t).normal, x.dir = .depart k

theorem departure_of_waits {s : State} {k : Nat} (h : s.departWaits k) : s.departure k = .pending := by
  unfold State.departure
  rw [if_pos]
  rcases h with ⟨x, hx, hd⟩ | ⟨t, x, hx, hd⟩
  · simp only [Bool.or_eq_true, List.any_eq_true]
    exact .inl ⟨x, hx, (isDepart_iff ..).mpr hd⟩
  · simp only [Bool.or_eq_true, List.any_eq_true]
    exact .inr ⟨s.engine t, (mem_engines_iff ..).mpr ⟨t, rfl⟩, x, hx, (isDepart_iff ..).mpr hd⟩

theorem departure_of_not_waits {s : State} {k : Nat} (h : ¬ s.departWaits k) :
    s.departure k = ((s.record k).departed.map Departure.carried).getD .none := by
  unfold State.departure
  rw [if_neg]
  · cases (s.record k).departed <;> rfl
  · simp only [Bool.or_eq_true, List.any_eq_true, isDepart_iff, mem_engines_iff]
    rintro (⟨x, hx, hd⟩ | ⟨_, ⟨t, rfl⟩, x, hx, hd⟩)
    · exact h (.inl ⟨x, hx, hd⟩)
    · exact h (.inr ⟨t, x, hx, hd⟩)

/-- Record `k` holds a serial in the lookup (R47). -/
def State.holdsSerial (s : State) (serial : Serial) (k : Nat) : Prop :=
  (s.record k).state.inLookup = true ∧ (s.record k).serial = some serial

theorem mem_holders_iff (s : State) (serial : Serial) (k : Nat) :
    (k ∈ numbersWhere s.records fun _ r => r.state.inLookup && r.serial == some serial) ↔ s.holdsSerial serial k := by
  rw [mem_numbersWhere _ _ _ DropRecord.vacant]
  simp only [Bool.and_eq_true, beq_iff_eq]
  refine ⟨fun h => h.2, fun h => ⟨record_tag_range (s := s) fun hv => ?_, h⟩⟩
  simp [State.holdsSerial, hv, RecState.inLookup] at h

theorem lookup_eq_some {s : State} {serial : Serial} {k : Nat} (h : s.holdsSerial serial k)
    (least : ∀ j, j < k → ¬ s.holdsSerial serial j) : s.lookup serial = some k := by
  refine numbersWhere_head?_eq_some _ _ _ ((mem_holders_iff ..).mpr h) fun j hj => ?_
  by_contra hlt
  exact least j (by omega) ((mem_holders_iff ..).mp hj)

theorem lookup_eq_none {s : State} {serial : Serial} (h : ∀ k, ¬ s.holdsSerial serial k) : s.lookup serial = none := by
  rw [State.lookup, List.head?_eq_none_iff, List.eq_nil_iff_forall_not_mem]
  exact fun k hk => h k ((mem_holders_iff ..).mp hk)

theorem places_toList (v : Vector (Option Place) 4) : v.toList = [v[0], v[1], v[2], v[3]] := by
  apply List.ext_getElem
  · simp
  · intro i h1 h2
    have hi : i < 4 := by simpa using h1
    match i, hi with
    | 0, _ | 1, _ | 2, _ | 3, _ => simp

/-- Settles O58: each read by the equation of its step. -/
theorem readsOfTreesAndRosterChangeNothing : Obligations.ReadsOfTreesAndRosterChangeNothing := by
  refine fun l seq s h => ⟨fun t => ?_, fun t => exec_readPlan_eq h, fun k hk => ?_, fun serial => ⟨?_, ?_⟩,
    fun n hn => exec_readProfile_eq h hn⟩
  · rw [exec_readTree_eq h, State.treeView, places_toList]
    congr 4
    · exact Bool.eq_iff_iff.mpr ((enablePending_iff _).trans decide_eq_true_iff.symm)
    · exact Bool.eq_iff_iff.mpr ((disablePending_iff _).trans decide_eq_true_iff.symm)
  · exact ⟨_, exec_readRecord_eq h hk, departure_of_waits, departure_of_not_waits⟩
  · intro k hk least
    rw [exec_findSerial_eq h, lookup_eq_some hk least]
  · intro hk
    rw [exec_findSerial_eq h, lookup_eq_none hk]

end Sys2Proof.Machine

/-! ## The capacities of the lanes, operation by operation (R14) -/

namespace Sys2Proof.Machine

/-- `State.LanesInv` as a name of its own, so that a rewrite does not look inside it. -/
def State.LanesFit (s : State) : Prop := s.LanesInv

/-! ### Operations that leave the tree engines as they are -/

section
variable (s : State)

@[simp] theorem observe_engines (o : Observation) : (s.observe o).engines = s.engines := by
  obtain ⟨_, _, _, h⟩ := observe_shape s o
  rw [h]

@[simp] theorem changeState_engines (k : Nat) (new : RecState) (byRequest : Bool) :
    (s.changeState k new byRequest).engines = s.engines := by
  obtain ⟨_, _, _, _, _, _, _, h⟩ := changeState_shape s k new byRequest
  rw [h]

@[simp] theorem newRecord_engines (t : Tree) (k : Nat) (state : RecState) (serial : Serial) (profile : Nat)
    (byRequest : Bool) : (s.newRecord t k state serial profile byRequest).engines = s.engines := by
  obtain ⟨_, _, _, _, _, _, _, h⟩ := newRecord_shape s t k state serial profile byRequest
  rw [h]

@[simp] theorem keep_engines (t : Tree) (x : LaneEntry) : (s.keep t x).engines = s.engines := by
  obtain ⟨_, _, h⟩ := keep_shape s t x
  rw [h]

@[simp] theorem evalOver_engines (k : Nat) : (s.evalOver k).engines = s.engines := by
  obtain ⟨_, _, h⟩ := evalOver_shape s k
  rw [h]

end

/-! ### Pieces of state -/

theorem lanesFit_congr {s u : State} (h : u.engines = s.engines) : u.LanesFit ↔ s.LanesFit := by
  have e (t : Tree) : u.engine t = s.engine t := by simp [State.engine, h]
  simp [State.LanesFit, State.LanesInv, e]

theorem State.LanesFit.modEngine_of_fits {s : State} {t : Tree} {f : Engine → Engine} (h : s.LanesFit)
    (urgent : (f (s.engine t)).urgent.length ≤ 8) (normal : (f (s.engine t)).normal.length ≤ 32) :
    (s.modEngine t f).LanesFit := by
  intro x
  rw [modEngine_engine]
  split
  · exact ⟨urgent, normal⟩
  · exact h x

/-- A change of a tree engine that lengthens no lane. -/
@[simp] theorem State.LanesFit.modEngine {s : State} {t : Tree} {f : Engine → Engine} (h : s.LanesFit)
    (urgent : (f (s.engine t)).urgent.length ≤ (s.engine t).urgent.length)
    (normal : (f (s.engine t)).normal.length ≤ (s.engine t).normal.length) : (s.modEngine t f).LanesFit :=
  h.modEngine_of_fits (urgent.trans (h t).1) (normal.trans (h t).2)

section
variable (s : State)
@[simp] theorem modLoad_lanesFit (t : Tree) (f) : (s.modLoad t f).LanesFit ↔ s.LanesFit := .rfl
@[simp] theorem modEnrol_lanesFit (t : Tree) (f) : (s.modEnrol t f).LanesFit ↔ s.LanesFit := .rfl
@[simp] theorem modLight_lanesFit (t : Tree) (f) : (s.modLight t f).LanesFit ↔ s.LanesFit := .rfl
@[simp] theorem modHunt_lanesFit (t : Tree) (f) : (s.modHunt t f).LanesFit ↔ s.LanesFit := .rfl
@[simp] theorem modLink_lanesFit (l : LinkId) (f) : (s.modLink l f).LanesFit ↔ s.LanesFit := .rfl
@[simp] theorem modRecord_lanesFit (k : Nat) (f) : (s.modRecord k f).LanesFit ↔ s.LanesFit := .rfl
@[simp] theorem modRecords_lanesFit (f) : (s.modRecords f).LanesFit ↔ s.LanesFit := .rfl
@[simp] theorem modTracker_lanesFit (k : Nat) (f) : (s.modTracker k f).LanesFit ↔ s.LanesFit := .rfl
@[simp] theorem modTally_lanesFit (k : Nat) (f) : (s.modTally k f).LanesFit ↔ s.LanesFit := .rfl
@[simp] theorem modProfile_lanesFit (n : Nat) (f) : (s.modProfile n f).LanesFit ↔ s.LanesFit := .rfl
@[simp] theorem modMail_lanesFit (f) : (s.modMail f).LanesFit ↔ s.LanesFit := .rfl
@[simp] theorem dropKept_lanesFit (test) : (s.dropKept test).LanesFit ↔ s.LanesFit := .rfl
@[simp] theorem advance_lanesFit (offset : Nat) : (s.advance offset).LanesFit ↔ s.LanesFit := .rfl
@[simp] theorem raise_lanesFit (kind : FlagKind) : (s.raise kind).LanesFit ↔ s.LanesFit := .rfl
@[simp] theorem tellLight_lanesFit (t f b o) : (s.tellLight t f b o).LanesFit ↔ s.LanesFit := .rfl
@[simp] theorem changesKnown_lanesFit (test) : (s.changesKnown test).LanesFit ↔ s.LanesFit := .rfl
@[simp] theorem answer_lanesFit (l st d) : (s.answer l st d).LanesFit ↔ s.LanesFit := .rfl
@[simp] theorem latchAll_lanesFit (kind) : (s.latchAll kind).LanesFit ↔ s.LanesFit := .rfl
@[simp] theorem setHeld_lanesFit (t a b held) : (s.setHeld t a b held).LanesFit ↔ s.LanesFit := .rfl
@[simp] theorem emptyHistory_lanesFit (t) : (s.emptyHistory t).LanesFit ↔ s.LanesFit := .rfl
@[simp] theorem dropStrangers_lanesFit (test) : (s.dropStrangers test).LanesFit ↔ s.LanesFit := .rfl

@[simp] theorem observe_lanesFit (o : Observation) : (s.observe o).LanesFit ↔ s.LanesFit := lanesFit_congr (observe_engines ..)

@[simp] theorem changeState_lanesFit (k new byRequest) : (s.changeState k new byRequest).LanesFit ↔ s.LanesFit := lanesFit_congr (changeState_engines ..)

@[simp] theorem newRecord_lanesFit (t k state serial profile byRequest) :
    (s.newRecord t k state serial profile byRequest).LanesFit ↔ s.LanesFit := lanesFit_congr (newRecord_engines ..)

@[simp] theorem keep_lanesFit (t x) : (s.keep t x).LanesFit ↔ s.LanesFit := lanesFit_congr (keep_engines ..)

@[simp] theorem evalOver_lanesFit (k) : (s.evalOver k).LanesFit ↔ s.LanesFit := lanesFit_congr (evalOver_engines ..)

end

/-- A step repeated over a list keeps the lanes where each one does. -/
theorem State.LanesFit.foldl {α : Type} {f : State → α → State} (hf : ∀ s x, s.LanesFit → (f s x).LanesFit) (l : List α) :
    ∀ {s : State}, s.LanesFit → (l.foldl f s).LanesFit := by
  induction l with
  | nil => exact id
  | cons x rest ih => exact fun h => ih (hf _ x h)

/-! ### Offers: a directive joins a lane only below its capacity -/

section
variable {s : State} {t : Tree}

theorem State.LanesFit.push {x : LaneEntry} (h : s.LanesFit) (room : (s.engine t).laneFull x.dir = false) :
    (s.modEngine t (·.push x)).LanesFit := by
  unfold Engine.laneFull urgentCapacity normalCapacity at room
  have ⟨fitsUrgent, fitsNormal⟩ := h t
  cases hx : x.dir.urgent with
  | true =>
    rw [hx, if_pos rfl, decide_eq_false_iff_not] at room
    exact h.modEngine_of_fits (by simp [push_urgent _ _ hx]; omega) (by simpa [push_urgent _ _ hx] using fitsNormal)
  | false =>
    rw [hx, if_neg Bool.false_ne_true, decide_eq_false_iff_not] at room
    exact h.modEngine_of_fits (by simpa [push_normal _ _ hx] using fitsUrgent) (by simp [push_normal _ _ hx]; omega)

@[simp] theorem State.LanesFit.offerDepart {k : Nat} {origin : Origin} (h : s.LanesFit) :
    (s.offerDepart t k origin).LanesFit := by
  unfold State.offerDepart
  split
  · rename_i accepted
    exact h.push (accepted_room accepted).2.1
  · simpa using h
  · exact h

@[simp] theorem State.LanesFit.suspendFrom {k : Nat} {before : RecState} (h : s.LanesFit) :
    (s.suspendFrom k before).LanesFit := by
  unfold State.suspendFrom
  split <;> simp [h]

@[simp] theorem State.LanesFit.writeRogue {k : Nat} (h : s.LanesFit) : (s.writeRogue t k).LanesFit := by
  unfold State.writeRogue
  split <;> simp [h, List.length_filter_le]

@[simp] theorem admission_lanesFit (s : State) (t : Tree) (k delay : Nat) :
    (s.admission t k delay).LanesFit ↔ s.LanesFit := by
  unfold State.admission
  split <;> simp

@[simp] theorem State.LanesFit.restoreAccepted {k : Nat} (h : s.LanesFit) : (s.restoreAccepted t k).LanesFit := by
  unfold State.restoreAccepted
  split <;> simp [h]

/-- What a producer writes on acceptance: only a RESTORE offers another directive, and only a LASER_SHUT shortens a lane. -/
theorem State.LanesFit.onAccept {x : LaneEntry} (h : s.LanesFit) : (s.onAccept t x).LanesFit := by
  unfold State.onAccept
  split
  case h_1 | h_3 =>
    dsimp only
    split <;> simpa using h
  case h_5 =>
    dsimp only
    split <;> simp [h]
  all_goals simp [h]

theorem State.LanesFit.acceptEntry {x : LaneEntry} (h : s.LanesFit) (room : (s.engine t).laneFull x.dir = false) :
    (s.acceptEntry t x).LanesFit := (h.push room).onAccept

@[simp] theorem State.LanesFit.offer {x : LaneEntry} (h : s.LanesFit) : (s.offer t x).LanesFit := by
  rcases offer_cases s t x with ⟨accepted, e⟩ | ⟨-, e⟩ | ⟨-, e⟩ <;> rw [e]
  · exact h.acceptEntry (accepted_room accepted).2.1
  · simpa using h
  · exact h

@[simp] theorem State.LanesFit.offerRelease (h : s.LanesFit) : (s.offerRelease t).LanesFit := h.offer

end

end Sys2Proof.Machine

namespace Sys2Proof.Machine

/-! ### Hunts started and ended -/

section
variable {s : State} {t : Tree}

@[simp] theorem abandonRanging_engines (s : State) (t : Tree) : (s.abandonRanging t).engines = s.engines := by
  unfold State.abandonRanging
  split
  · split <;> simp
  · rfl

@[simp] theorem abandonRanging_lanesFit (s : State) (t : Tree) : (s.abandonRanging t).LanesFit ↔ s.LanesFit :=
  lanesFit_congr (abandonRanging_engines s t)

@[simp] theorem startHunt_lanesFit (s : State) (t : Tree) : (s.startHunt t).LanesFit ↔ s.LanesFit := by
  simp [State.startHunt]

@[simp] theorem State.LanesFit.endHunt {outcome : HuntOutcome} (h : s.LanesFit) : (s.endHunt t outcome).LanesFit := by
  unfold State.endHunt
  dsimp only
  rw [raise_lanesFit, emptyHistory_lanesFit]
  refine State.LanesFit.modEngine (by simpa using h) ?_ le_rfl
  simp

/-! ### Arrivals -/

@[simp] theorem reportMiss_lanesFit (s : State) (t : Tree) (b : Burst) : (s.reportMiss t b).LanesFit ↔ s.LanesFit := .rfl
@[simp] theorem tellDiscovery_lanesFit (s : State) (t f b) : (s.tellDiscovery t f b).LanesFit ↔ s.LanesFit := .rfl
@[simp] theorem tellRanging_lanesFit (s : State) (t f k b) : (s.tellRanging t f k b).LanesFit ↔ s.LanesFit := .rfl
@[simp] theorem unsolicited_lanesFit (s : State) (t f o b) : (s.unsolicited t f o b).LanesFit ↔ s.LanesFit := .rfl

@[simp] theorem State.LanesFit.modAwaited {frame : FrameNo} {f : Awaited → Awaited} (h : s.LanesFit) :
    (s.modAwaited t frame f).LanesFit := by simp [State.modAwaited, h]

@[simp] theorem validBurst_engines (s : State) (t frame offset b user backlog payload) :
    (s.validBurst t frame offset b user backlog payload).engines = s.engines := by
  unfold State.validBurst
  dsimp only
  split <;> rfl

@[simp] theorem slotOutcome_lanesFit (s : State) (t frame offset b h payload) :
    (s.slotOutcome t frame offset b h payload).LanesFit ↔ s.LanesFit := by
  unfold State.slotOutcome
  split
  · simp
  · split
    · exact lanesFit_congr (validBurst_engines ..)
    · simp

@[simp] theorem State.LanesFit.rangingCapture {a offset tag expected judged} (h : s.LanesFit) :
    (s.rangingCapture t a offset tag expected judged).LanesFit := by
  unfold State.rangingCapture
  dsimp only
  split
  · exact h
  · split
    · simp [h]
    · split <;> simp [h]

@[simp] theorem State.LanesFit.discoveryCapture {frame offset judged} (h : s.LanesFit) :
    (s.discoveryCapture t frame offset judged).LanesFit := by
  unfold State.discoveryCapture
  dsimp only
  split
  · simp [h]
  · simp [h]
  · split <;> simp [h]

/-- A capture resolved by its header: the list of awaited plans, announces and reports, but no lane. -/
@[simp] theorem State.LanesFit.resolve {frame offset judged payload} (h : s.LanesFit) :
    (s.resolve t frame offset judged payload).LanesFit := by
  unfold State.resolve
  split
  · simp [h]
  · split
    · split <;> simp [h]
    · split <;> simp [h]

theorem State.LanesFit.cutReception {r : Reception} (h : s.LanesFit) : (s.cutReception t r).LanesFit := by
  unfold State.cutReception
  split
  · dsimp only
    split <;> simp [h]
  · simp [h]

theorem State.LanesFit.capture {phase : Fin 8} (h : s.LanesFit) : (s.capture t phase).LanesFit := by
  unfold State.capture
  exact (State.LanesFit.foldl (fun _ _ hx => hx.cutReception) _ (h.modEngine le_rfl le_rfl)).modEngine le_rfl le_rfl

/-- The engine without a reception taken from it. -/
theorem takeReception_lanes {e e' : Engine} {test : Reception → Bool} {r : Reception}
    (h : e.takeReception test = some (r, e')) : e'.urgent = e.urgent ∧ e'.normal = e.normal := by
  unfold Engine.takeReception at h
  obtain ⟨x, -, hx⟩ := Option.map_eq_some_iff.mp h
  cases hx
  exact ⟨rfl, rfl⟩

theorem State.LanesFit.withoutReception {e : Engine} {test : Reception → Bool} {r : Reception} (h : s.LanesFit)
    (taken : (s.engine t).takeReception test = some (r, e)) : (s.modEngine t fun _ => e).LanesFit := by
  obtain ⟨urgent, normal⟩ := takeReception_lanes taken
  exact h.modEngine (le_of_eq (congrArg _ urgent)) (le_of_eq (congrArg _ normal))

@[simp] theorem settlePlan_lanesFit (s : State) (t : Tree) (a : Awaited) :
    (s.settlePlan t a).LanesFit ↔ s.LanesFit := by
  have misses (l : List Burst) (s : State) : (l.foldl (fun s b => s.reportMiss t b) s).LanesFit ↔ s.LanesFit := by
    induction l generalizing s with
    | nil => rfl
    | cons b rest ih => simp [ih]
  unfold State.settlePlan
  dsimp only
  split <;> simp [misses]

theorem State.LanesFit.leavePlan (h : s.LanesFit) : (s.leavePlan t).LanesFit := by
  unfold State.leavePlan
  split
  · exact h
  · split
    · simp [h]
    · exact h

theorem State.LanesFit.packetArrival {k : Nat} {octets : List Byte} (h : s.LanesFit) :
    (s.packetArrival k octets).LanesFit := by
  unfold State.packetArrival
  dsimp only
  split
  · exact h
  · split <;> simp [h]

/-! ### The grant compiler -/

@[simp] theorem scheduleRanging_lanesFit (s : State) (t k m) : (s.scheduleRanging t k m).LanesFit ↔ s.LanesFit := by
  simp [State.scheduleRanging]

@[simp] theorem State.LanesFit.startCompile {m : FrameNo} (h : s.LanesFit) : (s.startCompile t m).LanesFit := by
  unfold State.startCompile
  dsimp only
  split
  · simp [h]
  · split
    · exact State.LanesFit.modEngine (by simpa using h) le_rfl le_rfl
    · split
      · exact State.LanesFit.modEngine (by simpa using h) le_rfl le_rfl
      · split <;> simp [h]

@[simp] theorem State.LanesFit.readRecord {k : Nat} (h : s.LanesFit) : (s.readRecord t k).LanesFit := by
  simp [State.readRecord, h]

theorem State.LanesFit.readNext (h : s.LanesFit) : (s.readNext t).LanesFit := by
  unfold State.readNext
  split
  · exact h
  · split <;> simp [h]

theorem State.LanesFit.endCompile (h : s.LanesFit) : (s.endCompile t).LanesFit := by
  unfold State.endCompile
  split
  · exact h
  · split <;> simp [h]

theorem State.LanesFit.completeCompile (h : s.LanesFit) : (s.completeCompile t).LanesFit := by
  unfold State.completeCompile
  split
  · exact h
  · exact (State.LanesFit.foldl (fun _ _ hx => hx.readRecord) _ h).endCompile

/-! ### The light watch -/

@[simp] theorem checkTrigger_lanesFit (s : State) (t) : (s.checkTrigger t).LanesFit ↔ s.LanesFit := by
  unfold State.checkTrigger
  split <;> simp

@[simp] theorem historyAt_lanesFit (s : State) (t frame) : (s.historyAt t frame).LanesFit ↔ s.LanesFit := by
  unfold State.historyAt
  split
  · simp
  · split <;> simp

@[simp] theorem markStray_lanesFit (s : State) (t frame) : (s.markStray t frame).LanesFit ↔ s.LanesFit := by
  unfold State.markStray
  split
  · rfl
  · split
    · simp
    · split <;> simp

@[simp] theorem sendStrike_lanesFit (s : State) (t k) : (s.sendStrike t k).LanesFit ↔ s.LanesFit := .rfl

@[simp] theorem strayEvent_lanesFit (s : State) (t frame) : (s.strayEvent t frame).LanesFit ↔ s.LanesFit := by
  simp [State.strayEvent]

@[simp] theorem chargedEvent_lanesFit (s : State) (t kind tag frame) :
    (s.chargedEvent t kind tag frame).LanesFit ↔ s.LanesFit := by
  unfold State.chargedEvent
  split
  · split <;> simp
  · simp

@[simp] theorem lightEvent_lanesFit (s : State) (t attribution frame) :
    (s.lightEvent t attribution frame).LanesFit ↔ s.LanesFit := by
  unfold State.lightEvent
  split <;> simp

@[simp] theorem judge_lanesFit (s : State) (t frame grain present) :
    (s.judge t frame grain present).LanesFit ↔ s.LanesFit := by
  unfold State.judge
  dsimp only
  split
  · rfl
  · split
    · split <;> simp
    · simp

@[simp] theorem takeLight_lanesFit (s : State) (r) : (s.takeLight r).LanesFit ↔ s.LanesFit := by
  unfold State.takeLight
  split <;> simp

theorem State.LanesFit.takeStrike {r : StrikeReport} (h : s.LanesFit) : (s.takeStrike r).LanesFit := by
  unfold State.takeStrike
  dsimp only
  split
  · split <;> simp [h]
  · exact h

/-! ### Pulses, inputs and CUT_IN -/

theorem State.LanesFit.pulse (h : s.LanesFit) : (s.pulse t).LanesFit := by
  unfold State.pulse
  split <;> simp [h]

theorem State.LanesFit.filterInputs {light cutIn : Bool} (h : s.LanesFit) :
    (s.filterInputs t light cutIn).LanesFit := by
  unfold State.filterInputs
  dsimp only
  split <;> simp [h]

theorem State.LanesFit.deliverLight (h : s.LanesFit) : (s.deliverLight t).LanesFit := by
  unfold State.deliverLight
  dsimp only
  split <;> simp [h]

@[simp] theorem observeCut_lanesFit (s : State) (t) : (s.observeCut t).LanesFit ↔ s.LanesFit := .rfl

theorem State.LanesFit.cutAsserted (h : s.LanesFit) : (s.cutAsserted t).LanesFit := by
  unfold State.cutAsserted
  dsimp only
  split
  · exact h
  · split
    · simp [h]
    · split <;> simp [h]
  · simp [h]

theorem takeCutReport_lanesFit {u : State} {asserted : Bool} (h : s.takeCutReport t asserted = some u) :
    u.LanesFit ↔ s.LanesFit := by
  unfold State.takeCutReport at h
  split at h
  · split at h
    · cases h
      simp
    · cases h
  · cases h

/-! ### The delay tracker -/

@[simp] theorem State.LanesFit.suspendByTracker {k : Nat} (h : s.LanesFit) : (s.suspendByTracker k).LanesFit := by
  unfold State.suspendByTracker
  split <;> simp [h]

@[simp] theorem State.LanesFit.correct {k : Nat} {estimate : Int} (h : s.LanesFit) : (s.correct t k estimate).LanesFit := by
  unfold State.correct
  dsimp only
  split <;> simp [h]

@[simp] theorem State.LanesFit.keepSample {k : Nat} {delta : Int} (h : s.LanesFit) : (s.keepSample t k delta).LanesFit := by
  unfold State.keepSample
  dsimp only
  split
  · simp [h]
  · split <;> simp [h]

theorem State.LanesFit.takeSample {r : SampleReport} (h : s.LanesFit) : (s.takeSample r).LanesFit := by
  unfold State.takeSample
  split
  · exact h
  · split
    · exact h
    · split
      · exact h
      · split <;> simp [h]

@[simp] theorem takeChange_lanesFit (s : State) (r) : (s.takeChange r).LanesFit ↔ s.LanesFit := by
  unfold State.takeChange
  split <;> simp

/-! ### Reports -/

theorem State.LanesFit.takeMiss {r : MissReport} (h : s.LanesFit) : (s.takeMiss r).LanesFit := by
  unfold State.takeMiss
  dsimp only
  split
  · split <;> simp [h]
  · exact h

@[simp] theorem takeReport_lanesFit (s : State) (r) : (s.takeReport r).LanesFit ↔ s.LanesFit := by
  unfold State.takeReport
  split <;> simp

@[simp] theorem takeValid_lanesFit (s : State) (r) : (s.takeValid r).LanesFit ↔ s.LanesFit := by
  unfold State.takeValid
  split <;> simp

@[simp] theorem takeDown_lanesFit (s : State) (r) : (s.takeDown r).LanesFit ↔ s.LanesFit := by
  unfold State.takeDown
  split <;> simp [State.modLive]

@[simp] theorem takeDispatch_lanesFit (s : State) (r) : (s.takeDispatch r).LanesFit ↔ s.LanesFit := by
  unfold State.takeDispatch
  split <;> simp [State.modLive]

@[simp] theorem takeUp_lanesFit (s : State) (r) : (s.takeUp r).LanesFit ↔ s.LanesFit := by
  unfold State.takeUp
  split <;> simp [State.modLive]

/-! ### Retries -/

@[simp] theorem takeAllChanges_lanesFit (s : State) : s.takeAllChanges.LanesFit ↔ s.LanesFit := by
  have each (l : List ChangeReport) (s : State) : (l.foldl (fun s r => s.takeChange r) s).LanesFit ↔ s.LanesFit := by
    induction l generalizing s with
    | nil => rfl
    | cons r rest ih => simp [ih]
  simp [State.takeAllChanges, each]

/-- A kept directive is offered again only to a lane with room (R16). -/
theorem State.LanesFit.retryOne {p : Producer} (h : s.LanesFit) : (s.retryOne t p).LanesFit := by
  unfold State.retryOne
  split
  · exact h
  · split
    · exact h
    · dsimp only
      split
      · exact h
      · split
        · exact h
        · rename_i blocked
          rw [not_or, Bool.not_eq_true] at blocked
          exact State.LanesFit.acceptEntry (s := { s with kept := _ }) h blocked.1

theorem State.LanesFit.retry {p : Producer} (h : s.LanesFit) : (s.retry t p).LanesFit := by
  unfold State.retry
  refine State.LanesFit.foldl (fun _ _ hx => hx.retryOne) _ ?_
  split
  · simpa using h
  · exact h

/-! ### The enrolment unit -/

@[simp] theorem enterStranger_engines (s : State) (t frame serial reason delta) :
    (s.enterStranger t frame serial reason delta).engines = s.engines := by
  unfold State.enterStranger
  dsimp only
  split
  · rfl
  · split <;> rfl

@[simp] theorem enterStranger_lanesFit (s : State) (t frame serial reason delta) :
    (s.enterStranger t frame serial reason delta).LanesFit ↔ s.LanesFit := lanesFit_congr (enterStranger_engines ..)

@[simp] theorem State.LanesFit.produceOffer {k serial delay} (h : s.LanesFit) :
    (s.produceOffer t k serial delay).LanesFit := by
  unfold State.produceOffer
  dsimp only
  split
  · exact h
  · simp [h]

@[simp] theorem State.LanesFit.takeAgainst {k serial delay} (h : s.LanesFit) :
    (s.takeAgainst t k serial delay).LanesFit := by simp [State.takeAgainst, h]

@[simp] theorem State.LanesFit.announceKnown {frame k serial delay} (h : s.LanesFit) :
    (s.announceKnown t frame k serial delay).LanesFit := by
  unfold State.announceKnown
  split <;> simp [h]

@[simp] theorem State.LanesFit.announceUnknown {frame serial delta delay} (h : s.LanesFit) :
    (s.announceUnknown t frame serial delta delay).LanesFit := by
  unfold State.announceUnknown
  split
  · split <;> simp [h, State.createRecord]
  all_goals simp [h]

@[simp] theorem State.LanesFit.announcement {frame offset serial stagger} (h : s.LanesFit) :
    (s.announcement t frame offset serial stagger).LanesFit := by
  unfold State.announcement
  dsimp only
  split
  · simp [h]
  · split
    · simp [h]
    · split <;> simp [h]

theorem State.LanesFit.takeDiscovery {frame body} (h : s.LanesFit) : (s.takeDiscovery t frame body).LanesFit := by
  unfold State.takeDiscovery
  split <;> simp [h]

theorem takeDiscoveryMsg_lanesFit {m : DiscoveryMsg} {u : State} (h : s.takeDiscoveryMsg t = some (m, u)) :
    u.LanesFit ↔ s.LanesFit := by
  unfold State.takeDiscoveryMsg at h
  obtain ⟨x, -, hx⟩ := Option.map_eq_some_iff.mp h
  cases hx
  simp

@[simp] theorem endDiscovery_lanesFit (s : State) (t frame) : (s.endDiscovery t frame).LanesFit ↔ s.LanesFit := .rfl

@[simp] theorem State.LanesFit.rangingFailed {k} (h : s.LanesFit) : (s.rangingFailed t k).LanesFit := by
  unfold State.rangingFailed
  dsimp only
  split <;> simp [h]

@[simp] theorem State.LanesFit.rangingAccepted {k delta} (h : s.LanesFit) : (s.rangingAccepted t k delta).LanesFit := by
  unfold State.rangingAccepted
  dsimp only
  split <;> simp [h]

theorem State.LanesFit.takeRanging {m} (h : s.LanesFit) : (s.takeRanging t m).LanesFit := by
  unfold State.takeRanging
  split
  · split
    · split <;> simp [h]
    · simp [h]
    · exact h
  · exact h

/-! ### Verdicts and rounds of a hunt -/

@[simp] theorem State.LanesFit.beginRound {lo m} (h : s.LanesFit) : (s.beginRound t lo m).LanesFit := by
  unfold State.beginRound
  exact State.LanesFit.foldl (fun _ _ hx => hx.offer) _ h

@[simp] theorem State.LanesFit.endUnresolved {test} (h : s.LanesFit) : (s.endUnresolved t test).LanesFit := by
  simp [State.endUnresolved, h]

@[simp] theorem State.LanesFit.endIsolated {k serial test} (h : s.LanesFit) :
    (s.endIsolated t k serial test).LanesFit := h.endHunt.offer.offerRelease

@[simp] theorem State.LanesFit.endCleared {test} (h : s.LanesFit) : (s.endCleared t test).LanesFit := by
  simp [State.endCleared, h]

@[simp] theorem State.LanesFit.countSuspects {lo hi first test} (h : s.LanesFit) :
    (s.countSuspects t lo hi first test).LanesFit := by
  unfold State.countSuspects
  dsimp only
  split
  · simp [h]
  · split <;> split <;> simp [h]

theorem State.LanesFit.takeVerdict {test lit} (h : s.LanesFit) : (s.takeVerdict t test lit).LanesFit := by
  unfold State.takeVerdict
  split
  · exact h
  · unfold State.confirmingVerdict
    split
    · simp [h]
    · split <;> simp [h]
  · unfold State.splitVerdict
    dsimp only
    split <;> simp [h]
  · unfold State.verifyVerdict
    split
    · split <;> simp [h]
    · simp [h]

theorem State.LanesFit.darkEnd {frame} (h : s.LanesFit) : (s.darkEnd t frame).LanesFit := by
  unfold State.darkEnd
  split
  · exact h
  · exact State.LanesFit.takeVerdict (by simpa using h)

end

end Sys2Proof.Machine

/-! ## What a frame boundary leaves as it was

A boundary runs the trees one after the other. `KeepsOutside` says what every part of it keeps, whichever tree it is for,
`SparesTree t` what it leaves of tree `t`, and `RunsFor i` that a part is for tree `i`: it keeps the first, and the second of
every other tree. -/

namespace Sys2Proof.Machine

theorem isRecordOf_iff (s : State) (t : Tree) (k : Nat) :
    s.isRecordOf t k = true ↔ (s.record k).state ≠ .vacant ∧ (s.record k).tree = some t := by
  simp [State.isRecordOf]

theorem treeNo_of_isRecordOf {s : State} {t : Tree} {k : Nat} (h : s.isRecordOf t k = true) :
    (s.record k).treeNo = t := by
  simp [DropRecord.treeNo, ((isRecordOf_iff ..).mp h).2]

/-- A tag is a record of one tree only. -/
theorem isRecordOf_unique {s : State} {t i : Tree} {k : Nat} (h : s.isRecordOf t k = true) (hi : s.isRecordOf i k = true) :
    t = i := (treeNo_of_isRecordOf h).symm.trans (treeNo_of_isRecordOf hi)

/-- The directives that wait in the lanes of a tree. -/
def Engine.waiting (e : Engine) : List LaneEntry := e.urgent ++ e.normal

/-- What no part of a boundary changes or adds to, for any tree: the rest of the part, the directives and requests that wait,
which tag is whose record, and the reports already made to the link unit. -/
structure State.KeepsOutside (s u : State) : Prop where
  rest : u = { s with
    frame := u.frame, stepOffset := u.stepOffset, engines := u.engines, loads := u.loads, enrols := u.enrols
    lights := u.lights, hunts := u.hunts, records := u.records, trackers := u.trackers, kept := u.kept
    links := u.links, mail := u.mail } := by rfl
  urgent : ∀ t, (u.engine t).urgent.Sublist (s.engine t).urgent := by exact fun _ => List.Sublist.refl _
  normal : ∀ t, (u.engine t).normal.Sublist (s.engine t).normal := by exact fun _ => List.Sublist.refl _
  enableWaiters : ∀ t, (u.engine t).enableWaiters ⊆ (s.engine t).enableWaiters := by exact fun _ _ => id
  disableWaiters : ∀ t, (u.engine t).disableWaiters ⊆ (s.engine t).disableWaiters := by exact fun _ _ => id
  isRecordOf : ∀ t k, u.isRecordOf t k = s.isRecordOf t k := by exact fun _ _ => rfl
  kept : ∀ x ∈ u.kept, ∃ y ∈ s.kept, y.tree = x.tree ∧ y.entry = x.entry := by exact fun x hx => ⟨x, hx, rfl, rfl⟩
  attention : s.mail.attention <+: u.mail.attention := by exact List.prefix_rfl

/-- What is left of tree `t` by a part of a boundary that is for another tree. -/
structure State.SparesTree (t : Tree) (s u : State) : Prop where
  frame : u.frame = s.frame := by rfl
  stepOffset : u.stepOffset = s.stepOffset := by rfl
  engine : u.engine t = s.engine t := by rfl
  load : u.load t = s.load t := by rfl
  enrol : u.enrol t = s.enrol t := by rfl
  light : u.light t = s.light t := by rfl
  hunt : u.hunt t = s.hunt t := by rfl
  record : ∀ k, s.isRecordOf t k = true → u.record k = { s.record k with departed := (u.record k).departed } := by
    exact fun _ _ => rfl
  departed : ∀ k, s.isRecordOf t k = true → (∀ i ≠ t, ∀ y ∈ (s.engine i).waiting, y.dir ≠ .depart k) →
    (u.record k).departed = (s.record k).departed := by exact fun _ _ _ => rfl
  tracker : ∀ k, s.isRecordOf t k = true → (s.tracker k).unplaced = 0 → u.tracker k = s.tracker k := by
    exact fun _ _ _ => rfl
  restores : ∀ x ∈ s.kept, x.tree = t → ∀ l, x.entry.origin = .restore l → ∃ y ∈ u.kept, y.tree = t ∧ y.entry = x.entry := by
    exact fun x hx ht _ _ => ⟨x, hx, ht, rfl⟩
  dispatches : u.mail.dispatches.filter (·.tree == t) = s.mail.dispatches.filter (·.tree == t) := by rfl
  downs : u.mail.downs.filter (·.tree == t) = s.mail.downs.filter (·.tree == t) := by rfl

/-- A part of a boundary that is for tree `i`. -/
structure State.RunsFor (i : Tree) (s u : State) : Prop where
  keeps : s.KeepsOutside u
  spares : ∀ t, t ≠ i → s.SparesTree t u

theorem State.KeepsOutside.refl (s : State) : s.KeepsOutside s := {}

theorem State.KeepsOutside.waiting {s u : State} (h : s.KeepsOutside u) (t : Tree) :
    (u.engine t).waiting.Sublist (s.engine t).waiting := (h.urgent t).append (h.normal t)

theorem State.KeepsOutside.trans {s u v : State} (h : s.KeepsOutside u) (h' : u.KeepsOutside v) : s.KeepsOutside v where
  rest := by
    rw [h'.rest, h.rest]
  urgent t := (h'.urgent t).trans (h.urgent t)
  normal t := (h'.normal t).trans (h.normal t)
  enableWaiters t _ hl := h.enableWaiters t (h'.enableWaiters t hl)
  disableWaiters t _ hl := h.disableWaiters t (h'.disableWaiters t hl)
  isRecordOf t k := (h'.isRecordOf t k).trans (h.isRecordOf t k)
  kept x hx := by
    obtain ⟨y, hy, tree, entry⟩ := h'.kept x hx
    obtain ⟨z, hz, tree', entry'⟩ := h.kept y hy
    exact ⟨z, hz, tree'.trans tree, entry'.trans entry⟩
  attention := h.attention.trans h'.attention

theorem State.SparesTree.refl (t : Tree) (s : State) : s.SparesTree t s := {}

theorem State.SparesTree.trans {t : Tree} {s u v : State} (h : s.SparesTree t u) (keeps : s.KeepsOutside u)
    (h' : u.SparesTree t v) : s.SparesTree t v where
  frame := h'.frame.trans h.frame
  stepOffset := h'.stepOffset.trans h.stepOffset
  engine := h'.engine.trans h.engine
  load := h'.load.trans h.load
  enrol := h'.enrol.trans h.enrol
  light := h'.light.trans h.light
  hunt := h'.hunt.trans h.hunt
  record k hk := by
    rw [h'.record k ((keeps.isRecordOf t k).trans hk), h.record k hk]
  departed k hk free := by
    refine (h'.departed k ((keeps.isRecordOf t k).trans hk) fun i hi y hy => ?_).trans (h.departed k hk free)
    exact free i hi y ((keeps.waiting i).subset hy)
  tracker k hk unplaced := by
    have first := h.tracker k hk unplaced
    exact (h'.tracker k ((keeps.isRecordOf t k).trans hk) (by rw [first, unplaced])).trans first
  restores x hx tree l origin := by
    obtain ⟨y, hy, tree', entry⟩ := h.restores x hx tree l origin
    obtain ⟨z, hz, tree'', entry'⟩ := h'.restores y hy tree' l (by rw [entry, origin])
    exact ⟨z, hz, tree'', entry'.trans entry⟩
  dispatches := h'.dispatches.trans h.dispatches
  downs := h'.downs.trans h.downs

theorem State.RunsFor.refl (i : Tree) (s : State) : s.RunsFor i s := ⟨.refl s, fun t _ => .refl t s⟩

theorem State.RunsFor.trans {i : Tree} {s u v : State} (h : s.RunsFor i u) (h' : u.RunsFor i v) : s.RunsFor i v :=
  ⟨h.keeps.trans h'.keeps, fun t ht => (h.spares t ht).trans h.keeps (h'.spares t ht)⟩

/-- A step for a tree repeated over a list. -/
theorem State.RunsFor.foldl {α : Type} {i : Tree} {f : State → α → State} (l : List α) :
    ∀ {s : State}, (∀ x ∈ l, ∀ u, s.RunsFor i u → u.RunsFor i (f u x)) → s.RunsFor i (l.foldl f s) := by
  induction l with
  | nil => exact fun _ => .refl i _
  | cons x rest ih =>
    intro s each
    have first := each x List.mem_cons_self s (.refl i s)
    exact first.trans (ih fun y hy u hu => each y (List.mem_cons_of_mem x hy) u (first.trans hu))

/-! ### Pieces of state changed for one tree -/

section
variable {s : State} {i : Tree}

theorem State.KeepsOutside.modEngine {f : Engine → Engine}
    (urgent : (f (s.engine i)).urgent.Sublist (s.engine i).urgent)
    (normal : (f (s.engine i)).normal.Sublist (s.engine i).normal)
    (enableWaiters : (f (s.engine i)).enableWaiters ⊆ (s.engine i).enableWaiters)
    (disableWaiters : (f (s.engine i)).disableWaiters ⊆ (s.engine i).disableWaiters) :
    s.KeepsOutside (s.modEngine i f) where
  urgent t := by
    rw [modEngine_engine]
    split
    · rename_i h; exact h ▸ urgent
    · exact .refl _
  normal t := by
    rw [modEngine_engine]
    split
    · rename_i h; exact h ▸ normal
    · exact .refl _
  enableWaiters t := by
    rw [modEngine_engine]
    split
    · rename_i h; exact h ▸ enableWaiters
    · exact List.Subset.refl _
  disableWaiters t := by
    rw [modEngine_engine]
    split
    · rename_i h; exact h ▸ disableWaiters
    · exact List.Subset.refl _

theorem State.RunsFor.modEngine {f : Engine → Engine}
    (urgent : (f (s.engine i)).urgent.Sublist (s.engine i).urgent)
    (normal : (f (s.engine i)).normal.Sublist (s.engine i).normal)
    (enableWaiters : (f (s.engine i)).enableWaiters ⊆ (s.engine i).enableWaiters)
    (disableWaiters : (f (s.engine i)).disableWaiters ⊆ (s.engine i).disableWaiters) :
    s.RunsFor i (s.modEngine i f) :=
  ⟨.modEngine urgent normal enableWaiters disableWaiters, fun t ht =>
    { engine := by rw [modEngine_engine, if_neg ht] }⟩

/-- A change of a tree engine outside its lanes and the requests that wait for it. -/
theorem State.RunsFor.modEngine_of_eq {f : Engine → Engine} (urgent : (f (s.engine i)).urgent = (s.engine i).urgent)
    (normal : (f (s.engine i)).normal = (s.engine i).normal)
    (enableWaiters : (f (s.engine i)).enableWaiters = (s.engine i).enableWaiters)
    (disableWaiters : (f (s.engine i)).disableWaiters = (s.engine i).disableWaiters) :
    s.RunsFor i (s.modEngine i f) :=
  .modEngine (urgent ▸ .refl _) (normal ▸ .refl _) (enableWaiters ▸ fun _ => id) (disableWaiters ▸ fun _ => id)

theorem State.RunsFor.modLoad (f : Load → Load) : s.RunsFor i (s.modLoad i f) :=
  ⟨{}, fun t ht => { load := by rw [modLoad_load, if_neg ht] }⟩

theorem State.RunsFor.modEnrol (f : Enrol → Enrol) : s.RunsFor i (s.modEnrol i f) :=
  ⟨{}, fun t ht => { enrol := by rw [modEnrol_enrol, if_neg ht] }⟩

theorem State.RunsFor.modLight (f : LightWatch → LightWatch) : s.RunsFor i (s.modLight i f) :=
  ⟨{}, fun t ht => { light := by rw [modLight_light, if_neg ht] }⟩

theorem State.RunsFor.modHunt (f : Hunt → Hunt) : s.RunsFor i (s.modHunt i f) :=
  ⟨{}, fun t ht => { hunt := by rw [modHunt_hunt, if_neg ht] }⟩

theorem State.RunsFor.answer (l : LinkId) (status : Status) (data : ResponseData) : s.RunsFor i (s.answer l status data) :=
  ⟨{}, fun _ _ => {}⟩

/-- Reports added for the tree, and to the link unit. -/
theorem State.RunsFor.modMail {f : Mail → Mail} (attention : s.mail.attention <+: (f s.mail).attention)
    (dispatches : ∀ t ≠ i, (f s.mail).dispatches.filter (·.tree == t) = s.mail.dispatches.filter (·.tree == t))
    (downs : ∀ t ≠ i, (f s.mail).downs.filter (·.tree == t) = s.mail.downs.filter (·.tree == t)) :
    s.RunsFor i (s.modMail f) :=
  ⟨{ attention := attention }, fun t ht => { dispatches := dispatches t ht, downs := downs t ht }⟩

theorem State.RunsFor.raise (kind : FlagKind) : s.RunsFor i (s.raise kind) :=
  .modMail (List.prefix_append ..) (fun _ _ => rfl) (fun _ _ => rfl)

theorem State.RunsFor.changesKnown (test : Nat → Bool) : s.RunsFor i (s.changesKnown test) :=
  .modMail List.prefix_rfl (fun _ _ => rfl) (fun _ _ => rfl)

/-- A change of the tracker's items of a record of the tree. -/
theorem State.RunsFor.modTracker {k : Nat} (h : s.isRecordOf i k = true) (f : Tracker → Tracker) :
    s.RunsFor i (s.modTracker k f) :=
  ⟨{}, fun t ht =>
    { tracker := fun j hj _ => by
        rw [modTracker_tracker, if_neg]
        rintro ⟨rfl, -⟩
        exact ht (isRecordOf_unique hj h) }⟩

/-- A placement counts down only where a directive is unplaced. -/
theorem State.RunsFor.modTracker_place (k : Nat) (frame : FrameNo) : s.RunsFor i (s.modTracker k (·.place frame)) :=
  ⟨{}, fun t ht =>
    { tracker := fun j _ unplaced => by
        rw [modTracker_tracker]
        split
        · rename_i h
          obtain ⟨rfl, -⟩ := h
          simp [Tracker.place, unplaced]
        · rfl }⟩

theorem isRecordOf_modRecord {k : Nat} {f : DropRecord → DropRecord} (tree : (f (s.record k)).tree = (s.record k).tree)
    (vacant : (f (s.record k)).state = .vacant ↔ (s.record k).state = .vacant) (t : Tree) (j : Nat) :
    (s.modRecord k f).isRecordOf t j = s.isRecordOf t j := by
  rw [Bool.eq_iff_iff, isRecordOf_iff, isRecordOf_iff, modRecord_record]
  split
  · rename_i h
    obtain ⟨rfl, -⟩ := h
    rw [tree, Ne, vacant]
  · rfl

/-- A change of a record of the tree that leaves it one. -/
theorem State.RunsFor.modRecord {k : Nat} {f : DropRecord → DropRecord} (h : s.isRecordOf i k = true)
    (tree : (f (s.record k)).tree = (s.record k).tree)
    (vacant : (f (s.record k)).state = .vacant ↔ (s.record k).state = .vacant) : s.RunsFor i (s.modRecord k f) := by
  have other (t : Tree) (ht : t ≠ i) (j : Nat) (hj : s.isRecordOf t j = true) :
      (s.modRecord k f).record j = s.record j := by
    rw [modRecord_record, if_neg]
    rintro ⟨rfl, -⟩
    exact ht (isRecordOf_unique hj h)
  exact
    ⟨{ isRecordOf := isRecordOf_modRecord tree vacant }, fun t ht =>
      { record := fun j hj => by rw [other t ht j hj]
        departed := fun j hj _ => by rw [other t ht j hj] }⟩

/-- A DEPART that waited in a lane of the tree is placed: it writes the departure of its tag, whosever record that is. -/
theorem State.RunsFor.departs {u : State} {k : Nat} {x : LaneEntry} {frame : FrameNo} (h : s.RunsFor i u)
    (hx : x ∈ (s.engine i).waiting) (dir : x.dir = .depart k) :
    s.RunsFor i (u.modRecord k fun r => { r with departed := some frame }) := by
  have record (j : Nat) : ∃ d, (u.modRecord k fun r => { r with departed := some frame }).record j =
      { u.record j with departed := d } := by
    rw [modRecord_record]
    split
    · rename_i hj
      obtain ⟨rfl, -⟩ := hj
      exact ⟨_, rfl⟩
    · exact ⟨_, rfl⟩
  refine ⟨h.keeps.trans { isRecordOf := isRecordOf_modRecord rfl .rfl }, fun t ht => ?_⟩
  have spared := h.spares t ht
  exact
    { frame := spared.frame, stepOffset := spared.stepOffset, engine := spared.engine, load := spared.load
      enrol := spared.enrol, light := spared.light, hunt := spared.hunt, tracker := spared.tracker
      restores := spared.restores, dispatches := spared.dispatches, downs := spared.downs
      record := fun j hj => by
        obtain ⟨d, hd⟩ := record j
        rw [hd, spared.record j hj]
      departed := fun j hj free => by
        rw [modRecord_record, if_neg]
        · exact spared.departed j hj free
        · rintro ⟨rfl, -⟩
          exact free i ht.symm x hx dir }

theorem State.RunsFor.dropKept {test : Kept → Bool}
    (h : ∀ x ∈ s.kept, x.tree ≠ i → (∃ l, x.entry.origin = .restore l) → test x = false) : s.RunsFor i (s.dropKept test) :=
  ⟨{ kept := fun x hx => ⟨x, List.mem_of_mem_filter hx, rfl, rfl⟩ }, fun t ht =>
    { restores := fun x hx tree l origin =>
        ⟨x, List.mem_filter.mpr ⟨hx, by simp [h x hx (tree ▸ ht) ⟨l, origin⟩]⟩, tree, rfl⟩ }⟩

/-! ### State changes of a record of the tree -/

theorem State.RunsFor.reportChange (k : Nat) (before after : RecState) (byRequest : Bool) :
    s.RunsFor i (s.reportChange k before after byRequest) :=
  .modMail (List.prefix_append ..) (fun _ _ => rfl) (fun _ _ => rfl)

theorem State.RunsFor.leaveActive {k : Nat} {new : RecState} (h : s.isRecordOf i k = true) :
    s.RunsFor i (s.leaveActive k new) := by
  unfold State.leaveActive
  split
  · rw [treeNo_of_isRecordOf h]
    exact .modLoad _
  · exact .refl i s

theorem State.RunsFor.leaveQueue {k : Nat} {new : RecState} (h : s.isRecordOf i k = true) :
    s.RunsFor i (s.leaveQueue k new) := by
  unfold State.leaveQueue
  dsimp only
  rw [treeNo_of_isRecordOf h]
  split
  · split
    · refine (State.RunsFor.modEnrol _).trans (.dropKept fun x _ _ ⟨l, origin⟩ => ?_)
      simp [Kept.isRanged, origin]
    · exact .modEnrol _
  · exact .refl i s

theorem State.RunsFor.leaveSuspended (k : Nat) : s.RunsFor i (s.leaveSuspended k) := by
  unfold State.leaveSuspended
  split
  · refine .dropKept fun x _ _ ⟨l, origin⟩ => ?_
    simp [Kept.isSuspendDepart, origin]
  · exact .refl i s

theorem State.RunsFor.enterState {k : Nat} {new : RecState} (h : s.isRecordOf i k = true) (vacant : new ≠ .vacant)
    (retired : new ≠ .retired) : s.RunsFor i (s.enterState i k new) := by
  unfold State.enterState
  split
  · exact (State.RunsFor.modLoad _).trans (.modTracker (s := s.modLoad i _) h _)
  · exact .modEnrol _
  · exact absurd rfl retired
  · exact absurd rfl vacant
  all_goals exact .refl i s

theorem enter_tree (r : DropRecord) {new : RecState} (h : new ≠ .vacant) : (r.enter new).tree = r.tree := by
  cases new
  case vacant => exact absurd rfl h
  all_goals rfl

theorem enter_state (r : DropRecord) (new : RecState) : (r.enter new).state = new := by cases new <;> rfl

/-- A record of the tree changes its state, but leaves no tag and takes none (R43). -/
theorem State.RunsFor.changeState {k : Nat} {new : RecState} {byRequest : Bool} (h : s.isRecordOf i k = true)
    (vacant : new ≠ .vacant) (retired : new ≠ .retired) : s.RunsFor i (s.changeState k new byRequest) := by
  unfold State.changeState
  dsimp only
  rw [treeNo_of_isRecordOf h]
  split
  · exact .refl i s
  · have left : s.RunsFor i (((s.leaveActive k new).leaveQueue k new).leaveSuspended k) := by
      have active := State.RunsFor.leaveActive (new := new) h
      have queue := active.trans (.leaveQueue (new := new) ((active.keeps.isRecordOf i k).trans h))
      exact queue.trans (.leaveSuspended k)
    have still := (left.keeps.isRecordOf i k).trans h
    have entered := left.trans (.modRecord (f := (·.enter new)) still (enter_tree _ vacant)
      (by rw [enter_state]; exact iff_of_false vacant ((isRecordOf_iff ..).mp still).1))
    exact (entered.trans (.enterState ((entered.keeps.isRecordOf i k).trans h) vacant retired)).trans (.reportChange ..)

end

end Sys2Proof.Machine

/-! ## The end of the frame before a boundary (R12, R26, R62, R76, R91; log entry 5) -/

namespace Sys2Proof.Machine

theorem modEngine_modEngine (s : State) (t : Tree) (f g : Engine → Engine) :
    (s.modEngine t f).modEngine t g = s.modEngine t fun e => g (f e) := by
  simp [State.modEngine, State.engine, Vector.set_set]

theorem modEngine_eq_self {s : State} {t : Tree} {f : Engine → Engine} (h : f (s.engine t) = s.engine t) :
    s.modEngine t f = s := by
  unfold State.modEngine
  rw [h]
  simp [State.engine]

theorem modEngine_congr {s : State} {t : Tree} {f g : Engine → Engine} (h : f (s.engine t) = g (s.engine t)) :
    s.modEngine t f = s.modEngine t g := by
  unfold State.modEngine
  rw [h]

/-! ### Compiles -/

/-- A compile after it has read records of a state, in order (R106). -/
def State.readAll (s : State) (c : Compile) (ks : List Nat) : Compile :=
  ks.foldl (fun c k => c.read k (s.record k) (s.profile (s.record k).profile) (s.tracker k)) c

theorem read_cursor (c : Compile) (k : Nat) (r : DropRecord) (p : Profile) (x : Tracker) :
    (c.read k r p x).cursor = k + 1 := by
  unfold Compile.read
  dsimp only
  split
  · rfl
  · split
    · rfl
    · split <;> rfl

theorem readAll_concat_cursor (s : State) (c : Compile) (ks : List Nat) (k : Nat) :
    (s.readAll c (ks ++ [k])).cursor = k + 1 := by
  simp [State.readAll, read_cursor]

theorem foldl_readRecord {t : Tree} (ks : List Nat) : ∀ {s : State} {c : Compile}, (s.engine t).compile = some c →
    ks.foldl (fun s k => s.readRecord t k) s = s.modEngine t fun e => { e with compile := some (s.readAll c ks) } := by
  induction ks with
  | nil =>
    intro s c h
    refine (modEngine_eq_self ?_).symm
    show { s.engine t with compile := some c } = s.engine t
    rw [← h]
  | cons k rest ih =>
    intro s c h
    have read : s.readRecord t k = s.modEngine t fun e =>
        { e with compile := some (c.read k (s.record k) (s.profile (s.record k).profile) (s.tracker k)) } := by
      refine modEngine_congr ?_
      rw [h, Option.map_some]
    rw [List.foldl_cons, read, ih (congrArg Engine.compile (modEngine_engine_self ..)), modEngine_modEngine]
    rfl

theorem mem_unread_iff (s : State) (t : Tree) (cursor k : Nat) :
    k ∈ s.unread t cursor ↔ cursor ≤ k ∧ s.isRecordOf t k = true := by
  rw [State.unread, mem_numbersWhere _ _ _ DropRecord.vacant, isRecordOf_iff]
  show _ ∧ (decide (cursor ≤ k) && (s.record k).state != .vacant && (s.record k).tree == some t) = true ↔ _
  simp only [Bool.and_eq_true, decide_eq_true_eq, bne_iff_ne, beq_iff_eq]
  exact ⟨fun ⟨_, ⟨a, b⟩, c⟩ => ⟨a, b, c⟩, fun ⟨a, b, c⟩ => ⟨record_tag_range b, ⟨a, b⟩, c⟩⟩

/-- The records are read in ascending order, so that after the last of them none is left (R106). -/
theorem unread_readAll (s : State) (t : Tree) (c : Compile) :
    s.unread t (s.readAll c (s.unread t c.cursor)).cursor = [] := by
  rw [List.eq_nil_iff_forall_not_mem]
  intro j hj
  obtain ⟨late, isRecord⟩ := (mem_unread_iff ..).mp hj
  rcases List.eq_nil_or_concat (s.unread t c.cursor) with none | ⟨init, last, split⟩
  · rw [none] at late
    have : j ∈ s.unread t c.cursor := (mem_unread_iff ..).mpr ⟨late, isRecord⟩
    simp [none] at this
  · rw [split, List.concat_eq_append, readAll_concat_cursor] at late
    have hlast : last ∈ s.unread t c.cursor := by simp [split]
    have hmem : j ∈ s.unread t c.cursor :=
      (mem_unread_iff ..).mpr ⟨((mem_unread_iff ..).mp hlast).1.trans (by omega), isRecord⟩
    have sorted : (s.unread t c.cursor).Pairwise (· < ·) := numbersWhere_sorted ..
    rw [split, List.concat_eq_append, List.pairwise_append] at sorted
    rw [split, List.concat_eq_append, List.mem_append, List.mem_singleton] at hmem
    rcases hmem with early | rfl
    · have := sorted.2.2 j early last (by simp)
      omega
    · omega

/-- A compile in progress ends with its plan in preparation; with none in progress nothing changes (R12, R105). -/
theorem completeCompile_cases (s : State) (t : Tree) :
    ((s.engine t).compile = none ∧ s.completeCompile t = s) ∨
      ((s.engine t).compile ≠ none ∧ ∃ plan ptr, s.completeCompile t = s.modEngine t fun e =>
        { e with planPrep := some plan, surplusPtr := ptr, compile := none }) := by
  unfold State.completeCompile
  cases h : (s.engine t).compile with
  | none => exact .inl ⟨rfl, rfl⟩
  | some c =>
    refine .inr ⟨Option.some_ne_none c, ?_⟩
    dsimp only
    rw [foldl_readRecord _ h]
    unfold State.endCompile
    rw [modEngine_engine_self]
    have empty : (s.modEngine t fun e => { e with compile := some (s.readAll c (s.unread t c.cursor)) }).unread t
        (s.readAll c (s.unread t c.cursor)).cursor = [] := unread_readAll s t c
    simp only [empty, List.isEmpty_nil, if_true, modEngine_modEngine]
    refine ⟨(buildPlan (s.readAll c (s.unread t c.cursor)) (s.engine t).params (s.engine t).surplusPtr).1,
      (buildPlan (s.readAll c (s.unread t c.cursor)) (s.engine t).params (s.engine t).surplusPtr).2, ?_⟩
    exact modEngine_congr rfl

/-! ### What ends with a frame -/

/-- What the end of a frame can change: plans leave the list, compiles end, and plans that leave it are reported. -/
structure State.EndsPlans (s u : State) : Prop where
  rest : u = { s with engines := u.engines, mail := u.mail } := by rfl
  engine : ∀ t, u.engine t = { s.engine t with
    expect := (u.engine t).expect, planPrep := (u.engine t).planPrep, surplusPtr := (u.engine t).surplusPtr
    compile := (u.engine t).compile } := by exact fun _ => rfl
  expect : ∀ t, (u.engine t).expect <:+ (s.engine t).expect := by exact fun _ => List.suffix_rfl
  compile : ∀ t,
    ((u.engine t).compile = (s.engine t).compile ∧ (u.engine t).planPrep = (s.engine t).planPrep ∧
      (u.engine t).surplusPtr = (s.engine t).surplusPtr) ∨
    ((s.engine t).compile ≠ none ∧ (u.engine t).compile = none ∧ (u.engine t).planPrep ≠ none) := by
      exact fun _ => .inl ⟨rfl, rfl, rfl⟩
  attention : u.mail.attention = s.mail.attention := by rfl
  dispatches : u.mail.dispatches = s.mail.dispatches := by rfl
  downs : u.mail.downs = s.mail.downs := by rfl

theorem State.EndsPlans.refl (s : State) : s.EndsPlans s := {}

theorem State.EndsPlans.trans {s u v : State} (h : s.EndsPlans u) (h' : u.EndsPlans v) : s.EndsPlans v where
  rest := by rw [h'.rest, h.rest]
  engine t := by rw [h'.engine t, h.engine t]
  expect t := (h'.expect t).trans (h.expect t)
  compile t := by
    rcases h.compile t, h'.compile t with ⟨⟨a, b, c⟩ | ⟨a, b, c⟩, ⟨a', b', c'⟩ | ⟨a', b', c'⟩⟩
    · exact .inl ⟨a'.trans a, b'.trans b, c'.trans c⟩
    · exact .inr ⟨a ▸ a', b', c'⟩
    · exact .inr ⟨a, a'.trans b, b' ▸ c⟩
    · exact absurd b a'
  attention := h'.attention.trans h.attention
  dispatches := h'.dispatches.trans h.dispatches
  downs := h'.downs.trans h.downs

theorem State.EndsPlans.foldl {α : Type} {f : State → α → State} (each : ∀ (s : State) x, s.EndsPlans (f s x)) (l : List α) :
    ∀ s : State, s.EndsPlans (l.foldl f s) := by
  induction l with
  | nil => exact .refl
  | cons x rest ih => exact fun s => (each s x).trans (ih _)

theorem State.EndsPlans.completeCompile (s : State) (i : Tree) : s.EndsPlans (s.completeCompile i) := by
  rcases completeCompile_cases s i with ⟨-, e⟩ | ⟨inProgress, plan, ptr, e⟩ <;> rw [e]
  · exact .refl s
  · exact
      { engine := fun t => by
          rw [modEngine_engine]
          split
          · rename_i h; rw [h]
          · rfl
        expect := fun t => by
          rw [modEngine_engine]
          split
          · rename_i h; rw [h]
          · exact List.suffix_rfl
        compile := fun t => by
          rw [modEngine_engine]
          split
          · rename_i h; exact .inr ⟨h ▸ inProgress, rfl, Option.some_ne_none _⟩
          · exact .inl ⟨rfl, rfl, rfl⟩ }

/-- The reports of a plan that leaves the list are misses, and the end of its window (R35). -/
theorem State.EndsPlans.settlePlan (s : State) (t : Tree) (a : Awaited) : s.EndsPlans (s.settlePlan t a) := by
  unfold State.settlePlan
  dsimp only
  have misses := State.EndsPlans.foldl (f := fun s b => s.reportMiss t b) (fun _ _ => {})
    (a.plan.entries.filter fun b => !a.arrived.contains b.tag) s
  refine misses.trans ?_
  split <;> exact {}

theorem State.EndsPlans.leavePlan (s : State) (i : Tree) : s.EndsPlans (s.leavePlan i) := by
  unfold State.leavePlan
  split
  · exact .refl s
  · rename_i a rest e
    split
    · refine State.EndsPlans.trans (u := s.modEngine i fun x => { x with expect := rest }) ?_ (.settlePlan ..)
      exact
        { engine := fun t => by
            rw [modEngine_engine]
            split
            · rename_i h; rw [h]
            · rfl
          expect := fun t => by
            rw [modEngine_engine]
            split
            · rename_i h; rw [h, e]; exact List.suffix_cons a rest
            · exact List.suffix_rfl
          compile := fun t => by
            rw [modEngine_engine]
            split
            · rename_i h; rw [h]; exact .inl ⟨rfl, rfl, rfl⟩
            · exact .inl ⟨rfl, rfl, rfl⟩ }
    · exact .refl s

theorem State.EndsPlans.finishTree (s : State) (t : Tree) : s.EndsPlans ((s.completeCompile t).leaveOverdue t) :=
  (State.EndsPlans.completeCompile s t).trans (.foldl (fun s _ => .leavePlan s t) _ _)

theorem nextFrame_engines (s : State) : s.nextFrame.engines = s.engines := rfl

theorem nextFrame_mail (s : State) : s.nextFrame.mail = s.mail := rfl

theorem State.EndsPlans.nextFrame {s u : State} (h : s.EndsPlans u) :
    u.nextFrame = { s with frame := s.frame + 1, stepOffset := 0, engines := u.engines, mail := u.mail } := by
  rw [State.nextFrame, h.rest]

theorem completeCompile_compile (s : State) (t : Tree) : ((s.completeCompile t).engine t).compile = none := by
  rcases completeCompile_cases s t with ⟨h, e⟩ | ⟨-, plan, ptr, e⟩ <;> rw [e]
  · exact h
  · rw [modEngine_engine_self]

theorem State.EndsPlans.compile_none {s u : State} (h : s.EndsPlans u) {t : Tree} (none : (s.engine t).compile = none) :
    (u.engine t).compile = Option.none := by
  rcases h.compile t with ⟨same, -⟩ | ⟨inProgress, -⟩
  · exact same.trans none
  · exact absurd none inProgress

/-- The trees in the order in which a boundary takes them, cut at one of them. -/
theorem trees_split (t : Tree) : ∃ pre post, [0, 1, 2, 3] = pre ++ t :: post ∧ (∀ i ∈ pre, i ≠ t) ∧ ∀ i ∈ post, i ≠ t :=
  match t with
  | 0 => ⟨[], [1, 2, 3], rfl, by decide, by decide⟩
  | 1 => ⟨[0], [2, 3], rfl, by decide, by decide⟩
  | 2 => ⟨[0, 1], [3], rfl, by decide, by decide⟩
  | 3 => ⟨[0, 1, 2], [], rfl, by decide, by decide⟩

/-- The state in which a boundary begins to take the trees: the frame before has ended and the next one begins. -/
@[irreducible] def State.atBoundary (s : State) : State := s.finishFrame.nextFrame

theorem boundary_eq (s : State) : s.boundary = [0, 1, 2, 3].foldl (fun s t => s.boundaryTree t) s.atBoundary := by
  unfold State.atBoundary
  rfl

/-- The end of a frame: the marks whose count is over, then compiles and plans. -/
theorem finishFrame_endsPlans (s : State) : ((s.advance lastStep).ageMarks).EndsPlans s.finishFrame :=
  .foldl (fun s t => .finishTree s t) _ _

theorem finishFrame_compile (s : State) (t : Tree) : (s.finishFrame.engine t).compile = none := by
  obtain ⟨pre, post, trees, -⟩ := trees_split t
  unfold State.finishFrame
  dsimp only
  rw [trees, List.foldl_append, List.foldl_cons]
  refine (State.EndsPlans.foldl (fun s t => .finishTree s t) post _).compile_none ?_
  exact (State.EndsPlans.foldl (fun s _ => .leavePlan s t) _ _).compile_none (completeCompile_compile _ t)

end Sys2Proof.Machine

namespace Sys2Proof.Machine

/-! ### The state in which a boundary takes the trees -/

section
variable (s : State)

theorem atBoundary_engines : s.atBoundary.engines = s.finishFrame.engines := by
  rw [State.atBoundary, nextFrame_engines]

theorem atBoundary_mail : s.atBoundary.mail = s.finishFrame.mail := by
  rw [State.atBoundary, nextFrame_mail]

/-- All that the end of a frame and the beginning of the next change. -/
theorem atBoundary_rest : s.atBoundary = { s with
    frame := s.frame + 1, stepOffset := 0, engines := s.atBoundary.engines, mail := s.atBoundary.mail
    records := s.records.map fun r => { r with offer := r.offer.age s.frame, departed := departedAge r.departed s.frame }
    trackers := s.trackers.map fun x => { x with mark := x.mark.age s.frame } } := by
  rw [atBoundary_engines, atBoundary_mail, State.atBoundary, (finishFrame_endsPlans s).nextFrame]
  rfl

@[simp] theorem atBoundary_frame : s.atBoundary.frame = s.frame + 1 := by rw [atBoundary_rest]
@[simp] theorem atBoundary_stepOffset : s.atBoundary.stepOffset = 0 := by rw [atBoundary_rest]
@[simp] theorem atBoundary_kept : s.atBoundary.kept = s.kept := by rw [atBoundary_rest]
@[simp] theorem atBoundary_load (t : Tree) : s.atBoundary.load t = s.load t := by rw [atBoundary_rest]; rfl
@[simp] theorem atBoundary_enrol (t : Tree) : s.atBoundary.enrol t = s.enrol t := by rw [atBoundary_rest]; rfl
@[simp] theorem atBoundary_light (t : Tree) : s.atBoundary.light t = s.light t := by rw [atBoundary_rest]; rfl
@[simp] theorem atBoundary_hunt (t : Tree) : s.atBoundary.hunt t = s.hunt t := by rw [atBoundary_rest]; rfl
@[simp] theorem atBoundary_link (l : LinkId) : s.atBoundary.link l = s.link l := by rw [atBoundary_rest]; rfl
@[simp] theorem atBoundary_attention : s.atBoundary.mail.attention = s.mail.attention := by
  rw [atBoundary_mail, (finishFrame_endsPlans s).attention]
  rfl
@[simp] theorem atBoundary_dispatches : s.atBoundary.mail.dispatches = s.mail.dispatches := by
  rw [atBoundary_mail, (finishFrame_endsPlans s).dispatches]
  rfl
@[simp] theorem atBoundary_downs : s.atBoundary.mail.downs = s.mail.downs := by
  rw [atBoundary_mail, (finishFrame_endsPlans s).downs]
  rfl

/-- The marks of a record whose count is over have changed (R62, R76). -/
theorem atBoundary_record (k : Nat) : s.atBoundary.record k =
    { s.record k with offer := (s.record k).offer.age s.frame, departed := departedAge (s.record k).departed s.frame } := by
  rw [atBoundary_rest]
  refine (readAt_map s.records k _ _).trans ?_
  split
  · rfl
  · rename_i h
    rw [State.record, readAt_of_not_mem _ _ _ h]
    rfl

theorem atBoundary_tracker (k : Nat) : s.atBoundary.tracker k =
    { s.tracker k with mark := (s.tracker k).mark.age s.frame } := by
  rw [atBoundary_rest]
  refine (readAt_map s.trackers k _ _).trans ?_
  split
  · rfl
  · rename_i h
    rw [State.tracker, readAt_of_not_mem _ _ _ h]
    rfl

/-- No compile is in progress at a boundary (R12). -/
theorem atBoundary_engine (t : Tree) : s.atBoundary.engine t = { s.engine t with
    expect := (s.atBoundary.engine t).expect, planPrep := (s.atBoundary.engine t).planPrep
    surplusPtr := (s.atBoundary.engine t).surplusPtr, compile := none } := by
  have same : s.atBoundary.engine t = s.finishFrame.engine t := by rw [State.engine, atBoundary_engines, State.engine]
  have e := (finishFrame_endsPlans s).engine t
  rw [finishFrame_compile] at e
  rw [same]
  exact e

@[simp] theorem atBoundary_isRecordOf (t : Tree) (k : Nat) : s.atBoundary.isRecordOf t k = s.isRecordOf t k := by
  unfold State.isRecordOf
  rw [atBoundary_record]

theorem keepsOutside_atBoundary : s.KeepsOutside s.atBoundary where
  rest := by rw [atBoundary_rest]
  urgent t := by rw [atBoundary_engine]
  normal t := by rw [atBoundary_engine]
  enableWaiters t := by rw [atBoundary_engine]; exact fun _ => id
  disableWaiters t := by rw [atBoundary_engine]; exact fun _ => id
  isRecordOf t k := atBoundary_isRecordOf s t k
  kept x hx := ⟨x, by simpa using hx, rfl, rfl⟩
  attention := by rw [atBoundary_attention]

end

/-! ### The change of a tree's state -/

section
variable {s : State} {i : Tree}

theorem State.RunsFor.answerAll (ls : List LinkId) (status : Status) : s.RunsFor i (s.answerAll ls status) :=
  .foldl ls fun _ _ _ _ => .answer ..

theorem State.RunsFor.abandonRanging : s.RunsFor i (s.abandonRanging i) := by
  unfold State.abandonRanging
  split
  · split
    · rename_i k _ _ h
      exact .changeState ((isRecordOf_iff ..).mpr ⟨by simp [h.1], h.2⟩) nofun nofun
    · exact .refl i s
  · exact .refl i s

theorem State.RunsFor.enableTree : s.RunsFor i (s.enableTree i) := by
  unfold State.enableTree
  refine State.RunsFor.trans ?_ (.answerAll ..)
  have enabled := ((State.RunsFor.modEngine (s := s) (i := i) (f := fun e =>
    { e with
      state := .running
      enableWaiters := []
      planPrep := some (.emptyPlan s.frame false)
      compile := none
      places := Vector.replicate 4 none }) (.refl _) (.refl _) (List.nil_subset _) (fun _ => id)).trans
    (.modEnrol fun e => { e with count := 0 })).trans (.raise .tree)
  split
  · exact enabled.trans (.modMail List.prefix_rfl (fun _ _ => rfl) fun _ _ => rfl)
  · exact enabled

/-- The records that a disable suspends. -/
def State.servedRecords (s : State) (t : Tree) : List Nat :=
  numbersWhere s.records fun _ r => r.state.served && r.tree == some t

/-- The records of a tree, by their tags. -/
def State.ownedRecords (s : State) (t : Tree) : List Nat :=
  numbersWhere s.records fun _ r => r.state != .vacant && r.tree == some t

theorem mem_ownedRecords_iff (s : State) (t : Tree) (k : Nat) : k ∈ s.ownedRecords t ↔ s.isRecordOf t k = true := by
  rw [State.ownedRecords, mem_numbersWhere _ _ _ DropRecord.vacant]
  refine and_iff_right_of_imp fun h => record_tag_range (s := s) ?_
  exact ((isRecordOf_iff ..).mp h).1

theorem mem_servedRecords_iff (s : State) (t : Tree) (k : Nat) :
    k ∈ s.servedRecords t ↔ s.isRecordOf t k = true ∧ (s.record k).state.served = true := by
  rw [State.servedRecords, mem_numbersWhere _ _ _ DropRecord.vacant, isRecordOf_iff]
  show _ ∧ ((s.record k).state.served && (s.record k).tree == some t) = true ↔ _
  rw [Bool.and_eq_true, beq_iff_eq]
  have notVacant (h : (s.record k).state.served = true) : (s.record k).state ≠ .vacant := by
    intro e
    rw [e] at h
    exact Bool.false_ne_true h
  exact ⟨fun ⟨_, a, b⟩ => ⟨⟨notVacant a, b⟩, a⟩, fun ⟨⟨a, b⟩, c⟩ => ⟨record_tag_range a, c, b⟩⟩

/-- The records of a list are suspended, in order. -/
def State.suspendAll (s : State) (ks : List Nat) : State := ks.foldl (fun s k => s.changeState k .suspended false) s

theorem State.RunsFor.suspendAll {ks : List Nat} (h : ∀ k ∈ ks, s.isRecordOf i k = true) :
    s.RunsFor i (s.suspendAll ks) :=
  .foldl ks fun k hk _ hu => .changeState ((hu.keeps.isRecordOf i k).trans (h k hk)) nofun nofun

/-- The held flags and the outstanding grants of the records of a tree are cleared (R6). -/
def State.clearGrants (s : State) (t : Tree) : State :=
  s.modRecords fun _ r => if r.state ≠ .vacant ∧ r.tree = some t then { r with held := false, outstanding := 0 } else r

theorem clearGrants_record (s : State) (t : Tree) (k : Nat) : (s.clearGrants t).record k =
    if s.isRecordOf t k = true then { s.record k with held := false, outstanding := 0 } else s.record k := by
  rw [State.clearGrants, modRecords_record]
  simp only [isRecordOf_iff]
  by_cases h : 1 ≤ k ∧ k ≤ 256
  · rw [if_pos h]
  · rw [if_neg h, State.record, readAt_of_not_mem _ _ _ h]
    simp [DropRecord.vacant]

theorem State.RunsFor.clearGrants : s.RunsFor i (s.clearGrants i) := by
  have isRecordOf (t : Tree) (k : Nat) : (s.clearGrants i).isRecordOf t k = s.isRecordOf t k := by
    unfold State.isRecordOf
    rw [clearGrants_record]
    split <;> rfl
  have other (t : Tree) (ht : t ≠ i) (k : Nat) (hk : s.isRecordOf t k = true) : (s.clearGrants i).record k = s.record k := by
    rw [clearGrants_record, if_neg]
    exact fun h => ht (isRecordOf_unique hk h)
  exact
    ⟨{ isRecordOf := isRecordOf }, fun t ht =>
      { record := fun k hk => by rw [other t ht k hk]
        departed := fun k hk _ => by rw [other t ht k hk] }⟩

/-- The trackers of a list of records take their reset values. -/
def State.resetTrackers (s : State) (ks : List Nat) : State := ks.foldl (fun s k => s.modTracker k fun _ => .reset) s

theorem State.RunsFor.resetTrackers {ks : List Nat} (h : ∀ k ∈ ks, s.isRecordOf i k = true) :
    s.RunsFor i (s.resetTrackers ks) :=
  .foldl ks fun k hk _ hu => .modTracker ((hu.keeps.isRecordOf i k).trans (h k hk)) _

theorem disableRecords_eq (s : State) (t : Tree) : s.disableRecords t =
    ((((s.suspendAll (s.servedRecords t)).clearGrants t).resetTrackers
        (((s.suspendAll (s.servedRecords t)).clearGrants t).ownedRecords t)).changesKnown
      (((s.suspendAll (s.servedRecords t)).clearGrants t).ownedRecords t).contains).modLoad t fun _ => .reset := rfl

theorem State.RunsFor.disableRecords : s.RunsFor i (s.disableRecords i) := by
  rw [disableRecords_eq]
  have cleared : s.RunsFor i ((s.suspendAll (s.servedRecords i)).clearGrants i) :=
    (State.RunsFor.suspendAll fun k hk => ((mem_servedRecords_iff ..).mp hk).1).trans .clearGrants
  have reset := cleared.trans (.resetTrackers fun k hk => (mem_ownedRecords_iff ..).mp hk)
  exact (reset.trans (.changesKnown _)).trans (.modLoad _)

/-- The blocks of a tree at a disable, but for what its requests and the link unit are told (R6, R63, R90, R129, R147). -/
@[irreducible] def State.disableBlocks (s : State) (t : Tree) : State :=
  let v := (((s.modEngine t (·.atDisable)).dropKept fun x => x.tree == t).disableRecords t).modEnrol t fun e =>
    { e with queue := [], attempt := none }
  (v.modHunt t (·.atDisable v.frame)).modLight t fun _ => .reset

/-- The events of a disable: one for the tree, and one for a hunt that it ends (R196). -/
def State.raiseDisable (s : State) (huntEnds : Bool) : State :=
  if huntEnds then (s.raise .tree).raise .tree else s.raise .tree

theorem disableTree_eq (s : State) (t : Tree) : s.disableTree t =
    (((s.disableBlocks t).raiseDisable ((s.hunt t).state != .idle)).answerAll (s.restoreLinks t) .state).answerAll
      (s.engine t).disableWaiters .ok := by
  unfold State.disableTree State.raiseDisable State.disableBlocks
  rfl

theorem State.RunsFor.disableBlocks : s.RunsFor i (s.disableBlocks i) := by
  have engine : s.RunsFor i (s.modEngine i (·.atDisable)) :=
    .modEngine (List.nil_sublist _) (List.nil_sublist _) (List.nil_subset _) (List.nil_subset _)
  have kept := engine.trans (.dropKept (test := fun x => x.tree == i) fun x _ hx _ => by simpa using hx)
  have ready := (kept.trans .disableRecords).trans (.modEnrol fun e => { e with queue := [], attempt := none })
  unfold State.disableBlocks
  exact (ready.trans (.modHunt _)).trans (.modLight _)

theorem State.RunsFor.raiseDisable (huntEnds : Bool) : s.RunsFor i (s.raiseDisable huntEnds) := by
  unfold State.raiseDisable
  split
  · exact (State.RunsFor.raise _).trans (.raise _)
  · exact .raise _

theorem State.RunsFor.disableTree : s.RunsFor i (s.disableTree i) := by
  rw [disableTree_eq]
  exact ((State.RunsFor.disableBlocks.trans (.raiseDisable _)).trans (.answerAll ..)).trans (.answerAll ..)

theorem State.RunsFor.enterCut : s.RunsFor i (s.enterCut i) :=
  (((State.RunsFor.modEngine_of_eq rfl rfl rfl rfl).trans (.modHunt _)).trans .abandonRanging).trans (.raise .tree)

theorem State.RunsFor.leaveCut : s.RunsFor i (s.leaveCut i) :=
  ((State.RunsFor.modEngine_of_eq rfl rfl rfl rfl).trans (.modLight _)).trans (.raise .tree)

theorem State.RunsFor.changeTree : s.RunsFor i (s.changeTree i).1 := by
  unfold State.changeTree
  dsimp only
  split
  · exact .disableTree
  · split
    · exact .enableTree
    · split
      · exact .enterCut
      · split
        · exact .leaveCut
        · exact .refl i s

/-! ### The run of a tree -/

theorem filter_append_of_none {α : Type} {p : α → Bool} {l l' : List α} (h : ∀ x ∈ l', p x = false) :
    (l ++ l').filter p = l.filter p := by
  rw [List.filter_append, (List.filter_eq_nil_iff (l := l')).mpr (by simpa using h), List.append_nil]

theorem dispatchReports_tree {t : Tree} {x : Plan} {r : DispatchReport} (h : r ∈ s.dispatchReports t x) : r.tree = t := by
  unfold State.dispatchReports at h
  split at h
  · obtain ⟨k, -, rfl⟩ := List.mem_map.mp h
    rfl
  · rcases List.mem_append.mp h with h | h <;> obtain ⟨k, -, rfl⟩ := List.mem_map.mp h <;> rfl

theorem State.RunsFor.dispatch : s.RunsFor i (s.dispatch i) := by
  unfold State.dispatch
  dsimp only
  have planned : s.RunsFor i (s.modEngine i fun e =>
      { e with
        planForce := some (s.planToDispatch i), planPrep := none
        expect := e.expect ++ [⟨s.planToDispatch i, [], false, (s.planToDispatch i).pulseGrains (s.engine i).params⟩] }) :=
    .modEngine_of_eq rfl rfl rfl rfl
  have granted := planned.trans (.foldl (f := fun s b => s.grantEntry i b) (s.planToDispatch i).entries fun b _ u _ => by
    unfold State.grantEntry
    split
    · rename_i h; exact .modRecord h rfl .rfl
    · exact .refl i u)
  refine (granted.trans (.modMail List.prefix_rfl (fun t ht => ?_) fun _ _ => rfl)).trans (.modLight _)
  refine filter_append_of_none fun r hr => ?_
  simp [dispatchReports_tree hr, ht.symm]

/-- A placement reported to its producer, the directive having waited in a lane of the tree when the part began. -/
theorem State.RunsFor.placed {u : State} {x : LaneEntry} (h : s.RunsFor i u) (hx : x ∈ (s.engine i).waiting) :
    s.RunsFor i (u.placed i x) := by
  unfold State.placed
  split
  · rename_i serial k _ _ _
    have counted := h.trans (.modTracker_place k u.frame)
    dsimp only
    split
    · rename_i sends
      exact counted.trans (.modRecord sends.1 rfl .rfl)
    · exact counted
  · exact h.trans (.modTracker_place _ _)
  · rename_i dir
    exact h.departs hx dir
  · exact h.trans (.modHunt _)
  · exact h

theorem State.RunsFor.fillPlace (j : Fin 4) : s.RunsFor i (s.fillPlace i j) := by
  unfold State.fillPlace
  dsimp only
  split
  · split
    · rename_i x rest e
      refine .placed (.modEngine (by rw [e]; exact List.sublist_cons_self x rest) (.refl _) (fun _ => id) fun _ => id) ?_
      simp [Engine.waiting, e]
    · rename_i x rest _ e
      refine .placed (.modEngine (.refl _) (by rw [e]; exact List.sublist_cons_self x rest) (fun _ => id) fun _ => id) ?_
      simp [Engine.waiting, e]
    · exact .modEngine_of_eq rfl rfl rfl rfl
  · exact .refl i s

theorem State.RunsFor.fillPlaces : s.RunsFor i (s.fillPlaces i) := .foldl _ fun j _ _ _ => .fillPlace j

theorem State.RunsFor.sendFrame : s.RunsFor i (s.sendFrame i) := by
  unfold State.sendFrame
  dsimp only
  refine (State.RunsFor.modEngine_of_eq rfl rfl rfl rfl).trans (.modMail List.prefix_rfl (fun _ _ => rfl) fun t ht => ?_)
  refine filter_append_of_none fun r hr => ?_
  obtain ⟨y, -, rfl⟩ := List.mem_map.mp hr
  simp [ht.symm]

theorem State.RunsFor.promotionScan : s.RunsFor i (s.promotionScan i) := by
  unfold State.promotionScan
  split
  · refine (State.RunsFor.modLoad _).trans (.foldl _ fun k hk u hu => ?_)
    unfold State.promote
    split
    · rw [mem_numbersWhere _ _ _ DropRecord.vacant] at hk
      have parked : (s.record k).state = .parked ∧ (s.record k).tree = some i := by
        simpa [State.record] using hk.2
      refine .changeState ((hu.keeps.isRecordOf i k).trans ?_) nofun nofun
      exact (isRecordOf_iff ..).mpr ⟨by simp [parked.1], parked.2⟩
    · exact .refl i u
  · exact .refl i s

theorem rangingDue_isRecordOf {t : Tree} {k : Nat} {m : FrameNo} (h : s.rangingDue t m = some k) :
    s.isRecordOf t k = true := by
  unfold State.rangingDue at h
  split at h
  · cases h
  · split at h
    · rename_i due
      split at h
      · rename_i state
        cases h
        exact (isRecordOf_iff ..).mpr ⟨by simp [state], due.2.2.2.2⟩
      · split at h
        · rename_i state
          cases h
          exact (isRecordOf_iff ..).mpr ⟨by simp [state.1], due.2.2.2.2⟩
        · cases h
    · cases h

theorem State.RunsFor.startCompile (m : FrameNo) : s.RunsFor i (s.startCompile i m) := by
  unfold State.startCompile
  dsimp only
  split
  · exact .modEngine_of_eq rfl rfl rfl rfl
  · split
    · exact (State.RunsFor.modHunt _).trans (.modEngine_of_eq rfl rfl rfl rfl)
    · split
      · exact (State.RunsFor.modEnrol _).trans (.modEngine_of_eq rfl rfl rfl rfl)
      · split
        · rename_i k due
          refine State.RunsFor.trans ?_ (.modEngine_of_eq rfl rfl rfl rfl)
          unfold State.scheduleRanging
          exact (State.RunsFor.changeState (new := .ranging) (rangingDue_isRecordOf due) nofun nofun).trans (.modEnrol _)
        · exact .modEngine_of_eq rfl rfl rfl rfl

/-- The kept directives of a tree fall due (R16). -/
def State.makeDue (s : State) (t : Tree) : State :=
  { s with kept := s.kept.map fun x => if x.tree = t then { x with due := true } else x }

theorem State.RunsFor.makeDue : s.RunsFor i (s.makeDue i) := by
  have same (x : Kept) : (if x.tree = i then { x with due := true } else x).tree = x.tree ∧
      (if x.tree = i then { x with due := true } else x).entry = x.entry := by
    split <;> exact ⟨rfl, rfl⟩
  refine ⟨{ kept := fun x hx => ?_ }, fun t ht => { restores := fun x hx tree l origin => ?_ }⟩
  · obtain ⟨y, hy, rfl⟩ := List.mem_map.mp hx
    exact ⟨y, hy, (same y).1.symm, (same y).2.symm⟩
  · exact ⟨_, List.mem_map_of_mem hx, (same x).1.trans tree, (same x).2⟩

theorem forgetAnnounce_eq (e : Engine) (now : FrameNo) :
    e.forgetAnnounce now = { e with lastAnnounce := (e.forgetAnnounce now).lastAnnounce } := by
  unfold Engine.forgetAnnounce
  split
  · split <;> rfl
  · rfl

/-- The tree run up to the promotion scan. -/
def State.scanned (s : State) (t : Tree) : State := (((s.dispatch t).fillPlaces t).sendFrame t).promotionScan t

/-- The tree run up to its discovery count. -/
def State.counted (s : State) (t : Tree) (enabled : Bool) : State :=
  if enabled then s.scanned t else (s.scanned t).modEnrol t (·.countUp)

theorem runTree_eq (s : State) (t : Tree) (enabled : Bool) : s.runTree t enabled =
    let r := (s.modEngine t (·.forgetAnnounce s.frame)).counted t enabled
    (r.startCompile t (r.frame + 1)).makeDue t := rfl

theorem State.RunsFor.scanned : s.RunsFor i (s.scanned i) :=
  ((State.RunsFor.dispatch.trans .fillPlaces).trans .sendFrame).trans .promotionScan

theorem State.RunsFor.counted (enabled : Bool) : s.RunsFor i (s.counted i enabled) := by
  unfold State.counted
  split
  · exact .scanned
  · exact State.RunsFor.scanned.trans (.modEnrol _)

theorem State.RunsFor.runTree (enabled : Bool) : s.RunsFor i (s.runTree i enabled) := by
  rw [runTree_eq]
  have forgotten : s.RunsFor i (s.modEngine i (·.forgetAnnounce s.frame)) := by
    refine .modEngine_of_eq ?_ ?_ ?_ ?_ <;> rw [forgetAnnounce_eq]
  exact ((forgotten.trans (.counted enabled)).trans (.startCompile _)).trans .makeDue

theorem boundaryTree_eq (s : State) (t : Tree) : s.boundaryTree t =
    if ((s.changeTree t).1.engine t).state = .disabled then (s.changeTree t).1
    else (s.changeTree t).1.runTree t (s.changeTree t).2 := rfl

/-- One tree's turn at a boundary. -/
theorem State.RunsFor.boundaryTree : s.RunsFor i (s.boundaryTree i) := by
  rw [boundaryTree_eq]
  split
  · exact .changeTree
  · exact State.RunsFor.changeTree.trans (.runTree _)

end

/-! ### A boundary seen from one tree -/

theorem boundaryTrees_keep (ts : List Tree) : ∀ s : State, s.KeepsOutside (ts.foldl (fun s t => s.boundaryTree t) s) := by
  induction ts with
  | nil => exact .refl
  | cons t rest ih => exact fun s => (State.RunsFor.boundaryTree (i := t)).keeps.trans (ih _)

theorem boundaryTrees_spare {t : Tree} (ts : List Tree) :
    ∀ s : State, (∀ i ∈ ts, i ≠ t) → s.SparesTree t (ts.foldl (fun s t => s.boundaryTree t) s) := by
  induction ts with
  | nil => exact fun s _ => .refl t s
  | cons i rest ih =>
    intro s h
    have run := State.RunsFor.boundaryTree (s := s) (i := i)
    exact (run.spares t (h i List.mem_cons_self).symm).trans run.keeps (ih _ fun j hj => h j (List.mem_cons_of_mem i hj))

theorem keepsOutside_boundary (s : State) : s.KeepsOutside s.boundary := by
  rw [boundary_eq]
  exact (keepsOutside_atBoundary s).trans (boundaryTrees_keep ..)

/-- The turn of tree `t` stands between those of other trees. -/
theorem boundary_split (s : State) (t : Tree) : ∃ pre post : List Tree, (∀ i ∈ pre, i ≠ t) ∧ (∀ i ∈ post, i ≠ t) ∧
    s.boundary = post.foldl (fun s t => s.boundaryTree t)
      ((pre.foldl (fun s t => s.boundaryTree t) s.atBoundary).boundaryTree t) := by
  obtain ⟨pre, post, trees, before, after⟩ := trees_split t
  exact ⟨pre, post, before, after, by rw [boundary_eq, trees, List.foldl_append, List.foldl_cons]⟩

/-- The turn of tree `t` stands between parts of the boundary that spare it. -/
theorem exists_turn (s : State) (t : Tree) : ∃ v : State, (s.atBoundary.KeepsOutside v ∧ s.atBoundary.SparesTree t v) ∧
    (v.boundaryTree t).KeepsOutside s.boundary ∧ (v.boundaryTree t).SparesTree t s.boundary := by
  obtain ⟨pre, post, before, after, e⟩ := boundary_split s t
  rw [e]
  exact ⟨pre.foldl (fun s t => s.boundaryTree t) s.atBoundary,
    ⟨boundaryTrees_keep .., boundaryTrees_spare _ _ before⟩, boundaryTrees_keep .., boundaryTrees_spare _ _ after⟩

end Sys2Proof.Machine

/-! ## Every step keeps the capacities of the lanes -/

namespace Sys2Proof.Machine

/-- No lane grows at a boundary. -/
theorem State.LanesFit.boundary {s : State} (h : s.LanesFit) : s.boundary.LanesFit := fun t =>
  ⟨((keepsOutside_boundary s).urgent t).length_le.trans (h t).1, ((keepsOutside_boundary s).normal t).length_le.trans (h t).2⟩

theorem resetWith_lanesFit (roles : Vector Role 3) (selected : Vector Bool 3) (freeCount : Nat) (pending : List Instr) :
    (State.resetWith roles selected freeCount pending).LanesFit := by
  unfold State.LanesFit
  intro t
  simp [State.resetWith, State.engine, Engine.reset]

/-! ### Requests: what serves them decides -/

section
variable {s : State} {l : LinkId}

theorem State.LanesFit.transaction {next : State} (h : s.LanesFit) (hn : next.LanesFit) :
    (s.transaction l next).LanesFit := by
  unfold State.transaction
  split
  · exact h
  · split
    · simpa using h
    · exact hn

theorem State.LanesFit.write {r : Request} {serve : State → State} (h : s.LanesFit)
    (served : ∀ {u : State}, u.LanesFit → (serve u).LanesFit) : (s.write l r serve).LanesFit := by
  refine h.transaction ?_
  split
  · simpa using h
  · exact served (by simpa using h)

theorem State.LanesFit.request {i : Instr} {cls : RequestClass} {serve : State → State} (h : s.LanesFit)
    (served : ∀ {u : State}, u.LanesFit → (serve u).LanesFit) : (s.request l i cls serve).LanesFit := by
  refine h.write fun {u} hu => ?_
  unfold State.checkRole
  split
  · exact served hu
  · simpa using hu

theorem State.LanesFit.withTree {tree : Nat} {serve : Tree → State} (h : s.LanesFit)
    (served : ∀ t, (serve t).LanesFit) : (s.withTree l tree serve).LanesFit := by
  unfold State.withTree
  split
  · exact served _
  · simpa using h

theorem State.LanesFit.withTag {tag : Nat} {serve : Nat → State} (h : s.LanesFit)
    (served : ∀ k, (serve k).LanesFit) : (s.withTag l tag serve).LanesFit := by
  unfold State.withTag
  split
  · exact served _
  · simpa using h

theorem State.LanesFit.needRecord {k : Nat} {serve : State} (h : s.LanesFit) (served : serve.LanesFit) :
    (s.needRecord l k serve).LanesFit := by
  unfold State.needRecord
  split
  · simpa using h
  · exact served

theorem State.LanesFit.withProfile {n : Nat} {serve : State} (h : s.LanesFit) (served : serve.LanesFit) :
    (s.withProfile l n serve).LanesFit := by
  unfold State.withProfile
  split
  · exact served
  · simpa using h

/-! ### What serves each request -/

variable {t : Tree} {k : Nat}

theorem State.LanesFit.serveEnable (h : s.LanesFit) : (s.serveEnable l t).LanesFit := by
  unfold State.serveEnable
  split <;> simp [h]

theorem State.LanesFit.serveDisable (h : s.LanesFit) : (s.serveDisable l t).LanesFit := by
  unfold State.serveDisable
  split <;> simp [h]

theorem State.LanesFit.writeParams {p : TreeParams} (h : s.LanesFit) : (s.writeParams t p).LanesFit := by
  unfold State.writeParams
  dsimp only
  split <;> simp [h]

theorem State.LanesFit.serveSetTree {v : TreeValues} (h : s.LanesFit) : (s.serveSetTree l t v).LanesFit := by
  unfold State.serveSetTree
  dsimp only
  split
  · simpa using h
  · split
    · simpa using h
    · split
      · simpa using h
      · simpa using h.writeParams

theorem State.LanesFit.serveResume (h : s.LanesFit) : (s.serveResume l t).LanesFit := by
  unfold State.serveResume
  dsimp only
  split
  · simpa using h
  · split
    · simpa using h
    · split
      · simpa using h
      · split <;> simp [h]

theorem State.LanesFit.serveProvision {serial : Serial} {profile : Nat} (h : s.LanesFit) :
    (s.serveProvision l serial t profile).LanesFit := by
  unfold State.serveProvision
  split
  · simpa using h
  · split <;> simpa [State.provisionRecord] using h

theorem State.LanesFit.serveAssign {profile : Nat} (h : s.LanesFit) : (s.serveAssign l k profile).LanesFit := by
  unfold State.serveAssign State.writeProfileOf
  dsimp only
  split
  · simpa using h
  · split
    · split <;> simpa using h
    · simpa using h
  all_goals simpa using h

theorem State.LanesFit.endRestore (h : s.LanesFit) : (s.endRestore k).LanesFit :=
  State.LanesFit.foldl (fun _ _ hx => by simpa using hx) _ (by simpa using h)

theorem State.LanesFit.serveRetire (h : s.LanesFit) : (s.serveRetire l k).LanesFit := by
  have withdrawn (new : RecState) : (s.withdraw k new).LanesFit := by
    unfold State.withdraw
    dsimp only
    split <;> simp [h.endRestore]
  unfold State.serveRetire
  split
  · simpa using h
  · simpa using withdrawn _

theorem State.LanesFit.serveRerange (h : s.LanesFit) : (s.serveRerange l k).LanesFit := by
  unfold State.serveRerange
  split <;> simpa using h

theorem State.LanesFit.serveRestore (h : s.LanesFit) : (s.serveRestore l k).LanesFit := by
  unfold State.serveRestore
  dsimp only
  split <;> simp [h]

theorem State.LanesFit.serveSetProfile {n : Nat} {v : ProfileValues} (h : s.LanesFit) :
    (s.serveSetProfile l n v).LanesFit := by
  unfold State.serveSetProfile
  split
  · simpa using h
  · dsimp only
    split
    · simpa using h
    · have loads := State.LanesFit.foldl (f := fun u t => u.applyLoad n ((s.profile n).set v).1 t) (fun _ _ hx => hx)
        allTrees h
      rw [answer_lanesFit, State.evalProfile]
      exact State.LanesFit.foldl (fun _ _ hx => by simpa using hx) _ (by simpa using loads)

theorem State.LanesFit.serveFind {serial : Serial} (h : s.LanesFit) : (s.serveFind l serial).LanesFit := by
  unfold State.serveFind
  split <;> simpa using h

theorem State.LanesFit.serveSetEnrolment {mode : Nat} (h : s.LanesFit) : (s.serveSetEnrolment l t mode).LanesFit := by
  unfold State.serveSetEnrolment
  split <;> simpa using h

theorem State.LanesFit.serveDismiss {index : Nat} (h : s.LanesFit) : (s.serveDismiss l index).LanesFit := by
  unfold State.serveDismiss
  split
  · simpa using h
  · split
    · exact h
    · simpa using h

theorem State.LanesFit.serveReadObservation {index : Nat} (h : s.LanesFit) :
    (s.serveReadObservation l index).LanesFit := by
  unfold State.serveReadObservation
  split
  · simpa using h
  · split <;> simpa using h

theorem State.LanesFit.serveClearObservation {index : Nat} (h : s.LanesFit) :
    (s.serveClearObservation l index).LanesFit := by
  unfold State.serveClearObservation
  split
  · simpa using h
  · split
    · exact h
    · simpa using h

theorem State.LanesFit.serveHunt (h : s.LanesFit) : (s.serveHunt l t).LanesFit := by
  unfold State.serveHunt
  split <;> simpa using h

theorem State.LanesFit.serveAbort (h : s.LanesFit) : (s.serveAbort l t).LanesFit := by
  unfold State.serveAbort
  dsimp only
  split <;> simp [h]

theorem State.LanesFit.serveClose (h : s.LanesFit) : (s.serveClose l).LanesFit := by
  have each (u : State) (j : Nat) (hu : u.LanesFit) : (u.closeRecord j).LanesFit := by
    unfold State.closeRecord
    dsimp only
    split <;> simpa using hu
  have closed : s.closeAll.LanesFit := State.LanesFit.foldl each _ h
  unfold State.serveClose
  split
  · simpa using closed
  · simpa using h

theorem State.LanesFit.serveCollect (h : s.LanesFit) : (s.serveCollect l k).LanesFit := by
  have collected : (s.collectSet k).LanesFit := by
    unfold State.collectSet
    dsimp only
    split <;> simpa using h
  unfold State.serveCollect
  dsimp only
  split
  · simpa using h
  · simpa using collected

theorem State.LanesFit.serveMask {mask : MaskValues} (h : s.LanesFit) : (s.serveMask l mask).LanesFit := by
  unfold State.serveMask
  split <;> simpa using h

end

/-! ### Every command -/

/-- Every request, by what serves it. -/
theorem State.LanesFit.requestStep {s : State} (h : s.LanesFit) (i : Instr) : (requestStep i s).LanesFit := by
  cases i with
  | enableTree => exact h.request fun hu => hu.withTree fun _ => hu.serveEnable
  | disableTree => exact h.request fun hu => hu.withTree fun _ => hu.serveDisable
  | setTree => exact h.request fun hu => hu.withTree fun _ => hu.serveSetTree
  | resumeTree => exact h.request fun hu => hu.withTree fun _ => hu.serveResume
  | setEnrolment => exact h.request fun hu => hu.withTree fun _ => hu.serveSetEnrolment
  | hunt => exact h.request fun hu => hu.withTree fun _ => hu.serveHunt
  | abortHunt => exact h.request fun hu => hu.withTree fun _ => hu.serveAbort
  | readTree | readPlan | readEnrolment | readLight | readHunt =>
    exact h.request fun hu => hu.withTree fun _ => hu
  | provision => exact h.request fun hu => hu.withTree fun _ => hu.withProfile hu.serveProvision
  | assignProfile => exact h.request fun hu => hu.withTag fun _ => hu.withProfile (hu.needRecord hu.serveAssign)
  | retire => exact h.request fun hu => hu.withTag fun _ => hu.needRecord hu.serveRetire
  | rerange => exact h.request fun hu => hu.withTag fun _ => hu.needRecord hu.serveRerange
  | restore => exact h.request fun hu => hu.withTag fun _ => hu.needRecord hu.serveRestore
  | collect => exact h.request fun hu => hu.withTag fun _ => hu.needRecord hu.serveCollect
  | readRecord | readTracking | readLive =>
    exact h.request fun hu => hu.withTag fun _ => hu.needRecord hu
  | setProfile => exact h.request fun hu => hu.withProfile hu.serveSetProfile
  | readProfile => exact h.request fun hu => hu.withProfile hu
  | findSerial => exact h.request fun hu => hu.serveFind
  | dismissStranger => exact h.request fun hu => hu.serveDismiss
  | readObservation => exact h.request fun hu => hu.serveReadObservation
  | clearObservation => exact h.request fun hu => hu.serveClearObservation
  | closePeriod => exact h.request fun hu => hu.serveClose
  | setAttentionMask => exact h.request fun hu => hu.serveMask
  | readStranger | readLogStatus | readPeriod | readLinks | clearOverflow | readAttention => exact h.request fun hu => hu
  | _ => exact h

theorem State.LanesFit.writeOctets {s : State} {l : LinkId} {octets : List Byte} (h : s.LanesFit) :
    (s.writeOctets l octets).LanesFit := by
  unfold State.writeOctets
  split
  · exact h.transaction h
  · split
    · exact h.requestStep _
    · split
      · exact h.write fun hu => hu
      · exact h.write fun hu => hu

/-- A step out of reset is its next state, and a held part stays as it is. -/
theorem live_cases {s next u : State} (h : live s next = .next u) : u = s ∨ u = next := by
  unfold live at h
  split at h <;> cases h
  · exact .inl rfl
  · exact .inr rfl

theorem lanesFit_of_live {s next u : State} (e : live s next = .next u) (h : s.LanesFit) (hn : next.LanesFit) :
    u.LanesFit := by
  rcases live_cases e with rfl | rfl
  · exact h
  · exact hn

/-- A request runs as its step. -/
theorem exec_eq_requestStep (i : Instr) (s : State) (h : i.requestSource ≠ none) :
    exec i s = live s (requestStep i s) := by
  cases i with
  | powerOnReset | resetN | release | frameBoundary | compileReadRecord | compileEnd | offerDelivered | settleMarkSettled
  | departureClears | rxResetPulse | inputSample | cutInAssertion | cutInDeassertion | autoHuntTrigger | lockCapture
  | headerReceipt | announcePayloadEnd | planLeavesList | validBurstReport | missReport | delaySample | stateChangeReport
  | lightWatchReport | strike | cleanRun | discoveryReport | discoveryWindowEnd | rangingAttemptReport | darkWindowEnd
  | directiveRetry | downstreamPacketArrival | tallyUpOctets | tallyDownOctets | tallyDispatch | attentionLatch
  | writeDiscarded | readTransaction | disregardedTransaction | malformedRequest => exact absurd rfl h
  | _ => rfl

/-- Every command that is no request. -/
theorem lanesFit_of_exec {s u : State} (i : Instr) (noRequest : i.requestSource = none) (e : exec i s = .next u)
    (h : s.LanesFit) : u.LanesFit := by
  cases i with
  | powerOnReset | resetN =>
    cases e
    exact resetWith_lanesFit (s.links.map (·.role)) (Vector.replicate 3 false) s.freeCount s.pending
  | release straps selected =>
    cases e
    split
    · exact resetWith_lanesFit (straps.map Straps.role) selected s.freeCount s.pending
    · exact h
  | frameBoundary => exact lanesFit_of_live e h h.boundary
  | compileReadRecord => exact lanesFit_of_live e h h.readNext
  | compileEnd => exact lanesFit_of_live e h h.endCompile
  | offerDelivered | settleMarkSettled | departureClears =>
    refine lanesFit_of_live e h ?_
    simpa using h
  | rxResetPulse t offset => exact lanesFit_of_live e h (State.LanesFit.pulse (s := s.advance offset) h)
  | inputSample t sample =>
    exact lanesFit_of_live e h (State.LanesFit.filterInputs (s := s.advance (32 * sample)) h).deliverLight
  | cutInAssertion =>
    refine lanesFit_of_live e h ?_
    split
    · rename_i taken
      exact State.LanesFit.cutAsserted ((takeCutReport_lanesFit taken).mpr h)
    · exact h
  | cutInDeassertion t =>
    refine lanesFit_of_live e h ?_
    cases taken : s.takeCutReport t false with
    | none => exact h
    | some v => exact (takeCutReport_lanesFit taken).mpr h
  | autoHuntTrigger =>
    refine lanesFit_of_live e h ?_
    split
    · exact h
    · dsimp only
      split <;> simpa using h
  | lockCapture t offset =>
    refine lanesFit_of_live e h ?_
    split
    · simpa using h
    · exact State.LanesFit.capture (s := s.advance offset) h
  | headerReceipt =>
    refine lanesFit_of_live e h ?_
    split
    · exact h
    · rename_i taken
      exact (h.withoutReception taken).resolve
  | announcePayloadEnd =>
    refine lanesFit_of_live e h ?_
    split
    · exact h
    · rename_i taken
      simpa using h.withoutReception taken
  | planLeavesList t offset => exact lanesFit_of_live e h (State.LanesFit.leavePlan (s := s.advance offset) h)
  | missReport =>
    refine lanesFit_of_live e h ?_
    split
    · exact h
    · exact State.LanesFit.takeMiss (s := s.modMail _) h
  | delaySample =>
    refine lanesFit_of_live e h ?_
    split
    · exact h
    · exact State.LanesFit.takeSample (s := s.modMail _) h
  | strike =>
    refine lanesFit_of_live e h ?_
    split
    · exact h
    · exact State.LanesFit.takeStrike (s := s.modMail _) h
  | cleanRun =>
    refine lanesFit_of_live e h ?_
    split
    · exact h
    · dsimp only
      split <;> simpa using h
  | validBurstReport | tallyUpOctets | tallyDownOctets | tallyDispatch | stateChangeReport | lightWatchReport
  | attentionLatch =>
    refine lanesFit_of_live e h ?_
    split
    · exact h
    · simpa using h
  | discoveryReport =>
    refine lanesFit_of_live e h ?_
    split
    · exact h
    · rename_i taken
      split
      · exact h
      · exact State.LanesFit.takeDiscovery ((takeDiscoveryMsg_lanesFit taken).mpr h)
  | discoveryWindowEnd =>
    refine lanesFit_of_live e h ?_
    split
    · exact h
    · rename_i taken
      split
      · exact (takeDiscoveryMsg_lanesFit taken).mpr h
      · exact h
  | rangingAttemptReport t =>
    refine lanesFit_of_live e h ?_
    split
    · exact h
    · exact State.LanesFit.takeRanging (s := s.modMail _) h
  | darkWindowEnd t =>
    refine lanesFit_of_live e h ?_
    split
    · exact h
    · exact State.LanesFit.darkEnd (s := s.modMail _) h
  | directiveRetry => exact lanesFit_of_live e h h.retry
  | downstreamPacketArrival => exact lanesFit_of_live e h h.packetArrival
  | writeDiscarded =>
    refine lanesFit_of_live e h (h.transaction ?_)
    split <;> simpa using h
  | readTransaction => exact lanesFit_of_live e h (h.transaction h)
  | disregardedTransaction =>
    refine lanesFit_of_live e h ?_
    split
    · exact h
    · exact h.transaction h
  | malformedRequest => exact lanesFit_of_live e h h.writeOctets
  | _ => cases noRequest

/-- Settles O4: a directive joins a lane only below its capacity, and everything else shortens lanes or leaves them. -/
theorem everyStepKeepsTheLaneCapacities : Obligations.EveryStepKeepsTheLaneCapacities := by
  intro s u h e
  unfold step at e
  split at e
  · cases e
    exact h
  · rename_i c rest _
    have fits : State.LanesFit { s with pending := rest } := h
    by_cases request : c.requestSource = none
    · exact lanesFit_of_exec c request e fits
    · rw [exec_eq_requestStep c _ request] at e
      exact lanesFit_of_live e fits (fits.requestStep c)

end Sys2Proof.Machine

/-! ## What a boundary counts and what it changes (R1, R7) -/

namespace Sys2Proof.Machine

theorem exec_frameBoundary_eq {s : State} (h : s.OutOfReset) : exec .frameBoundary s = .next s.boundary :=
  live_out s _ h

theorem exec_frameBoundary_iff {s u : State} (h : s.OutOfReset) : exec .frameBoundary s = .next u ↔ s.boundary = u := by
  rw [exec_frameBoundary_eq h, Host.Outcome.next.injEq]

theorem exists_other_tree (i : Tree) : ∃ t : Tree, t ≠ i := by
  revert i
  decide

theorem State.RunsFor.frame {i : Tree} {s u : State} (h : s.RunsFor i u) : u.frame = s.frame := by
  obtain ⟨t, ht⟩ := exists_other_tree i
  exact (h.spares t ht).frame

theorem State.RunsFor.stepOffset {i : Tree} {s u : State} (h : s.RunsFor i u) : u.stepOffset = s.stepOffset := by
  obtain ⟨t, ht⟩ := exists_other_tree i
  exact (h.spares t ht).stepOffset

theorem boundary_frame (s : State) : s.boundary.frame = s.frame + 1 := by
  obtain ⟨v, ⟨-, before⟩, -, after⟩ := exists_turn s 0
  rw [after.frame, (State.RunsFor.boundaryTree (i := 0)).frame, before.frame, atBoundary_frame]

theorem boundary_stepOffset (s : State) : s.boundary.stepOffset = 0 := by
  obtain ⟨v, ⟨-, before⟩, -, after⟩ := exists_turn s 0
  rw [after.stepOffset, (State.RunsFor.boundaryTree (i := 0)).stepOffset, before.stepOffset, atBoundary_stepOffset]

theorem frame_succ_toNat (f : FrameNo) : (f + 1).toNat = (f.toNat + 1) % 16777216 := by simp [BitVec.toNat_add]

/-! ### Marks -/

theorem atLeastAfter_iff (k : Nat) (b a : FrameNo) : atLeastAfter k b a = true ↔ (k : Int) ≤ (a - b).toInt := by
  simp [atLeastAfter, frameDist]

theorem offer_age_eq (x : OfferState) (now : FrameNo) : x.age now = match x with
    | .sent f => if 16 ≤ (now - f).toInt then .delivered else .sent f
    | y => y := by
  cases x <;> simp [OfferState.age, atLeastAfter_iff]

theorem mark_age_eq (x : SettleMark) (now : FrameNo) : x.age now = match x with
    | .carried f => if 16 ≤ (now - f).toInt then .settled else .carried f
    | y => y := by
  cases x <;> simp [SettleMark.age, atLeastAfter_iff]

theorem departedAge_eq (x : Option FrameNo) (now : FrameNo) :
    departedAge x now = x.filter fun f => decide ((now - f).toInt < 5) := by
  cases x with
  | none => rfl
  | some f =>
    have late : atLeastAfter 5 f now = true ↔ 5 ≤ (now - f).toInt := atLeastAfter_iff 5 f now
    by_cases h : (now - f).toInt < 5
    · rw [Option.filter_some, if_pos (decide_eq_true h)]
      exact if_neg fun old => absurd (late.mp old) (by omega)
    · rw [Option.filter_some, if_neg (by rwa [decide_eq_true_iff])]
      exact if_pos (late.mpr (by omega))

/-! ### A part with every tree DISABLED -/

theorem finishFrame_of_idle {s : State} (h : ∀ t, (s.engine t).compile = none ∧ (s.engine t).expect = []) :
    s.finishFrame = (s.advance lastStep).ageMarks := by
  have idle (t : Tree) : (((s.advance lastStep).ageMarks.completeCompile t).leaveOverdue t) =
      (s.advance lastStep).ageMarks := by
    have e : (s.advance lastStep).ageMarks.engine t = s.engine t := rfl
    simp [State.completeCompile, State.leaveOverdue, e, h t]
  simp [State.finishFrame, idle]

theorem changeTree_of_disabled {s : State} {t : Tree} (state : (s.engine t).state = .disabled)
    (enable : (s.engine t).enableWaiters = []) (disable : (s.engine t).disableWaiters = []) :
    s.changeTree t = (s, false) := by
  simp [State.changeTree, Engine.enablePending, Engine.disablePending, state, enable, disable]

theorem boundaryTree_of_disabled {s : State} {t : Tree} (state : (s.engine t).state = .disabled)
    (enable : (s.engine t).enableWaiters = []) (disable : (s.engine t).disableWaiters = []) : s.boundaryTree t = s := by
  rw [boundaryTree_eq, changeTree_of_disabled state enable disable, if_pos state]

theorem boundary_of_idle {s : State} (h : ∀ t : Tree, (s.engine t).state = .disabled ∧ (s.engine t).enableWaiters = [] ∧
    (s.engine t).disableWaiters = [] ∧ (s.engine t).compile = none ∧ (s.engine t).expect = []) :
    s.boundary = s.atBoundary ∧ s.atBoundary = (s.advance lastStep).ageMarks.nextFrame := by
  have start : s.atBoundary = (s.advance lastStep).ageMarks.nextFrame := by
    rw [State.atBoundary, finishFrame_of_idle fun t => (h t).2.2.2]
  refine ⟨?_, start⟩
  have turn (t : Tree) : s.atBoundary.boundaryTree t = s.atBoundary := by
    obtain ⟨state, enable, disable, -⟩ := h t
    apply boundaryTree_of_disabled <;> rwa [atBoundary_engine]
  simp [boundary_eq, turn]

/-- Settles O20: a boundary keeps all that `KeepsOutside` names; with every tree DISABLED it only ends marks. -/
theorem theBoundaryCountsFramesInEveryTreeState : Obligations.TheBoundaryCountsFramesInEveryTreeState := by
  refine ⟨fun s h => ⟨s.boundary, exec_frameBoundary_eq h, ?_, boundary_stepOffset s, (keepsOutside_boundary s).rest⟩,
    fun s h idle => ⟨s.boundary, exec_frameBoundary_eq h, ?_, fun k => ?_, fun k => ?_⟩⟩
  · rw [boundary_frame, frame_succ_toNat]
  · rw [(boundary_of_idle idle).1, (boundary_of_idle idle).2]
    rfl
  · rw [(boundary_of_idle idle).1, atBoundary_record, offer_age_eq, departedAge_eq] <;> rfl
  · rw [(boundary_of_idle idle).1, atBoundary_tracker, mark_age_eq] <;> rfl

end Sys2Proof.Machine

/-! ## What a boundary makes of a tree's state (R4 to R7, R165, R168) -/

namespace Sys2Proof.Machine

@[simp] theorem changeState_links (s : State) (k : Nat) (new : RecState) (byRequest : Bool) :
    (s.changeState k new byRequest).links = s.links := by
  obtain ⟨_, _, _, _, _, _, _, h⟩ := changeState_shape s k new byRequest
  rw [h]

theorem engine_congr {s u : State} (h : u.engines = s.engines) (t : Tree) : u.engine t = s.engine t := by
  simp [State.engine, h]

theorem enrol_congr {s u : State} (h : u.enrols = s.enrols) (t : Tree) : u.enrol t = s.enrol t := by
  simp [State.enrol, h]

theorem link_congr {s u : State} (h : u.links = s.links) (l : LinkId) : u.link l = s.link l := by
  simp [State.link, h]

/-- What the run of tree `i` leaves of it after the dispatch: its engine but for lanes, places, frame and the next plan; the
answers of the links; and a discovery count of 0. -/
structure State.WithinRun (i : Tree) (s u : State) : Prop where
  engine : u.engine i = { s.engine i with
    urgent := (u.engine i).urgent, normal := (u.engine i).normal, places := (u.engine i).places
    queue := (u.engine i).queue, down := (u.engine i).down, planPrep := (u.engine i).planPrep
    compile := (u.engine i).compile } := by rfl
  links : u.links = s.links := by rfl
  count : (s.enrol i).count = 0 → (u.enrol i).count = 0 := by exact id

theorem State.WithinRun.refl (i : Tree) (s : State) : s.WithinRun i s := {}

theorem State.WithinRun.trans {i : Tree} {s u v : State} (h : s.WithinRun i u) (h' : u.WithinRun i v) : s.WithinRun i v where
  engine := by rw [h'.engine, h.engine]
  links := h'.links.trans h.links
  count := fun hs => h'.count (h.count hs)

theorem State.WithinRun.foldl {α : Type} {i : Tree} {f : State → α → State} (each : ∀ (s : State) x, s.WithinRun i (f s x))
    (l : List α) : ∀ s : State, s.WithinRun i (l.foldl f s) := by
  induction l with
  | nil => exact .refl i
  | cons x rest ih => exact fun s => (each s x).trans (ih _)

section
variable {s : State} {i : Tree}

theorem State.WithinRun.modEngine {f : Engine → Engine} (h : f (s.engine i) = { s.engine i with
    urgent := (f (s.engine i)).urgent, normal := (f (s.engine i)).normal, places := (f (s.engine i)).places
    queue := (f (s.engine i)).queue, down := (f (s.engine i)).down, planPrep := (f (s.engine i)).planPrep
    compile := (f (s.engine i)).compile }) : s.WithinRun i (s.modEngine i f) where
  engine := by rw [modEngine_engine_self]; exact h

theorem State.WithinRun.modMail (f : Mail → Mail) : s.WithinRun i (s.modMail f) := {}

theorem State.WithinRun.placed (x : LaneEntry) : s.WithinRun i (s.placed i x) := by
  unfold State.placed
  split
  · dsimp only
    split <;> exact {}
  all_goals exact {}

theorem State.WithinRun.fillPlace (j : Fin 4) : s.WithinRun i (s.fillPlace i j) := by
  unfold State.fillPlace
  dsimp only
  split
  · split
    · exact (State.WithinRun.modEngine rfl).trans (.placed _)
    · exact (State.WithinRun.modEngine rfl).trans (.placed _)
    · exact .modEngine rfl
  · exact .refl i s

theorem State.WithinRun.sendFrame : s.WithinRun i (s.sendFrame i) := by
  unfold State.sendFrame
  dsimp only
  exact (State.WithinRun.modEngine rfl).trans (.modMail _)

theorem leaveActive_enrols (s : State) (k : Nat) (new : RecState) : (s.leaveActive k new).enrols = s.enrols := by
  unfold State.leaveActive
  split <;> rfl

/-- An enrolment block but for its ranging queue and attempt. -/
def Enrol.SameMode (e e' : Enrol) : Prop := e' = { e with queue := e'.queue, attempt := e'.attempt }

theorem modEnrol_sameMode {t : Tree} {f : Enrol → Enrol} (h : ∀ e : Enrol, e.SameMode (f e)) :
    (s.enrol i).SameMode ((s.modEnrol t f).enrol i) := by
  rw [modEnrol_enrol]
  split
  · rename_i e; exact e ▸ h _
  · rfl

theorem Enrol.SameMode.trans {e e' e'' : Enrol} (h : e.SameMode e') (h' : e'.SameMode e'') : e.SameMode e'' := by
  unfold Enrol.SameMode at *
  rw [h', h]

theorem Enrol.SameMode.count {e e' : Enrol} (h : e.SameMode e') : e'.count = e.count := by rw [h]

/-- Of the enrolment blocks a state change moves ranging queues and attempts alone (R43, R81). -/
theorem changeState_sameMode (s : State) (k : Nat) (new : RecState) (byRequest : Bool) :
    (s.enrol i).SameMode ((s.changeState k new byRequest).enrol i) := by
  have active : (s.enrol i).SameMode ((s.leaveActive k new).enrol i) := by
    rw [enrol_congr (leaveActive_enrols s k new)]
    rfl
  have queue (u : State) : (u.enrol i).SameMode ((u.leaveQueue k new).enrol i) := by
    unfold State.leaveQueue
    dsimp only
    split
    · refine (modEnrol_sameMode (s := u) (i := i) (t := (u.record k).treeNo) (f := fun e =>
        { e with queue := e.queue.filter (· != k), attempt := if (u.record k).state = .ranging then none else e.attempt })
        fun _ => rfl).trans ?_
      split <;> rfl
    · rfl
  have suspended (u : State) : (u.enrol i).SameMode ((u.leaveSuspended k).enrol i) := by
    unfold State.leaveSuspended
    split <;> rfl
  have entered (u : State) (t : Tree) : (u.enrol i).SameMode ((u.enterState t k new).enrol i) := by
    unfold State.enterState
    split
    case h_2 => exact modEnrol_sameMode fun _ => rfl
    all_goals rfl
  unfold State.changeState
  dsimp only
  split
  · rfl
  · have left := (active.trans (queue _)).trans (suspended _)
    exact left.trans (entered (State.modRecord _ k (·.enter new)) _)

theorem State.WithinRun.changeState (k : Nat) (new : RecState) (byRequest : Bool) :
    s.WithinRun i (s.changeState k new byRequest) where
  engine := by rw [engine_congr (changeState_engines ..)]
  links := changeState_links ..
  count := fun h => (changeState_sameMode s k new byRequest).count.trans h

theorem State.WithinRun.promotionScan : s.WithinRun i (s.promotionScan i) := by
  unfold State.promotionScan
  split
  · refine State.WithinRun.trans (u := s.modLoad i _) {} (.foldl (fun u k => ?_) _ _)
    unfold State.promote
    split
    · exact .changeState ..
    · exact .refl i u
  · exact .refl i s

theorem State.WithinRun.startCompile (m : FrameNo) : s.WithinRun i (s.startCompile i m) := by
  unfold State.startCompile
  dsimp only
  split
  · exact .modEngine rfl
  · split
    · exact State.WithinRun.trans (u := s.modHunt i _) {} (.modEngine rfl)
    · split
      · refine State.WithinRun.trans (u := s.modEnrol i _) ?_ (.modEngine rfl)
        exact { count := fun _ => by rw [modEnrol_enrol, if_pos rfl]; rfl }
      · split
        · rename_i k _
          refine State.WithinRun.trans ?_ (.modEngine rfl)
          refine (State.WithinRun.changeState k .ranging false).trans (v := s.scheduleRanging i k m) ?_
          exact { count := fun h => (modEnrol_sameMode (f := fun e => { e with attempt := some m }) fun _ => rfl).count.trans h }
        · exact .modEngine rfl

end

/-- The payloads of a list of bursts are granted to their records (R122). -/
def State.grantAll (s : State) (t : Tree) (l : List Burst) : State := l.foldl (fun s b => s.grantEntry t b) s

theorem grantAll_shape (t : Tree) (l : List Burst) : ∀ s : State, ∃ records, s.grantAll t l = { s with records := records } := by
  induction l with
  | nil => exact fun s => ⟨s.records, rfl⟩
  | cons b rest ih =>
    intro s
    have first : ∃ records, s.grantEntry t b = { s with records := records } := by
      unfold State.grantEntry
      split
      · exact ⟨_, rfl⟩
      · exact ⟨s.records, rfl⟩
    obtain ⟨records, e⟩ := first
    obtain ⟨records', e'⟩ := ih (s.grantEntry t b)
    exact ⟨records', by rw [State.grantAll, List.foldl_cons, ← State.grantAll, e', e]⟩

/-- The engine of a tree as the plan in preparation is put in force (R11, R18). -/
def Engine.inForce (e : Engine) (x : Plan) : Engine :=
  { e with planForce := some x, planPrep := none, expect := e.expect ++ [⟨x, [], false, x.pulseGrains e.params⟩] }

/-- The state after a dispatch, but for its reports (R11, R122). -/
def State.granted (s : State) (t : Tree) : State :=
  (s.modEngine t (·.inForce (s.planToDispatch t))).grantAll t (s.planToDispatch t).entries

theorem dispatch_eq (s : State) (t : Tree) : s.dispatch t =
    ((s.granted t).modMail fun m =>
      { m with dispatches := m.dispatches ++ (s.granted t).dispatchReports t (s.planToDispatch t) }).modLight t
      (·.enterPlan (tableEntry (s.planToDispatch t) (s.engine t).params)) := by
  have start : (s.modEngine t (·.inForce (s.planToDispatch t))) = s.modEngine t fun e => { e with
      planForce := some (s.planToDispatch t), planPrep := none
      expect := e.expect ++ [⟨s.planToDispatch t, [], false, (s.planToDispatch t).pulseGrains (s.engine t).params⟩] } :=
    modEngine_congr rfl
  rw [State.granted, start]
  rfl

theorem granted_shape (s : State) (t : Tree) : ∃ records, s.granted t =
    { s.modEngine t (·.inForce (s.planToDispatch t)) with records := records } := grantAll_shape ..

theorem dispatch_engine (s : State) (t : Tree) :
    (s.dispatch t).engine t = (s.engine t).inForce (s.planToDispatch t) := by
  obtain ⟨records, e⟩ := granted_shape s t
  rw [dispatch_eq, e]
  exact modEngine_engine_self s t (·.inForce (s.planToDispatch t))

theorem dispatch_links (s : State) (t : Tree) : (s.dispatch t).links = s.links := by
  obtain ⟨records, e⟩ := granted_shape s t
  rw [dispatch_eq, e]
  rfl

theorem dispatch_enrol (s : State) (t x : Tree) : (s.dispatch t).enrol x = s.enrol x := by
  obtain ⟨records, e⟩ := granted_shape s t
  rw [dispatch_eq, e]
  rfl

/-! ### The run of a tree, seen from it -/

section
variable (s : State) (i : Tree)

theorem withinRun_scanned : (s.dispatch i).WithinRun i (s.scanned i) := by
  have placed : (s.dispatch i).WithinRun i ((s.dispatch i).fillPlaces i) := .foldl (fun s j => .fillPlace j) _ _
  exact (placed.trans .sendFrame).trans .promotionScan

theorem makeDue_engine (t : Tree) : (s.makeDue i).engine t = s.engine t := rfl
theorem makeDue_links : (s.makeDue i).links = s.links := rfl

theorem counted_true : s.counted i true = s.scanned i := if_pos rfl

theorem counted_false : s.counted i false = (s.scanned i).modEnrol i (·.countUp) := if_neg nofun

theorem State.WithinRun.makeDue : s.WithinRun i (s.makeDue i) := {}

/-- The rest of the run of a tree that was enabled at this boundary, after its dispatch: no count begins with it. -/
theorem withinRun_enabled : ((s.modEngine i (·.forgetAnnounce s.frame)).dispatch i).WithinRun i (s.runTree i true) := by
  rw [runTree_eq]
  dsimp only
  rw [counted_true]
  exact ((withinRun_scanned ..).trans (.startCompile _)).trans (.makeDue ..)

theorem counted_engine (enabled : Bool) (t : Tree) : (s.counted i enabled).engine t = (s.scanned i).engine t := by
  cases enabled
  · rw [counted_false, modEnrol_engine]
  · rw [counted_true]

theorem counted_links (enabled : Bool) : (s.counted i enabled).links = (s.scanned i).links := by
  cases enabled
  · rw [counted_false, modEnrol_links]
  · rw [counted_true]

/-- What the run of a tree makes of its engine: the plan that was in preparation is in force, and what no run changes
stays. -/
theorem runTree_engine (enabled : Bool) :
    (s.runTree i enabled).engine i = { s.engine i with
      planForce := some (s.planToDispatch i)
      planPrep := ((s.runTree i enabled).engine i).planPrep, compile := ((s.runTree i enabled).engine i).compile
      expect := ((s.runTree i enabled).engine i).expect, urgent := ((s.runTree i enabled).engine i).urgent
      normal := ((s.runTree i enabled).engine i).normal, places := ((s.runTree i enabled).engine i).places
      queue := ((s.runTree i enabled).engine i).queue, down := ((s.runTree i enabled).engine i).down
      lastAnnounce := ((s.runTree i enabled).engine i).lastAnnounce } := by
  let r := s.modEngine i (·.forgetAnnounce s.frame)
  have start : r.planToDispatch i = s.planToDispatch i := by
    unfold State.planToDispatch
    rw [modEngine_engine_self, forgetAnnounce_eq]
    rfl
  have compiled := (State.WithinRun.startCompile (s := r.counted i enabled) (i := i) ((r.counted i enabled).frame + 1)).engine
  have own := (withinRun_scanned r i).engine
  have announce := forgetAnnounce_eq (s.engine i) s.frame
  rw [runTree_eq, makeDue_engine]
  dsimp only
  rw [compiled, counted_engine, own, dispatch_engine, start, modEngine_engine_self, Engine.inForce, announce]

theorem runTree_links (enabled : Bool) : (s.runTree i enabled).links = s.links := by
  let r := s.modEngine i (·.forgetAnnounce s.frame)
  rw [runTree_eq, makeDue_links, (State.WithinRun.startCompile (s := r.counted i enabled) (i := i) ((r.counted i enabled).frame + 1)).links,
    counted_links, (withinRun_scanned r i).links, dispatch_links, modEngine_links]

theorem runTree_count (h : (s.enrol i).count = 0) : ((s.runTree i true).enrol i).count = 0 := by
  refine (withinRun_enabled s i).count ?_
  rw [dispatch_enrol]
  exact h

end

end Sys2Proof.Machine

/-! ### The change of a tree's state, case by case -/

namespace Sys2Proof.Machine

section
variable (s : State) (t : Tree)

theorem changeTree_of_disable (h : (s.engine t).disableWaiters ≠ []) : s.changeTree t = (s.disableTree t, false) :=
  if_pos ((disablePending_iff _).mpr h)

theorem changeTree_of_enable (h : (s.engine t).disableWaiters = []) (h' : (s.engine t).enableWaiters ≠ []) :
    s.changeTree t = (s.enableTree t, true) :=
  (if_neg (mt (disablePending_iff _).mp (not_not_intro h))).trans (if_pos ((enablePending_iff _).mpr h'))

/-- With no request pending only a cut and a resume change the state. -/
theorem changeTree_of_none (h : (s.engine t).disableWaiters = []) (h' : (s.engine t).enableWaiters = []) :
    s.changeTree t =
      if (s.engine t).state = .running ∧ (s.hunt t).cutPending = true then (s.enterCut t, false)
      else if (s.engine t).state = .cut ∧ (s.engine t).resumePending = true then (s.leaveCut t, false)
      else (s, false) :=
  (if_neg (mt (disablePending_iff _).mp (not_not_intro h))).trans
    (if_neg (mt (enablePending_iff _).mp (not_not_intro h')))

theorem answerAll_shape (ls : List LinkId) (status : Status) :
    ∀ s : State, ∃ links, s.answerAll ls status = { s with links := links } := by
  induction ls with
  | nil => exact fun s => ⟨s.links, rfl⟩
  | cons l rest ih =>
    intro s
    obtain ⟨links, e⟩ := ih (s.answer l status .none)
    exact ⟨links, e⟩

/-- An engine as its tree is enabled (R4). -/
def Engine.atEnable (e : Engine) (frame : FrameNo) : Engine :=
  { e with
    state := .running
    enableWaiters := []
    planPrep := some (.emptyPlan frame false)
    compile := none
    places := Vector.replicate 4 none }

/-- A tree enabled, but for the answers and the report of its cut input (R4). -/
def State.enabling (s : State) (t : Tree) : State :=
  ((s.modEngine t (·.atEnable s.frame)).modEnrol t fun e => { e with count := 0 }).raise .tree

/-- The report of a cut input that is asserted as its tree is enabled (R19). -/
def State.reportCutAtEnable (s : State) (t : Tree) : State :=
  if (s.engine t).cutInAsserted then s.modMail fun m => { m with cutIns := m.cutIns ++ [⟨t, true⟩] } else s

theorem enableTree_eq : s.enableTree t =
    ((s.enabling t).reportCutAtEnable t).answerAll (s.engine t).enableWaiters .ok := rfl

theorem reportCutAtEnable_shape : ∃ cutIns, s.reportCutAtEnable t = { s with mail := { s.mail with cutIns := cutIns } } := by
  unfold State.reportCutAtEnable
  split
  · exact ⟨_, rfl⟩
  · exact ⟨s.mail.cutIns, rfl⟩

theorem enableTree_shape : ∃ links cutIns, s.enableTree t =
    { s.enabling t with links := links, mail := { (s.enabling t).mail with cutIns := cutIns } } := by
  obtain ⟨cutIns, e⟩ := reportCutAtEnable_shape (s.enabling t) t
  obtain ⟨links, e'⟩ := answerAll_shape (s.engine t).enableWaiters .ok ((s.enabling t).reportCutAtEnable t)
  exact ⟨links, cutIns, by rw [enableTree_eq, e', e]⟩

theorem enableTree_engine : (s.enableTree t).engine t = (s.engine t).atEnable s.frame := by
  obtain ⟨links, cutIns, e⟩ := enableTree_shape s t
  rw [e]
  exact modEngine_engine_self s t (·.atEnable s.frame)

theorem enableTree_count : ((s.enableTree t).enrol t).count = 0 := by
  obtain ⟨links, cutIns, e⟩ := enableTree_shape s t
  rw [e]
  show (((s.modEngine t (·.atEnable s.frame)).modEnrol t fun e => { e with count := 0 }).enrol t).count = 0
  rw [modEnrol_enrol, if_pos rfl]

theorem enableTree_attention : (s.enableTree t).mail.attention = s.mail.attention ++ [.event .tree] := by
  obtain ⟨links, cutIns, e⟩ := enableTree_shape s t
  rw [e]
  rfl

theorem enterCut_engine : (s.enterCut t).engine t =
    { s.engine t with state := .cut, planPrep := some (.emptyPlan s.frame true), compile := none } :=
  (engine_congr (abandonRanging_engines _ t) t).trans
    (modEngine_engine_self s t fun e => { e with state := .cut, planPrep := some (.emptyPlan s.frame true), compile := none })

theorem leaveCut_engine : (s.leaveCut t).engine t = { s.engine t with state := .running, resumePending := false } :=
  modEngine_engine_self s t fun e => { e with state := .running, resumePending := false }

/-! ### The engine at a disable -/

theorem suspendAll_engines (ks : List Nat) : ∀ s : State, (s.suspendAll ks).engines = s.engines := by
  induction ks with
  | nil => exact fun _ => rfl
  | cons k rest ih => exact fun s => (ih _).trans (changeState_engines ..)

theorem resetTrackers_shape (ks : List Nat) :
    ∀ s : State, ∃ trackers, s.resetTrackers ks = { s with trackers := trackers } := by
  induction ks with
  | nil => exact fun s => ⟨s.trackers, rfl⟩
  | cons k rest ih =>
    intro s
    obtain ⟨trackers, e⟩ := ih (s.modTracker k fun _ => .reset)
    exact ⟨trackers, e⟩

theorem disableRecords_engines : (s.disableRecords t).engines = s.engines := by
  obtain ⟨trackers, e⟩ := resetTrackers_shape
    (((s.suspendAll (s.servedRecords t)).clearGrants t).ownedRecords t) ((s.suspendAll (s.servedRecords t)).clearGrants t)
  rw [disableRecords_eq, e]
  exact suspendAll_engines ..

theorem disableBlocks_engines : (s.disableBlocks t).engines = (s.modEngine t (·.atDisable)).engines := by
  unfold State.disableBlocks
  dsimp only
  rw [modLight_engines, modHunt_engines, modEnrol_engines, disableRecords_engines]
  rfl

theorem raiseDisable_shape (huntEnds : Bool) : s.raiseDisable huntEnds = { s with mail := { s.mail with
    attention := s.mail.attention ++ if huntEnds then [.event .tree, .event .tree] else [.event .tree] } } := by
  cases huntEnds
  · rfl
  · simp [State.raiseDisable, State.raise, State.modMail]

theorem disableTree_shape : ∃ links, s.disableTree t =
    { (s.disableBlocks t).raiseDisable ((s.hunt t).state != .idle) with links := links } := by
  obtain ⟨links, e⟩ := answerAll_shape (s.restoreLinks t) .state
    ((s.disableBlocks t).raiseDisable ((s.hunt t).state != .idle))
  rw [disableTree_eq, e]
  exact answerAll_shape ..

theorem disableTree_engine : (s.disableTree t).engine t = (s.engine t).atDisable := by
  obtain ⟨links, e⟩ := disableTree_shape s t
  have same : (s.disableTree t).engines = (s.modEngine t (·.atDisable)).engines := by
    rw [e, raiseDisable_shape, ← disableBlocks_engines]
  rw [engine_congr same, modEngine_engine_self]

theorem changeTree_frame : (s.changeTree t).1.frame = s.frame := (State.RunsFor.changeTree (i := t)).frame

/-- A change of the tree's state is the last thing the link unit is told of it (R196). -/
theorem changeTree_raises (h : ((s.changeTree t).1.engine t).state ≠ (s.engine t).state) :
    ∃ l, s.mail.attention <+: l ∧ l ++ [.event .tree] <+: (s.changeTree t).1.mail.attention := by
  by_cases disable : (s.engine t).disableWaiters = []
  · by_cases enable : (s.engine t).enableWaiters = []
    · rw [changeTree_of_none s t disable enable] at h ⊢
      split
      · have entered : s.RunsFor t ((((s.modEngine t fun e =>
            { e with state := .cut, planPrep := some (.emptyPlan s.frame true), compile := none }).modHunt t fun h =>
              { h with cutPending := false }).abandonRanging t)) :=
          ((State.RunsFor.modEngine_of_eq rfl rfl rfl rfl).trans (.modHunt _)).trans .abandonRanging
        exact ⟨_, entered.keeps.attention, List.prefix_rfl⟩
      · split
        · exact ⟨s.mail.attention, List.prefix_rfl, List.prefix_rfl⟩
        · rename_i cut resume
          rw [if_neg cut, if_neg resume] at h
          exact absurd rfl h
    · rw [changeTree_of_enable s t disable enable, enableTree_attention]
      exact ⟨s.mail.attention, List.prefix_rfl, List.prefix_rfl⟩
  · rw [changeTree_of_disable s t disable]
    obtain ⟨links, e⟩ := disableTree_shape s t
    refine ⟨(s.disableBlocks t).mail.attention, State.RunsFor.disableBlocks.keeps.attention, ?_⟩
    rw [e, raiseDisable_shape]
    refine (List.prefix_append_right_inj _).mpr ?_
    split
    · exact List.prefix_append [_] [_]
    · exact List.prefix_rfl

end

theorem boundaryTree_of_disable {s : State} {t : Tree} (h : (s.engine t).disableWaiters ≠ []) :
    s.boundaryTree t = s.disableTree t := by
  rw [boundaryTree_eq, changeTree_of_disable s t h, if_pos]
  rw [disableTree_engine]
  rfl

/-- A tree that is RUNNING or CUT after its change runs. -/
theorem boundaryTree_of_runs {s u : State} {t : Tree} {enabled : Bool} (change : s.changeTree t = (u, enabled))
    (runs : (u.engine t).state ≠ .disabled) : s.boundaryTree t = u.runTree t enabled := by
  rw [boundaryTree_eq, change, if_neg runs]

/-- The state of the tree after its turn is the one after its change. -/
theorem boundaryTree_state (s : State) (t : Tree) :
    ((s.boundaryTree t).engine t).state = ((s.changeTree t).1.engine t).state := by
  rw [boundaryTree_eq]
  split
  · rfl
  · rw [runTree_engine]

theorem boundaryTree_raises {s : State} {t : Tree} (h : ((s.boundaryTree t).engine t).state ≠ (s.engine t).state) :
    ∃ l, s.mail.attention <+: l ∧ l ++ [.event .tree] <+: (s.boundaryTree t).mail.attention := by
  rw [boundaryTree_state] at h
  obtain ⟨l, before, raised⟩ := changeTree_raises s t h
  refine ⟨l, before, raised.trans ?_⟩
  rw [boundaryTree_eq]
  split
  · exact List.prefix_rfl
  · exact (State.RunsFor.runTree (i := t) _).keeps.attention

theorem exists_append_of_prefix {α : Type} {l m n : List α} {a : α} (h : l <+: m) (h' : m ++ [a] <+: n) :
    ∃ more, n = l ++ more ∧ a ∈ more := by
  obtain ⟨x, rfl⟩ := h
  obtain ⟨y, rfl⟩ := h'
  exact ⟨x ++ [a] ++ y, by simp, by simp⟩

/-- Settles O21: the turn of the tree, between parts of the boundary that spare it, takes the change that is due first. -/
theorem boundaryTakesTheTreeStateChanges : Obligations.BoundaryTakesTheTreeStateChanges := by
  intro s u t h step
  obtain rfl := (exec_frameBoundary_iff h).mp step
  obtain ⟨v, ⟨beforeKeeps, before⟩, afterKeeps, after⟩ := exists_turn s t
  have start := before.engine.trans (atBoundary_engine s t)
  have hunt : v.hunt t = s.hunt t := before.hunt.trans (atBoundary_hunt s t)
  have frame : v.frame = s.frame + 1 := before.frame.trans (atBoundary_frame s)
  rw [after.engine, after.enrol]
  refine ⟨fun disable => ?_, fun disable enable => ?_, fun disable enable => ?_, fun changed => ?_⟩
  · have pending : (v.engine t).disableWaiters ≠ [] := by rwa [start]
    rw [boundaryTree_of_disable pending, disableTree_engine]
    exact ⟨rfl, rfl, rfl, rfl, rfl, rfl, rfl, rfl, rfl, rfl, rfl, rfl, rfl, rfl, by rw [start]; rfl⟩
  · have none : (v.engine t).disableWaiters = [] := by rwa [start]
    have pending : (v.engine t).enableWaiters ≠ [] := by rwa [start]
    have runs : ((v.enableTree t).engine t).state = .running := by rw [enableTree_engine]; rfl
    rw [boundaryTree_of_runs (changeTree_of_enable v t none pending) (by simp [runs]), runTree_engine]
    refine ⟨runs, ?_, runTree_count _ _ (enableTree_count v t), ?_⟩
    · rw [enableTree_engine]; rfl
    · rw [State.planToDispatch, enableTree_engine, frame]; rfl
  · have change := changeTree_of_none v t (by rwa [start]) (by rwa [start])
    have state : (v.engine t).state = (s.engine t).state := by rw [start]
    have resume : (v.engine t).resumePending = (s.engine t).resumePending := by rw [start]
    rw [hunt, state, resume] at change
    refine ⟨fun running cut => ?_, fun cut resume => ?_, fun running noCut => ?_, fun cut noResume => ?_, fun disabled => ?_⟩
    · rw [if_pos ⟨running, cut⟩] at change
      have runs : ((v.enterCut t).engine t).state = .cut := by rw [enterCut_engine]
      rw [boundaryTree_of_runs change (by simp [runs]), runTree_engine]
      refine ⟨runs, ?_⟩
      rw [State.planToDispatch, enterCut_engine, frame]
      rfl
    · rw [if_neg (by simp [cut]), if_pos ⟨cut, resume⟩] at change
      have runs : ((v.leaveCut t).engine t).state = .running := by rw [leaveCut_engine]
      rw [boundaryTree_of_runs change (by simp [runs]), runTree_engine]
      exact ⟨runs, by rw [leaveCut_engine]⟩
    · rw [boundaryTree_state, change, if_neg (by simp [noCut]), if_neg (by simp [running]), state, running]
    · rw [boundaryTree_state, change, if_neg (by simp [cut]), if_neg (by simp [noResume]), state, cut]
    · rw [boundaryTree_state, change, if_neg (by simp [disabled]), if_neg (by simp [disabled]), state, disabled]
  · have changed' : ((v.boundaryTree t).engine t).state ≠ (v.engine t).state := by rwa [start]
    obtain ⟨l, first, raised⟩ := boundaryTree_raises changed'
    have begun : s.mail.attention <+: v.mail.attention := atBoundary_attention s ▸ beforeKeeps.attention
    exact exists_append_of_prefix (begun.trans first) (raised.trans afterKeeps.attention)

end Sys2Proof.Machine

/-! ## What a disable makes of records, trackers and requests (R6, R63, R90, R193) -/

namespace Sys2Proof.Machine

/-! ### Records suspended one after the other -/

section
variable (s : State)

/-- A suspension writes no tracker and no tally (R43). -/
theorem suspend_shape (k : Nat) (byRequest : Bool) : ∃ loads enrols kept records mail,
    s.changeState k .suspended byRequest =
      { s with loads := loads, enrols := enrols, kept := kept, records := records, mail := mail } := by
  unfold State.changeState
  dsimp only
  split
  · exact ⟨s.loads, s.enrols, s.kept, s.records, s.mail, rfl⟩
  · obtain ⟨loads, active⟩ := leaveActive_shape s k .suspended
    obtain ⟨enrols, kept, queue⟩ := leaveQueue_shape (s.leaveActive k .suspended) k .suspended
    obtain ⟨kept', suspended⟩ := leaveSuspended_shape ((s.leaveActive k .suspended).leaveQueue k .suspended) k
    rw [suspended, queue, active]
    exact ⟨loads, enrols, kept', _, _, rfl⟩

/-- A state change drops kept directives and keeps none (R43). -/
theorem changeState_kept_sublist (k : Nat) (new : RecState) (byRequest : Bool) :
    (s.changeState k new byRequest).kept.Sublist s.kept := by
  have active : (s.leaveActive k new).kept = s.kept := by
    unfold State.leaveActive
    split <;> rfl
  have queue : ((s.leaveActive k new).leaveQueue k new).kept.Sublist s.kept := by
    unfold State.leaveQueue
    dsimp only
    rw [← active]
    split
    · split
      · exact List.filter_sublist
      · exact .refl _
    · exact .refl _
  have suspended (u : State) : (u.leaveSuspended k).kept.Sublist u.kept := by
    unfold State.leaveSuspended
    split
    · exact List.filter_sublist
    · exact .refl _
  have entered (u : State) (i : Tree) : (u.enterState i k new).kept.Sublist u.kept := by
    unfold State.enterState
    split
    case h_3 | h_4 => exact List.filter_sublist
    all_goals exact .refl _
  unfold State.changeState
  dsimp only
  split
  · exact .refl _
  · exact (entered (State.modRecord _ k (·.enter new)) _).trans ((suspended _).trans queue)

/-- A suspension is reported to the link unit (R42). -/
theorem suspend_attention (k : Nat) (byRequest : Bool) (h : (s.record k).state ≠ .suspended) :
    (s.changeState k .suspended byRequest).mail.attention =
      s.mail.attention ++ [.change k (s.record k).state .suspended byRequest] := by
  obtain ⟨loads, active⟩ := leaveActive_shape s k .suspended
  obtain ⟨enrols, kept, queue⟩ := leaveQueue_shape (s.leaveActive k .suspended) k .suspended
  obtain ⟨kept', suspended⟩ := leaveSuspended_shape ((s.leaveActive k .suspended).leaveQueue k .suspended) k
  unfold State.changeState
  dsimp only
  rw [if_neg h, suspended, queue, active]
  rfl

theorem suspend_record (k j : Nat) (byRequest : Bool) (h : 1 ≤ k ∧ k ≤ 256) :
    (s.changeState k .suspended byRequest).record j =
      if j = k then { s.record j with state := .suspended } else s.record j := by
  rw [changeState_record]
  by_cases hj : j = k
  · subst hj
    by_cases state : (s.record j).state = .suspended
    · simp [← state]
    · simp [state, h, DropRecord.enter]
  · simp [hj]

theorem suspendAll_shape (ks : List Nat) : ∀ s : State, ∃ loads enrols kept records mail,
    s.suspendAll ks = { s with loads := loads, enrols := enrols, kept := kept, records := records, mail := mail } := by
  induction ks with
  | nil => exact fun s => ⟨s.loads, s.enrols, s.kept, s.records, s.mail, rfl⟩
  | cons k rest ih =>
    intro s
    obtain ⟨_, _, _, _, _, first⟩ := suspend_shape s k false
    obtain ⟨loads, enrols, kept, records, mail, e⟩ := ih (s.changeState k .suspended false)
    refine ⟨loads, enrols, kept, records, mail, ?_⟩
    show (s.changeState k .suspended false).suspendAll rest = _
    rw [e, first]

theorem suspendAll_kept_subset (ks : List Nat) : ∀ s : State, (s.suspendAll ks).kept ⊆ s.kept := by
  induction ks with
  | nil => exact fun _ _ => id
  | cons k rest ih => exact fun s => List.Subset.trans (ih _) (changeState_kept_sublist s k .suspended false).subset

theorem suspendAll_sameMode (t : Tree) (ks : List Nat) :
    ∀ s : State, (s.enrol t).SameMode ((s.suspendAll ks).enrol t) := by
  induction ks with
  | nil => exact fun _ => rfl
  | cons k rest ih => exact fun s => (changeState_sameMode s k .suspended false).trans (ih _)

theorem suspendAll_record (j : Nat) (ks : List Nat) : ∀ s : State, (∀ k ∈ ks, 1 ≤ k ∧ k ≤ 256) →
    (s.suspendAll ks).record j = if j ∈ ks then { s.record j with state := .suspended } else s.record j := by
  induction ks with
  | nil => exact fun _ _ => rfl
  | cons k rest ih =>
    intro s h
    refine (ih _ fun x hx => h x (List.mem_cons_of_mem k hx)).trans ?_
    rw [suspend_record _ _ _ _ (h k List.mem_cons_self)]
    by_cases hj : j = k <;> by_cases hr : j ∈ rest <;> simp [hj, hr]

/-- Each record that is suspended is reported, with the state it leaves (R42). -/
theorem suspendAll_attention (ks : List Nat) : ∀ s : State, ks.Nodup → (∀ k ∈ ks, 1 ≤ k ∧ k ≤ 256) →
    (∀ k ∈ ks, (s.record k).state ≠ .suspended) →
    (s.suspendAll ks).mail.attention =
      s.mail.attention ++ ks.map fun k => .change k (s.record k).state .suspended false := by
  induction ks with
  | nil => exact fun s _ _ _ => (List.append_nil _).symm
  | cons k rest ih =>
    intro s distinct range states
    obtain ⟨new, distinct'⟩ := List.nodup_cons.mp distinct
    have later (j : Nat) (hj : j ∈ rest) : (s.changeState k .suspended false).record j = s.record j := by
      rw [suspend_record _ _ _ _ (range k List.mem_cons_self), if_neg]
      exact fun e => new (e ▸ hj)
    have tail := ih (s.changeState k .suspended false) distinct' (fun x hx => range x (List.mem_cons_of_mem k hx))
      fun x hx => by rw [later x hx]; exact states x (List.mem_cons_of_mem k hx)
    refine tail.trans ?_
    rw [suspend_attention _ _ _ (states k List.mem_cons_self), List.append_assoc, List.map_cons, List.singleton_append]
    congr 2
    exact List.map_congr_left fun j hj => by rw [later j hj]

theorem resetTrackers_tracker (j : Nat) (ks : List Nat) : ∀ s : State, (∀ k ∈ ks, 1 ≤ k ∧ k ≤ 256) →
    (s.resetTrackers ks).tracker j = if j ∈ ks then .reset else s.tracker j := by
  induction ks with
  | nil => exact fun _ _ => rfl
  | cons k rest ih =>
    intro s h
    refine (ih _ fun x hx => h x (List.mem_cons_of_mem k hx)).trans ?_
    rw [modTracker_tracker]
    have range := h k List.mem_cons_self
    by_cases hj : j = k <;> by_cases hr : j ∈ rest <;> simp [hj, hr, range]

/-! ### The blocks of a tree at a disable -/

theorem range_of_isRecordOf {t : Tree} {k : Nat} (h : s.isRecordOf t k = true) : 1 ≤ k ∧ k ≤ 256 :=
  record_tag_range ((isRecordOf_iff ..).mp h).1

theorem suspendServed_record (t : Tree) (k : Nat) : (s.suspendAll (s.servedRecords t)).record k =
    if s.isRecordOf t k = true ∧ (s.record k).state.served = true then { s.record k with state := .suspended }
    else s.record k := by
  rw [suspendAll_record]
  · simp only [mem_servedRecords_iff]
  · exact fun k hk => range_of_isRecordOf s ((mem_servedRecords_iff ..).mp hk).1

/-- A record as a disable of its tree leaves it (R6). -/
def DropRecord.atDisable (r : DropRecord) : DropRecord :=
  { r with state := if r.state.served then .suspended else r.state, held := false, outstanding := 0 }

theorem suspendServed_isRecordOf (t i : Tree) (k : Nat) :
    (s.suspendAll (s.servedRecords t)).isRecordOf i k = s.isRecordOf i k :=
  (State.RunsFor.suspendAll (i := t) fun _ hk => ((mem_servedRecords_iff ..).mp hk).1).keeps.isRecordOf i k

theorem disableRecords_record (t : Tree) (k : Nat) : (s.disableRecords t).record k =
    if s.isRecordOf t k = true then (s.record k).atDisable else s.record k := by
  obtain ⟨trackers, e⟩ := resetTrackers_shape
    (((s.suspendAll (s.servedRecords t)).clearGrants t).ownedRecords t) ((s.suspendAll (s.servedRecords t)).clearGrants t)
  rw [disableRecords_eq, e]
  show ((s.suspendAll (s.servedRecords t)).clearGrants t).record k = _
  rw [clearGrants_record, suspendServed_isRecordOf, suspendServed_record]
  by_cases own : s.isRecordOf t k = true
  · by_cases served : (s.record k).state.served = true <;> simp [own, served, DropRecord.atDisable]
  · simp [own]

theorem changesKnown_tracker (test : Nat → Bool) (k : Nat) : (s.changesKnown test).tracker k = s.tracker k := rfl

theorem disableRecords_tracker (t : Tree) (k : Nat) : (s.disableRecords t).tracker k =
    if s.isRecordOf t k = true then .reset else s.tracker k := by
  obtain ⟨_, _, _, _, _, e⟩ := suspendAll_shape (s.servedRecords t) s
  have before : ((s.suspendAll (s.servedRecords t)).clearGrants t).tracker k = s.tracker k := by
    rw [e]
    rfl
  rw [disableRecords_eq, modLoad_tracker, changesKnown_tracker,
    resetTrackers_tracker _ _ _ fun k hk => range_of_isRecordOf _ ((mem_ownedRecords_iff ..).mp hk)]
  have own (j : Nat) : ((s.suspendAll (s.servedRecords t)).clearGrants t).isRecordOf t j = s.isRecordOf t j :=
    (State.RunsFor.clearGrants.keeps.isRecordOf t j).trans (suspendServed_isRecordOf ..)
  rw [before]
  simp only [mem_ownedRecords_iff, own]

theorem changesKnown_attention (test : Nat → Bool) : (s.changesKnown test).mail.attention = s.mail.attention := rfl

theorem clearGrants_mail (t : Tree) : (s.clearGrants t).mail = s.mail := rfl

theorem disableRecords_attention (t : Tree) : (s.disableRecords t).mail.attention =
    s.mail.attention ++ (s.servedRecords t).map fun k => .change k (s.record k).state .suspended false := by
  obtain ⟨trackers, e⟩ := resetTrackers_shape
    (((s.suspendAll (s.servedRecords t)).clearGrants t).ownedRecords t) ((s.suspendAll (s.servedRecords t)).clearGrants t)
  rw [disableRecords_eq, e, modLoad_mail, changesKnown_attention]
  show ((s.suspendAll (s.servedRecords t)).clearGrants t).mail.attention = _
  rw [clearGrants_mail]
  refine suspendAll_attention _ s (numbersWhere_nodup ..)
    (fun k hk => range_of_isRecordOf s ((mem_servedRecords_iff ..).mp hk).1) fun k hk suspended => ?_
  have served := ((mem_servedRecords_iff ..).mp hk).2
  rw [suspended] at served
  exact Bool.false_ne_true served

/-- Beside records, trackers and load, a disable of the records can drop kept directives and empty the queue (R43). -/
theorem disableRecords_shape (t : Tree) : ∃ loads enrols kept records trackers mail, s.disableRecords t =
    { s with
      loads := loads, enrols := enrols, kept := kept, records := records, trackers := trackers, mail := mail } := by
  obtain ⟨trackers, e⟩ := resetTrackers_shape
    (((s.suspendAll (s.servedRecords t)).clearGrants t).ownedRecords t) ((s.suspendAll (s.servedRecords t)).clearGrants t)
  obtain ⟨_, enrols, kept, _, _, e'⟩ := suspendAll_shape (s.servedRecords t) s
  rw [disableRecords_eq, e, e']
  exact ⟨_, enrols, kept, _, trackers, _, rfl⟩

theorem disableRecords_kept_subset (t : Tree) : (s.disableRecords t).kept ⊆ s.kept := by
  obtain ⟨trackers, e⟩ := resetTrackers_shape
    (((s.suspendAll (s.servedRecords t)).clearGrants t).ownedRecords t) ((s.suspendAll (s.servedRecords t)).clearGrants t)
  rw [disableRecords_eq, e]
  exact suspendAll_kept_subset ..

theorem disableRecords_sameMode (t : Tree) : (s.enrol t).SameMode ((s.disableRecords t).enrol t) := by
  obtain ⟨trackers, e⟩ := resetTrackers_shape
    (((s.suspendAll (s.servedRecords t)).clearGrants t).ownedRecords t) ((s.suspendAll (s.servedRecords t)).clearGrants t)
  rw [disableRecords_eq, e]
  exact suspendAll_sameMode ..

theorem disableRecords_load (t : Tree) : (s.disableRecords t).load t = .reset := by
  rw [disableRecords_eq, modLoad_load, if_pos rfl]

/-- The blocks of tree `t` before a disable resets its records: its engine is reset, its kept directives are gone. -/
def State.disableStart (s : State) (t : Tree) : State :=
  (s.modEngine t (·.atDisable)).dropKept fun x => x.tree == t

theorem disableBlocks_eq (t : Tree) : s.disableBlocks t =
    ((((s.disableStart t).disableRecords t).modEnrol t fun e => { e with queue := [], attempt := none }).modHunt t
      (·.atDisable ((s.disableStart t).disableRecords t).frame)).modLight t fun _ => .reset := by
  unfold State.disableBlocks State.disableStart
  rfl

theorem disableBlocks_record (t : Tree) (k : Nat) : (s.disableBlocks t).record k =
    if s.isRecordOf t k = true then (s.record k).atDisable else s.record k := by
  rw [disableBlocks_eq, modLight_record, modHunt_record, modEnrol_record, disableRecords_record]
  rfl

theorem disableBlocks_tracker (t : Tree) (k : Nat) : (s.disableBlocks t).tracker k =
    if s.isRecordOf t k = true then .reset else s.tracker k := by
  rw [disableBlocks_eq, modLight_tracker, modHunt_tracker, modEnrol_tracker, disableRecords_tracker]
  rfl

theorem disableBlocks_load (t : Tree) : (s.disableBlocks t).load t = .reset := by
  rw [disableBlocks_eq, modLight_load, modHunt_load, modEnrol_load, disableRecords_load]

theorem disableBlocks_enrol (t : Tree) :
    (s.disableBlocks t).enrol t = { s.enrol t with queue := [], attempt := none } := by
  have same : (s.enrol t).SameMode (((s.disableStart t).disableRecords t).enrol t) := disableRecords_sameMode (s.disableStart t) t
  rw [disableBlocks_eq, modLight_enrol, modHunt_enrol, modEnrol_enrol, if_pos rfl, same]

theorem disableBlocks_light (t : Tree) : (s.disableBlocks t).light t = .reset := by
  rw [disableBlocks_eq, modLight_light, if_pos rfl]

theorem disableBlocks_hunt (t : Tree) : (s.disableBlocks t).hunt t = (s.hunt t).atDisable s.frame := by
  obtain ⟨_, _, _, _, _, _, e⟩ := disableRecords_shape (s.disableStart t) t
  rw [disableBlocks_eq, modLight_hunt, modHunt_hunt, if_pos rfl, modEnrol_hunt, e]
  rfl

theorem disableBlocks_links (t : Tree) : (s.disableBlocks t).links = s.links := by
  obtain ⟨_, _, _, _, _, _, e⟩ := disableRecords_shape (s.disableStart t) t
  rw [disableBlocks_eq, modLight_links, modHunt_links, modEnrol_links, e]
  rfl

theorem mem_disableBlocks_kept {t : Tree} {x : Kept} (h : x ∈ (s.disableBlocks t).kept) : x ∈ s.kept ∧ x.tree ≠ t := by
  rw [disableBlocks_eq, modLight_kept, modHunt_kept, modEnrol_kept] at h
  have start : x ∈ s.kept.filter fun x => !(x.tree == t) := disableRecords_kept_subset _ _ h
  simpa using List.mem_filter.mp start

theorem disableBlocks_attention (t : Tree) : (s.disableBlocks t).mail.attention =
    s.mail.attention ++ (s.servedRecords t).map fun k => .change k (s.record k).state .suspended false := by
  rw [disableBlocks_eq, modLight_mail, modHunt_mail, modEnrol_mail, disableRecords_attention]
  rfl

/-- What a disable tells the link unit (R42, R196). -/
theorem disableTree_attention (t : Tree) : (s.disableTree t).mail.attention =
    s.mail.attention ++ ((s.servedRecords t).map fun k => .change k (s.record k).state .suspended false) ++
      if (s.hunt t).state = .idle then [.event .tree] else [.event .tree, .event .tree] := by
  obtain ⟨links, e⟩ := disableTree_shape s t
  rw [e, raiseDisable_shape, ← disableBlocks_attention]
  by_cases idle : (s.hunt t).state = .idle <;> simp [idle]

theorem disableTree_blocks (t : Tree) :
    ∃ links mail, s.disableTree t = { s.disableBlocks t with links := links, mail := mail } := by
  obtain ⟨links, e⟩ := disableTree_shape s t
  exact ⟨links, _, by rw [e, raiseDisable_shape]⟩

theorem disableTree_record (t : Tree) (k : Nat) : (s.disableTree t).record k =
    if s.isRecordOf t k = true then (s.record k).atDisable else s.record k := by
  obtain ⟨links, mail, e⟩ := disableTree_blocks s t
  rw [e]
  exact disableBlocks_record s t k

theorem disableTree_tracker (t : Tree) (k : Nat) : (s.disableTree t).tracker k =
    if s.isRecordOf t k = true then .reset else s.tracker k := by
  obtain ⟨links, mail, e⟩ := disableTree_blocks s t
  rw [e]
  exact disableBlocks_tracker s t k

theorem disableTree_load (t : Tree) : (s.disableTree t).load t = .reset := by
  obtain ⟨links, mail, e⟩ := disableTree_blocks s t
  rw [e]
  exact disableBlocks_load s t

theorem disableTree_enrol (t : Tree) : (s.disableTree t).enrol t = { s.enrol t with queue := [], attempt := none } := by
  obtain ⟨links, mail, e⟩ := disableTree_blocks s t
  rw [e]
  exact disableBlocks_enrol s t

theorem disableTree_light (t : Tree) : (s.disableTree t).light t = .reset := by
  obtain ⟨links, mail, e⟩ := disableTree_blocks s t
  rw [e]
  exact disableBlocks_light s t

theorem disableTree_hunt (t : Tree) : (s.disableTree t).hunt t = (s.hunt t).atDisable s.frame := by
  obtain ⟨links, mail, e⟩ := disableTree_blocks s t
  rw [e]
  exact disableBlocks_hunt s t

theorem mem_disableTree_kept {t : Tree} {x : Kept} (h : x ∈ (s.disableTree t).kept) : x ∈ s.kept ∧ x.tree ≠ t := by
  obtain ⟨links, mail, e⟩ := disableTree_blocks s t
  rw [e] at h
  exact mem_disableBlocks_kept s h

/-! ### The answers of a turn -/

theorem answered_answered (x : Link) (first second : Status) (data data' : ResponseData) :
    (x.answered first data).answered second data' = x.answered first data := by
  cases h : x.request <;> simp [Link.answered, h]

theorem answer_link (l j : LinkId) (status : Status) (data : ResponseData) :
    (s.answer l status data).link j = if j = l then (s.link j).answered status data else s.link j := by
  refine (modLink_link ..).trans ?_
  split
  · rename_i h
    rw [h]
  · rfl

/-- A request is answered once. -/
theorem answerAll_link (j : LinkId) (status : Status) (ls : List LinkId) : ∀ s : State,
    (s.answerAll ls status).link j = if j ∈ ls then (s.link j).answered status .none else s.link j := by
  induction ls with
  | nil => exact fun _ => rfl
  | cons l rest ih =>
    intro s
    refine (ih (s.answer l status .none)).trans ?_
    rw [answer_link]
    by_cases hj : j = l <;> by_cases hr : j ∈ rest <;> simp [hj, hr, answered_answered]

theorem mem_restoreLinks_iff (t : Tree) (l : LinkId) :
    l ∈ s.restoreLinks t ↔ ∃ x ∈ s.kept, x.tree = t ∧ x.entry.origin = .restore l := by
  unfold State.restoreLinks
  rw [List.mem_filterMap]
  refine exists_congr fun x => and_congr_right fun _ => ?_
  cases x.entry.origin <;> simp [eq_comm]

theorem disableTree_link (t : Tree) (l : LinkId) : (s.disableTree t).link l =
    if l ∈ s.restoreLinks t then (s.link l).answered .state .none
    else if l ∈ (s.engine t).disableWaiters then (s.link l).answered .ok .none
    else s.link l := by
  rw [disableTree_eq, answerAll_link, answerAll_link, raiseDisable_shape]
  have same : (s.disableBlocks t).link l = s.link l := link_congr (disableBlocks_links s t) l
  show (if _ then Link.answered (if _ then ((s.disableBlocks t).link l).answered _ _ else (s.disableBlocks t).link l) _ _
    else if _ then ((s.disableBlocks t).link l).answered _ _ else (s.disableBlocks t).link l) = _
  rw [same]
  by_cases restore : l ∈ s.restoreLinks t <;> by_cases waits : l ∈ (s.engine t).disableWaiters <;>
    simp [restore, waits, answered_answered]

theorem enableTree_link (t : Tree) (l : LinkId) : (s.enableTree t).link l =
    if l ∈ (s.engine t).enableWaiters then (s.link l).answered .ok .none else s.link l := by
  obtain ⟨cutIns, e⟩ := reportCutAtEnable_shape (s.enabling t) t
  rw [enableTree_eq, answerAll_link, e]
  rfl

theorem enterCut_links (t : Tree) : (s.enterCut t).links = s.links := by
  have abandoned (u : State) : (u.abandonRanging t).links = u.links := by
    unfold State.abandonRanging
    split
    · split
      · exact changeState_links ..
      · rfl
    · rfl
  exact abandoned _

theorem leaveCut_links (t : Tree) : (s.leaveCut t).links = s.links := rfl

/-- Link `l` can be told nothing but one status by a change of a tree: it waits for no change, or has no kept RESTORE. -/
def State.OnlyAnswer (s : State) (l : LinkId) (status : Status) : Prop :=
  (status = .ok ∨ ∀ t, l ∉ (s.engine t).enableWaiters ∧ l ∉ (s.engine t).disableWaiters) ∧
    (status = .state ∨ ∀ x ∈ s.kept, x.entry.origin ≠ .restore l)

/-- A link stays as it was or has its request answered. -/
def State.LinkAnswered (s u : State) (l : LinkId) (status : Status) : Prop :=
  u.link l = s.link l ∨ u.link l = (s.link l).answered status .none

end

section
variable {s u v : State} {l : LinkId} {status : Status}

theorem State.KeepsOutside.onlyAnswer (h : s.KeepsOutside u) (only : s.OnlyAnswer l status) : u.OnlyAnswer l status := by
  obtain ⟨waits, restore⟩ := only
  refine ⟨waits.imp_right fun none t => ?_, restore.imp_right fun none x hx origin => ?_⟩
  · exact ⟨fun hl => (none t).1 (h.enableWaiters t hl), fun hl => (none t).2 (h.disableWaiters t hl)⟩
  · obtain ⟨y, hy, -, entry⟩ := h.kept x hx
    exact none y hy (by rw [entry, origin])

theorem State.LinkAnswered.trans (h : s.LinkAnswered u l status) (h' : u.LinkAnswered v l status) :
    s.LinkAnswered v l status := by
  unfold State.LinkAnswered at *
  rcases h with e | e <;> rcases h' with e' | e' <;> simp [e, e', answered_answered]

theorem linkAnswered_changeTree (t : Tree) (only : s.OnlyAnswer l status) :
    s.LinkAnswered (s.changeTree t).1 l status := by
  obtain ⟨waits, restore⟩ := only
  unfold State.LinkAnswered
  by_cases disable : (s.engine t).disableWaiters = []
  · by_cases enable : (s.engine t).enableWaiters = []
    · rw [changeTree_of_none s t disable enable]
      split
      · exact .inl (link_congr (enterCut_links s t) l)
      · split
        · exact .inl (link_congr (leaveCut_links s t) l)
        · exact .inl rfl
    · rw [changeTree_of_enable s t disable enable, enableTree_link]
      split
      · rename_i waiting
        rcases waits with rfl | none
        · exact .inr rfl
        · exact absurd waiting (none t).1
      · exact .inl rfl
  · rw [changeTree_of_disable s t disable, disableTree_link]
    split
    · rename_i restoring
      obtain ⟨x, hx, -, origin⟩ := (mem_restoreLinks_iff ..).mp restoring
      rcases restore with rfl | none
      · exact .inr rfl
      · exact absurd origin (none x hx)
    · split
      · rename_i waiting
        rcases waits with rfl | none
        · exact .inr rfl
        · exact absurd waiting (none t).2
      · exact .inl rfl

theorem boundaryTree_links (s : State) (t : Tree) : (s.boundaryTree t).links = (s.changeTree t).1.links := by
  rw [boundaryTree_eq]
  split
  · rfl
  · exact runTree_links ..

theorem linkAnswered_boundaryTrees (ts : List Tree) : ∀ s : State, s.OnlyAnswer l status →
    s.LinkAnswered (ts.foldl (fun s t => s.boundaryTree t) s) l status := by
  induction ts with
  | nil => exact fun _ _ => .inl rfl
  | cons t rest ih =>
    intro s only
    have first : s.LinkAnswered (s.boundaryTree t) l status := by
      unfold State.LinkAnswered
      rw [link_congr (boundaryTree_links s t)]
      exact linkAnswered_changeTree t only
    exact first.trans (ih _ ((State.RunsFor.boundaryTree (i := t)).keeps.onlyAnswer only))

/-- A link that the turn of tree `t` answers is answered at the boundary, where no other answer is due to it. -/
theorem boundary_link_answered {t : Tree} (only : s.OnlyAnswer l status)
    (turn : ∀ v : State, s.atBoundary.KeepsOutside v → s.atBoundary.SparesTree t v →
      ((v.changeTree t).1.link l) = (v.link l).answered status .none) :
    s.boundary.link l = (s.link l).answered status .none := by
  obtain ⟨pre, post, before, after, e⟩ := boundary_split s t
  have onlyStart := (keepsOutside_atBoundary s).onlyAnswer only
  have keeps := boundaryTrees_keep pre s.atBoundary
  have first := linkAnswered_boundaryTrees pre _ onlyStart
  have own := turn _ keeps (boundaryTrees_spare pre _ before)
  rw [← link_congr (boundaryTree_links ..)] at own
  have onlyEnd := (State.RunsFor.boundaryTree (i := t)).keeps.onlyAnswer (keeps.onlyAnswer onlyStart)
  have last := linkAnswered_boundaryTrees post _ onlyEnd
  rw [e]
  have answered : s.atBoundary.link l = s.link l := atBoundary_link s l
  unfold State.LinkAnswered at first last
  rw [own] at last
  rw [answered] at first
  rcases first with f | f <;> rcases last with g | g <;> rw [g, f] <;> simp [answered_answered]

theorem answered_of_request {x : Link} {r : Request} (h : x.request = some r) (status : Status) :
    (x.answered status .none).response = some ⟨r.code, r.seq, x.discarded, status, .none⟩ ∧
      (x.answered status .none).state = .ready := by
  simp [Link.answered, h]

theorem served_iff (x : RecState) : x.served = true ↔ x ∈ [RecState.announced, .ranging, .active, .parked] := by
  cases x <;> decide

end

/-! ### A disable at a boundary -/

theorem changeTree_of_pair {s u : State} {t : Tree} {enabled : Bool} (disable : (s.engine t).disableWaiters ≠ [])
    (h : s.changeTree t = (u, enabled)) : s.disableTree t = u := by
  rw [changeTree_of_disable s t disable] at h
  exact congrArg Prod.fst h

/-- What a disable of a tree leaves, as it takes effect (R6, R90, R129, R147, R170). -/
theorem disableTree_blocks_reset {s u : State} {t : Tree} (h : s.disableTree t = u) :
    (∀ k, s.isRecordOf t k = true →
      u.record k =
        { s.record k with
          state :=
            if (s.record k).state ∈ [RecState.announced, .ranging, .active, .parked] then .suspended
            else (s.record k).state
          held := false
          outstanding := 0 }) ∧
    (∀ k, s.isRecordOf t k = false → u.record k = s.record k ∧ u.tracker k = s.tracker k) ∧
    (∀ k, s.isRecordOf t k = true → u.tracker k = ⟨[], .none, .offer, 0⟩) := by
  subst h
  refine ⟨fun k own => ?_, fun k other => ?_, fun k own => ?_⟩
  · rw [disableTree_record, if_pos own, DropRecord.atDisable]
    simp only [served_iff]
  · rw [disableTree_record, disableTree_tracker, if_neg (by simp [other]), if_neg (by simp [other])]
    exact ⟨rfl, rfl⟩
  · rw [disableTree_tracker, if_pos own]
    rfl

theorem changeTree_answers (s : State) (t : Tree) (l : LinkId) :
    ((s.engine t).disableWaiters = [] → l ∈ (s.engine t).enableWaiters →
      (s.changeTree t).1.link l = (s.link l).answered .ok .none) ∧
    (l ∈ (s.engine t).disableWaiters → (∀ x ∈ s.kept, x.tree = t → x.entry.origin ≠ .restore l) →
      (s.changeTree t).1.link l = (s.link l).answered .ok .none) ∧
    ((s.engine t).disableWaiters ≠ [] → (∃ x ∈ s.kept, x.tree = t ∧ x.entry.origin = .restore l) →
      (s.changeTree t).1.link l = (s.link l).answered .state .none) := by
  refine ⟨fun none waits => ?_, fun waits noRestore => ?_, fun disable restore => ?_⟩
  · rw [changeTree_of_enable s t none (List.ne_nil_of_mem waits), enableTree_link, if_pos waits]
  · rw [changeTree_of_disable s t (List.ne_nil_of_mem waits), disableTree_link, if_neg, if_pos waits]
    rw [mem_restoreLinks_iff]
    exact fun ⟨x, hx, tree, origin⟩ => noRestore x hx tree origin
  · rw [changeTree_of_disable s t disable, disableTree_link, if_pos ((mem_restoreLinks_iff ..).mpr restore)]

/-- A request joined to a change of tree `t` is answered OK at the boundary. -/
theorem boundary_answers_waiter {s : State} {t : Tree} {l : LinkId} {r : Request} (request : (s.link l).request = some r)
    (waits : l ∈ (s.engine t).disableWaiters ∨ (s.engine t).disableWaiters = [] ∧ l ∈ (s.engine t).enableWaiters)
    (noRestore : ∀ x ∈ s.kept, x.entry.origin ≠ .restore l) :
    (s.boundary.link l).response = some ⟨r.code, r.seq, (s.link l).discarded, .ok, .none⟩ ∧
      (s.boundary.link l).state = .ready := by
  have answered : s.boundary.link l = (s.link l).answered .ok .none := by
    refine boundary_link_answered (t := t) ⟨.inl rfl, .inr noRestore⟩ fun v keeps spares => ?_
    have start := spares.engine.trans (atBoundary_engine s t)
    obtain ⟨enable, disable, -⟩ := changeTree_answers v t l
    rcases waits with waits | ⟨none, waits⟩
    · refine disable (by rwa [start]) fun x hx _ origin => ?_
      obtain ⟨y, hy, -, entry⟩ := keeps.kept x hx
      exact noRestore y (by simpa using hy) (by rw [entry, origin])
    · exact enable (by rwa [start]) (by rwa [start])
  rw [answered]
  exact answered_of_request request .ok

/-- A RESTORE whose kept DEPART a disable of tree `t` ends is answered STATE at the boundary. -/
theorem boundary_answers_restore {s : State} {t : Tree} {l : LinkId} {r : Request} (request : (s.link l).request = some r)
    (disable : (s.engine t).disableWaiters ≠ [])
    {x : Kept} (kept : x ∈ s.kept) (tree : x.tree = t) (origin : x.entry.origin = .restore l)
    (noWait : ∀ y : Tree, l ∉ (s.engine y).enableWaiters ∧ l ∉ (s.engine y).disableWaiters) :
    (s.boundary.link l).response = some ⟨r.code, r.seq, (s.link l).discarded, .state, .none⟩ ∧
      (s.boundary.link l).state = .ready := by
  have answered : s.boundary.link l = (s.link l).answered .state .none := by
    refine boundary_link_answered (t := t) ⟨.inr noWait, .inl rfl⟩ fun v keeps spares => ?_
    have start := spares.engine.trans (atBoundary_engine s t)
    obtain ⟨y, hy, treeY, entry⟩ := spares.restores x (by simpa using kept) tree l origin
    exact (changeTree_answers v t l).2.2 (by rwa [start]) ⟨y, hy, treeY, by rw [entry, origin]⟩
  rw [answered]
  exact answered_of_request request .state

section
variable {s v : State} {t : Tree}

/-- A record of a tree that a boundary disables (R6, R62, R76, R90). -/
theorem boundary_record_of_disable (pending : (v.engine t).disableWaiters ≠ []) (keeps : s.atBoundary.KeepsOutside v)
    (before : s.atBoundary.SparesTree t v) (after : (v.boundaryTree t).SparesTree t s.boundary) {k : Nat}
    (own : s.isRecordOf t k = true) :
    s.boundary.tracker k = .reset ∧
      s.boundary.record k =
        { (s.record k).atDisable with
          offer := (s.record k).offer.age s.frame, departed := (s.boundary.record k).departed } ∧
      ((∀ x ≠ t, ∀ y ∈ (s.engine x).waiting, y.dir ≠ .depart k) →
        (s.boundary.record k).departed = departedAge (s.record k).departed s.frame) := by
  have ownStart : s.atBoundary.isRecordOf t k = true := (atBoundary_isRecordOf s t k).trans own
  have ownTurn : v.isRecordOf t k = true := (keeps.isRecordOf t k).trans ownStart
  have ownEnd : (v.boundaryTree t).isRecordOf t k = true :=
    ((State.RunsFor.boundaryTree (i := t)).keeps.isRecordOf t k).trans ownTurn
  have turn : (v.boundaryTree t).record k = (v.record k).atDisable := by
    rw [boundaryTree_of_disable pending, disableTree_record, if_pos ownTurn]
  have reset : (v.boundaryTree t).tracker k = .reset := by
    rw [boundaryTree_of_disable pending, disableTree_tracker, if_pos ownTurn]
  refine ⟨?_, ?_, fun free => ?_⟩
  · rw [after.tracker k ownEnd (by rw [reset]; rfl), reset]
  · rw [after.record k ownEnd, turn, DropRecord.atDisable, before.record k ownStart, atBoundary_record]
    rfl
  · have freeStart (x : Tree) (hx : x ≠ t) (y : LaneEntry) (hy : y ∈ (s.atBoundary.engine x).waiting) : y.dir ≠ .depart k :=
      free x hx y (((keepsOutside_atBoundary s).waiting x).subset hy)
    have freeEnd (x : Tree) (hx : x ≠ t) (y : LaneEntry) (hy : y ∈ ((v.boundaryTree t).engine x).waiting) :
        y.dir ≠ .depart k :=
      freeStart x hx y (((keeps.trans (State.RunsFor.boundaryTree (i := t)).keeps).waiting x).subset hy)
    rw [after.departed k ownEnd freeEnd, turn]
    show (v.record k).departed = _
    rw [before.departed k ownStart freeStart, atBoundary_record]

end

/-- Settles O22: a disable by its effect on each block; at a boundary the turn of its tree stands between parts that spare
the tree, and the answers of other trees to its links are the same. -/
theorem aDisableSuspendsRecordsAndEndsWaitingRequests : Obligations.ADisableSuspendsRecordsAndEndsWaitingRequests := by
  refine ⟨fun s u t enabled disable change => ?_, fun s t l r request => ?_, fun s u t h step disable => ?_,
    fun s u t h step none l waits r request noRestore => ?_⟩
  · have e := changeTree_of_pair disable change
    obtain ⟨records, others, trackers⟩ := disableTree_blocks_reset e
    subst e
    have run : s.RunsFor t (s.disableTree t) := .disableTree
    refine ⟨records, others, trackers, disableTree_load s t, fun x hx => ?_, ?_, ?_, ?_, disableTree_light s t, ?_, ?_,
      fun x hx => mem_disableTree_kept s hx, ?_, run.frame⟩
    · exact ⟨(run.spares x hx).load, (run.spares x hx).engine⟩
    · rw [disableTree_enrol]
    · rw [disableTree_enrol]
    · rw [disableTree_enrol]
    · rw [disableTree_hunt]
      rfl
    · rw [disableTree_hunt]
      rfl
    · rw [run.keeps.rest]
  · obtain ⟨enable, disable, restore⟩ := changeTree_answers s t l
    refine ⟨fun none waits => ?_, fun waits noRestore => ?_, fun pending kept => ?_⟩
    · rw [enable none waits]
      exact answered_of_request request .ok
    · rw [disable waits noRestore]
      exact answered_of_request request .ok
    · rw [restore pending kept]
      exact answered_of_request request .state
  · obtain rfl := (exec_frameBoundary_iff h).mp step
    obtain ⟨v, ⟨keeps, before⟩, keepsAfter, after⟩ := exists_turn s t
    have start := before.engine.trans (atBoundary_engine s t)
    have pending : (v.engine t).disableWaiters ≠ [] := by rwa [start]
    have frame : v.frame = s.frame + 1 := before.frame.trans (atBoundary_frame s)
    have hunt : v.hunt t = s.hunt t := before.hunt.trans (atBoundary_hunt s t)
    have turn : v.boundaryTree t = v.disableTree t := boundaryTree_of_disable pending
    intro served
    refine ⟨fun k own => ?_, ?_, ?_, ?_, ?_, fun x hx => ?_, ?_, ?_, fun l waits r request noRestore => ?_,
      fun x kept tree l r origin request noWait => ?_⟩
    · obtain ⟨tracker, record, departed⟩ := boundary_record_of_disable pending keeps before after own
      refine ⟨tracker, ?_, fun free => ?_⟩
      · rw [record, DropRecord.atDisable, offer_age_eq]
        simp only [served_iff] <;> rfl
      · rw [departed free, departedAge_eq]
    · rw [after.load, turn, disableTree_load]
      rfl
    · rw [after.enrol, turn, disableTree_enrol, before.enrol, atBoundary_enrol]
    · rw [after.light, turn, disableTree_light]
      rfl
    · rw [after.hunt, turn, disableTree_hunt, hunt, frame]
      rfl
    · obtain ⟨y, hy, tree, entry⟩ := keepsAfter.kept x hx
      rw [turn] at hy
      obtain ⟨mem, other⟩ := mem_disableTree_kept v hy
      obtain ⟨z, hz, tree', entry'⟩ := keeps.kept y mem
      exact ⟨tree ▸ other, z, by simpa using hz, tree'.trans tree, entry'.trans entry⟩
    · rw [(keepsOutside_boundary s).rest]
    · obtain ⟨first, hfirst⟩ := keeps.attention
      obtain ⟨last, hlast⟩ := keepsAfter.attention
      rw [turn, disableTree_attention, ← hfirst, atBoundary_attention, hunt] at hlast
      refine ⟨_, by rw [← hlast, List.append_assoc, List.append_assoc, List.append_assoc], fun k own isServed => ?_, ?_⟩
      · have ownStart : s.atBoundary.isRecordOf t k = true := (atBoundary_isRecordOf s t k).trans own
        have state : (v.record k).state = (s.record k).state := by rw [before.record k ownStart, atBoundary_record]
        have suspended : k ∈ v.servedRecords t :=
          (mem_servedRecords_iff ..).mpr ⟨(keeps.isRecordOf t k).trans ownStart, by rwa [state, served_iff]⟩
        refine List.mem_append_right _ (List.mem_append_left _ ?_)
        rw [← state]
        exact List.mem_map_of_mem suspended
      · by_cases idle : (s.hunt t).state = .idle <;> simp [idle, List.count_append] <;> omega
    · exact boundary_answers_waiter request (.inl waits) noRestore
    · exact boundary_answers_restore request disable kept tree origin noWait
  · obtain rfl := (exec_frameBoundary_iff h).mp step
    exact boundary_answers_waiter request (.inr ⟨none, waits⟩) noRestore

end Sys2Proof.Machine

/-! ## The dispatch and the order of a boundary (R11, R18, R122 to R124, R130, R175; log entries 5, 9, 26, 38) -/

namespace Sys2Proof.Machine

/-! ### Grants -/

theorem grantEntry_record (s : State) (t : Tree) (b : Burst) (k : Nat) : (s.grantEntry t b).record k =
    if k = b.tag ∧ s.isRecordOf t b.tag = true then (s.record k).grant b.payload else s.record k := by
  unfold State.grantEntry
  by_cases own : s.isRecordOf t b.tag = true
  · have range := range_of_isRecordOf s own
    rw [if_pos own, modRecord_record]
    by_cases hk : k = b.tag
    · subst hk
      simp [own, range]
    · simp [hk]
  · simp [own]

theorem grantEntry_isRecordOf (s : State) (t i : Tree) (b : Burst) (k : Nat) :
    (s.grantEntry t b).isRecordOf i k = s.isRecordOf i k := by
  unfold State.isRecordOf
  rw [grantEntry_record]
  split <;> rfl

theorem grantAll_record_of_not (t : Tree) (k : Nat) (l : List Burst) : ∀ s : State,
    (k ∉ l.map (·.tag) ∨ s.isRecordOf t k = false) → (s.grantAll t l).record k = s.record k := by
  induction l with
  | nil => exact fun _ _ => rfl
  | cons b rest ih =>
    intro s h
    refine (ih (s.grantEntry t b) ?_).trans ?_
    · rw [grantEntry_isRecordOf]
      exact h.imp_left fun new mem => new (List.mem_cons_of_mem _ mem)
    · rw [grantEntry_record, if_neg]
      rintro ⟨rfl, own⟩
      rcases h with new | other
      · exact new List.mem_cons_self
      · rw [own] at other
        exact Bool.false_ne_true other.symm

/-- Each planned record is granted the payload of its one entry (R122). -/
theorem grantAll_record_of_mem (t : Tree) (b : Burst) (l : List Burst) : ∀ s : State, (l.map (·.tag)).Nodup → b ∈ l →
    s.isRecordOf t b.tag = true → (s.grantAll t l).record b.tag = (s.record b.tag).grant b.payload := by
  induction l with
  | nil => exact fun _ _ h => absurd h List.not_mem_nil
  | cons c rest ih =>
    intro s distinct mem own
    obtain ⟨new, distinct'⟩ := List.nodup_cons.mp distinct
    show ((s.grantEntry t c).grantAll t rest).record b.tag = _
    rcases List.mem_cons.mp mem with rfl | mem
    · rw [grantAll_record_of_not t b.tag rest _ (.inl new), grantEntry_record, if_pos ⟨rfl, own⟩]
    · rw [ih _ distinct' mem (by rw [grantEntry_isRecordOf]; exact own), grantEntry_record, if_neg]
      rintro ⟨e, -⟩
      exact new (List.mem_map.mpr ⟨b, mem, e⟩)

/-! ### What a dispatch leaves -/

section
variable {s : State} {t : Tree} {x : Plan}

theorem planToDispatch_of_prep (h : (s.engine t).planPrep = some x) : s.planToDispatch t = x := by
  rw [State.planToDispatch, h]
  rfl

theorem dispatch_record (s : State) (t : Tree) (k : Nat) : (s.dispatch t).record k = (s.granted t).record k := by
  rw [dispatch_eq]
  rfl

theorem dispatch_dispatches (s : State) (t : Tree) : (s.dispatch t).mail.dispatches =
    s.mail.dispatches ++ (s.granted t).dispatchReports t (s.planToDispatch t) := by
  obtain ⟨records, e⟩ := granted_shape s t
  have same : (s.granted t).mail = s.mail := by
    rw [e]
    rfl
  rw [dispatch_eq, modLight_mail]
  show (s.granted t).mail.dispatches ++ _ = _
  rw [same]

theorem dispatch_light (s : State) (t : Tree) : (s.dispatch t).light t =
    (s.light t).enterPlan (tableEntry (s.planToDispatch t) (s.engine t).params) := by
  obtain ⟨records, e⟩ := granted_shape s t
  have same : (s.granted t).light t = s.light t := by
    rw [e]
    rfl
  rw [dispatch_eq, modLight_light, if_pos rfl]
  show ((s.granted t).light t).enterPlan _ = _
  rw [same]

/-- A grant moves no record in or out of ACTIVE. -/
theorem granted_active_iff (s : State) (t : Tree) (k : Nat) :
    ((s.granted t).record k).state = (s.record k).state ∧ ((s.granted t).record k).tree = (s.record k).tree := by
  have all (l : List Burst) : ∀ u : State,
      ((u.grantAll t l).record k).state = (u.record k).state ∧ ((u.grantAll t l).record k).tree = (u.record k).tree := by
    induction l with
    | nil => exact fun _ => ⟨rfl, rfl⟩
    | cons b rest ih =>
      intro u
      obtain ⟨state, tree⟩ := ih (u.grantEntry t b)
      have first : ((u.grantEntry t b).record k).state = (u.record k).state ∧
          ((u.grantEntry t b).record k).tree = (u.record k).tree := by
        rw [grantEntry_record]
        split <;> exact ⟨rfl, rfl⟩
      exact ⟨state.trans first.1, tree.trans first.2⟩
  exact all _ _

theorem mem_activeRecords_iff (s : State) (t : Tree) (k : Nat) :
    (k ∈ numbersWhere s.records fun _ r => r.state == .active && r.tree == some t) ↔
      (s.record k).state = .active ∧ (s.record k).tree = some t := by
  rw [mem_numbersWhere _ _ _ DropRecord.vacant]
  simp only [Bool.and_eq_true, beq_iff_eq]
  exact and_iff_right_of_imp fun h => record_tag_range (s := s) fun vacant => nomatch h.1.symm.trans vacant

theorem pulseGrains_eq (x : Plan) (p : TreeParams) :
    x.pulseGrains p = (if x.window = none then [] else [0]) ++ x.entries.map fun b => b.preamble - p.g := by
  unfold Plan.pulseGrains
  cases x.window <;> rfl

theorem tableEntry_eq (x : Plan) (p : TreeParams) : tableEntry x p =
    ⟨x.frame, x.entries.map fun b =>
      ⟨b.tag, (b.preamble : Int) - p.tailTol, (b.preamble : Int) + p.p + 3 + b.payload + p.tailTol⟩, x.window⟩ := rfl

/-- The state in which a tree takes its turn, as the boundary finds it (log entry 5). -/
theorem turn_start {v : State} (before : s.atBoundary.SparesTree t v) :
    v.frame = s.frame + 1 ∧ v.stepOffset = 0 ∧
      v.engine t =
        { s.engine t with
          expect := (v.engine t).expect
          planPrep := (v.engine t).planPrep
          surplusPtr := (v.engine t).surplusPtr
          compile := none } ∧
      (∃ left, (s.engine t).expect = left ++ (v.engine t).expect) ∧
      ((s.engine t).compile = none →
        (v.engine t).planPrep = (s.engine t).planPrep ∧ (v.engine t).surplusPtr = (s.engine t).surplusPtr) ∧
      ((s.engine t).compile ≠ none → (v.engine t).planPrep ≠ none) ∧
      v.load t = s.load t ∧ v.enrol t = s.enrol t ∧ v.light t = s.light t ∧ v.hunt t = s.hunt t ∧
      (∀ k, s.isRecordOf t k = true →
        v.record k = { s.record k with offer := (v.record k).offer, departed := (v.record k).departed }) ∧
      v.mail.dispatches.filter (·.tree == t) = s.mail.dispatches.filter (·.tree == t) ∧
      v.mail.downs.filter (·.tree == t) = s.mail.downs.filter (·.tree == t) := by
  have ended := finishFrame_endsPlans s
  have finished : s.atBoundary.engine t = s.finishFrame.engine t := engine_congr (atBoundary_engines s) t
  have aged : (s.advance lastStep).ageMarks.engine t = s.engine t := rfl
  refine ⟨before.frame.trans (atBoundary_frame s), before.stepOffset.trans (atBoundary_stepOffset s), ?_, ?_, fun none => ?_,
    fun inProgress => ?_, before.load.trans (atBoundary_load s t), before.enrol.trans (atBoundary_enrol s t),
    before.light.trans (atBoundary_light s t), before.hunt.trans (atBoundary_hunt s t), fun k own => ?_, ?_, ?_⟩
  · rw [before.engine]
    exact atBoundary_engine s t
  · obtain ⟨left, e⟩ := ended.expect t
    exact ⟨left, by rw [before.engine, finished, e, aged]⟩
  · rw [before.engine, finished]
    rcases ended.compile t with ⟨-, prep, ptr⟩ | ⟨some, -⟩
    · exact ⟨prep, ptr⟩
    · exact absurd none some
  · rw [before.engine, finished]
    rcases ended.compile t with ⟨same, -⟩ | ⟨-, -, prep⟩
    · rw [finishFrame_compile] at same
      exact absurd same.symm inProgress
    · exact prep
  · rw [before.record k ((atBoundary_isRecordOf s t k).trans own), atBoundary_record]
  · rw [before.dispatches, atBoundary_dispatches]
  · rw [before.downs, atBoundary_downs]

/-- A tree's turn: its change, the forgetting of an old announce, and, unless it is DISABLED, its run. -/
def State.changed (v : State) (t : Tree) : State :=
  if ((v.changeTree t).1.engine t).state = .disabled then (v.changeTree t).1
  else (v.changeTree t).1.modEngine t (·.forgetAnnounce (v.changeTree t).1.frame)

theorem changed_eq (v : State) (t : Tree) : v.changed t =
    (v.changeTree t).1.modEngine t fun x => { x with lastAnnounce := ((v.changed t).engine t).lastAnnounce } := by
  unfold State.changed
  split
  · exact (modEngine_eq_self rfl).symm
  · refine modEngine_congr ?_
    rw [modEngine_engine_self]
    exact forgetAnnounce_eq ..

theorem changed_state (v : State) (t : Tree) :
    ((v.changed t).engine t).state = ((v.changeTree t).1.engine t).state := by
  rw [changed_eq, modEngine_engine_self]

theorem changed_frame (v : State) (t : Tree) : (v.changed t).frame = v.frame := by
  rw [changed_eq]
  exact changeTree_frame v t

theorem boundaryTree_changed (v : State) (t : Tree) : ∃ kept, v.boundaryTree t =
    { (if ((v.changed t).engine t).state = .disabled then v.changed t
        else ((v.changed t).counted t (v.changeTree t).2).startCompile t (v.frame + 1)) with kept := kept } := by
  rw [boundaryTree_eq, changed_state]
  by_cases disabled : ((v.changeTree t).1.engine t).state = .disabled
  · rw [if_pos disabled, if_pos disabled, State.changed, if_pos disabled]
    exact ⟨(v.changeTree t).1.kept, rfl⟩
  · have frame : ((v.changed t).counted t (v.changeTree t).2).frame = v.frame :=
      (State.RunsFor.counted (i := t) _).frame.trans (changed_frame v t)
    rw [if_neg disabled, if_neg disabled, runTree_eq]
    rw [State.changed, if_neg disabled] at frame ⊢
    dsimp only
    rw [frame]
    exact ⟨_, rfl⟩

theorem State.SparesTree.seen {s u : State} {kept : List Kept} (h : ({ s with kept := kept } : State).SparesTree t u) :
    u.engine t = s.engine t ∧ u.load t = s.load t ∧ u.enrol t = s.enrol t ∧ u.light t = s.light t ∧ u.hunt t = s.hunt t ∧
      (∀ k, ({ s with kept := kept } : State).isRecordOf t k = true →
        u.record k = { s.record k with departed := (u.record k).departed }) ∧
      u.mail.dispatches.filter (·.tree == t) = s.mail.dispatches.filter (·.tree == t) ∧
      u.mail.downs.filter (·.tree == t) = s.mail.downs.filter (·.tree == t) :=
  ⟨h.engine, h.load, h.enrol, h.light, h.hunt, h.record, h.dispatches, h.downs⟩

/-- A tree with no change due takes none. -/
theorem changeTree_of_nothing_due {v : State} (enable : (v.engine t).enableWaiters = [])
    (disable : (v.engine t).disableWaiters = []) (cut : (v.engine t).state = .running → (v.hunt t).cutPending = false)
    (resume : (v.engine t).state = .cut → (v.engine t).resumePending = false) : v.changeTree t = (v, false) := by
  rw [changeTree_of_none v t disable enable, if_neg, if_neg]
  · rintro ⟨state, pending⟩
    rw [resume state] at pending
    exact Bool.false_ne_true pending
  · rintro ⟨state, pending⟩
    rw [cut state] at pending
    exact Bool.false_ne_true pending

end

/-- Settles O23: the dispatch field by field; at a boundary the tree's turn stands between parts that spare the tree. -/
theorem dispatchPutsThePlanInForce : Obligations.DispatchPutsThePlanInForce := by
  refine ⟨fun s t x prep distinct => ?_, fun s u t h step => ?_⟩
  · have plan := planToDispatch_of_prep prep
    rw [dispatch_engine, dispatch_light, dispatch_dispatches, plan]
    refine ⟨rfl, rfl, ?_, ?_, fun b mem isRecord => ?_, fun k other => ?_, fun noCut => ?_, fun cut => ?_⟩
    · rw [Engine.inForce, pulseGrains_eq]
    · rw [tableEntry_eq]
      rfl
    · rw [dispatch_record, State.granted, plan, grantAll_record_of_mem t b _ (s.modEngine t _) distinct mem isRecord]
      rfl
    · rw [dispatch_record, State.granted, plan, grantAll_record_of_not t k _ (s.modEngine t _) other]
      rfl
    · rw [State.dispatchReports, if_neg (by simp [noCut]), List.append_assoc]
    · refine ⟨numbersWhere (s.granted t).records fun _ r => r.state == .active && r.tree == some t, numbersWhere_nodup ..,
        fun k => ?_, ?_⟩
      · rw [mem_activeRecords_iff, (granted_active_iff s t k).1, (granted_active_iff s t k).2]
      · rw [State.dispatchReports, if_pos cut]
  · obtain rfl := (exec_frameBoundary_iff h).mp step
    obtain ⟨v, ⟨keeps, before⟩, keepsAfter, after⟩ := exists_turn s t
    have facts := turn_start before
    obtain ⟨frame, -, start, -, -, -, -, -, -, hunt, -⟩ := facts
    refine ⟨v, v.changed t, turn_start before, fun enable disable cut resume => ?_, changed_eq v t, ?_⟩
    · refine changeTree_of_nothing_due ?_ ?_ ?_ ?_
      · rwa [start]
      · rwa [start]
      · rwa [start, hunt]
      · rwa [start]
    · obtain ⟨kept, turn⟩ := boundaryTree_changed v t
      have next : v.frame + 1 = s.frame + 2 := by
        rw [frame, BitVec.add_assoc]
        rfl
      have ownEnd (k : Nat) (own : s.isRecordOf t k = true) : (v.boundaryTree t).isRecordOf t k = true := by
        rw [(State.RunsFor.boundaryTree (i := t)).keeps.isRecordOf, keeps.isRecordOf, atBoundary_isRecordOf, own]
      rw [next] at turn
      rw [turn] at after ownEnd
      intro placed scanned counted last
      have same : counted = (v.changed t).counted t (v.changeTree t).2 := rfl
      have same' : last = if ((v.changed t).engine t).state = .disabled then v.changed t
        else ((v.changed t).counted t (v.changeTree t).2).startCompile t (s.frame + 2) := by rw [← same]
      rw [same']
      obtain ⟨engine, load, enrol, light, hunt, record, dispatches, downs⟩ := after.seen
      exact ⟨engine, load, enrol, light, hunt, fun k own => record k (ownEnd k own), dispatches, downs⟩

end Sys2Proof.Machine

/-! ## Places, placements and marks (R15, R62, R76, R91, R155; log entries 5, 10, 13, 36) -/

namespace Sys2Proof.Machine

/-! ### What a place takes -/

theorem free_iff (p : Option Place) (now : FrameNo) :
    Place.free p now = true ↔ ∀ x, p = some x → 3 ≤ (now - x.carriage).toInt := by
  cases p with
  | none => simp [Place.free]
  | some x =>
    simp only [Place.free, Option.some.injEq, forall_eq']
    exact atLeastAfter_iff 3 x.carriage now

section
variable {s : State} {t : Tree} {i : Fin 4}

theorem fillPlace_of_not_free (h : ¬ Place.free (s.engine t).places[i.val] s.frame = true) : s.fillPlace t i = s :=
  if_neg h

theorem fillPlace_urgent {x : LaneEntry} {rest : List LaneEntry}
    (h : Place.free (s.engine t).places[i.val] s.frame = true) (urgent : (s.engine t).urgent = x :: rest) :
    s.fillPlace t i =
      (s.modEngine t fun e => { e with urgent := rest, places := e.places.set i.val (some ⟨x, s.frame⟩) }).placed t x := by
  unfold State.fillPlace
  dsimp only
  rw [if_pos h, urgent]

theorem fillPlace_normal {x : LaneEntry} {rest : List LaneEntry}
    (h : Place.free (s.engine t).places[i.val] s.frame = true) (urgent : (s.engine t).urgent = [])
    (normal : (s.engine t).normal = x :: rest) :
    s.fillPlace t i =
      (s.modEngine t fun e => { e with normal := rest, places := e.places.set i.val (some ⟨x, s.frame⟩) }).placed t x := by
  unfold State.fillPlace
  dsimp only
  rw [if_pos h, urgent, normal]

theorem fillPlace_empty (h : Place.free (s.engine t).places[i.val] s.frame = true) (urgent : (s.engine t).urgent = [])
    (normal : (s.engine t).normal = []) :
    s.fillPlace t i = s.modEngine t fun e => { e with places := e.places.set i.val none } := by
  unfold State.fillPlace
  dsimp only
  rw [if_pos h, urgent, normal]

end

/-! ### What a placement does -/

section
variable (s : State) (t : Tree) (origin : Origin)

/-- The offer that was placed is the latest for its record (R76). -/
def State.sendsOffer (s : State) (t : Tree) (serial : Serial) (k : Nat) : Prop :=
  s.isRecordOf t k = true ∧ (s.record k).serial = some serial ∧ (s.record k).offer = .waiting ∧ s.offerWaits t k = false

theorem isOffer_iff (k : Nat) (d : Directive) : d.isOffer k = true ↔ ∃ serial delay, d = .enrolOffer serial k delay := by
  cases d <;> simp [Directive.isOffer]

theorem offerWaits_iff (k : Nat) : s.offerWaits t k = true ↔
    (∃ y ∈ s.kept, ∃ serial delay, y.entry = ⟨.enrolOffer serial k delay, .offer⟩) ∨
      ∃ y ∈ (s.engine t).normal, ∃ serial delay, y.dir = .enrolOffer serial k delay := by
  rw [State.offerWaits, Bool.or_eq_true, List.any_eq_true, List.any_eq_true]
  refine or_congr (exists_congr fun y => and_congr_right fun _ => ?_) (exists_congr fun y => and_congr_right fun _ => ?_)
  · rw [Kept.isOffer, Bool.and_eq_true, beq_iff_eq, isOffer_iff]
    obtain ⟨-, ⟨dir, origin⟩, -⟩ := y
    constructor
    · rintro ⟨rfl, serial, delay, rfl⟩
      exact ⟨serial, delay, rfl⟩
    · rintro ⟨serial, delay, e⟩
      cases e
      exact ⟨rfl, serial, delay, rfl⟩
  · exact isOffer_iff ..

theorem placed_offer_of_sends {serial : Serial} {k delay : Nat} (h : s.sendsOffer t serial k) :
    s.placed t ⟨.enrolOffer serial k delay, .offer⟩ =
      (s.modTracker k (·.place s.frame)).modRecord k fun r => { r with offer := .sent s.frame } :=
  if_pos h

theorem placed_offer_of_not_sends {serial : Serial} {k delay : Nat} (h : ¬ s.sendsOffer t serial k) :
    s.placed t ⟨.enrolOffer serial k delay, .offer⟩ = s.modTracker k (·.place s.frame) :=
  if_neg h

theorem placed_setDelay (k delay : Nat) :
    s.placed t ⟨.setDelay k delay, origin⟩ = s.modTracker k (·.place s.frame) := by cases origin <;> rfl

theorem placed_depart (k : Nat) :
    s.placed t ⟨.depart k, origin⟩ = s.modRecord k fun r => { r with departed := some s.frame } := by cases origin <;> rfl

/-- A round has each of its directives placed (R155). -/
def allPlaced (dirs : List RoundDir) : Bool :=
  dirs.all fun y => match y.status with | .placed _ => true | .waiting | .kept => false

theorem placedRound_eq (h : Hunt) (d : Directive) (now : FrameNo) : h.placedRound d now =
    { h with
      roundDirs := (h.setRound d (.placed now)).roundDirs
      pendingTest := if allPlaced (h.setRound d (.placed now)).roundDirs then .frame (now + 3) else h.pendingTest } := by
  unfold Hunt.placedRound
  dsimp only
  by_cases all : allPlaced (h.setRound d (.placed now)).roundDirs = true
  · rw [if_pos all]
    exact if_pos all
  · rw [if_neg all]
    exact if_neg all

theorem placed_round (d : Directive) (h : (∃ a b, d = .laserHold a b) ∨ ∃ a b, d = .laserRelease a b) :
    s.placed t ⟨d, .huntRound⟩ = s.modHunt t (·.placedRound d s.frame) := by
  rcases h with ⟨a, b, rfl⟩ | ⟨a, b, rfl⟩ <;> rfl

/-- No other placement changes anything. -/
theorem placed_other {d : Directive} (round : origin ≠ .huntRound) (offer : ∀ serial k delay, d ≠ .enrolOffer serial k delay)
    (delay : ∀ k n, d ≠ .setDelay k n) (depart : ∀ k, d ≠ .depart k) : s.placed t ⟨d, origin⟩ = s := by
  unfold State.placed
  split
  · rename_i dir
    exact (offer _ _ _ dir).elim
  · rename_i dir
    exact (delay _ _ dir).elim
  · rename_i dir
    exact (depart _ dir).elim
  · rename_i isRound _ _
    exact absurd isRound round
  · rfl

/-- A DEPART placed while no other waits is carried; one placed while another waits stays pending (R62). -/
theorem placed_depart_departure {k : Nat} (range : 1 ≤ k ∧ k ≤ 256) :
    (s.departWaits k → (s.placed t ⟨.depart k, origin⟩).departure k = .pending) ∧
      (¬ s.departWaits k → (s.placed t ⟨.depart k, origin⟩).departure k = .carried s.frame) := by
  rw [placed_depart]
  have same : (s.modRecord k fun r => { r with departed := some s.frame }).departWaits k ↔ s.departWaits k := .rfl
  refine ⟨fun waits => departure_of_waits (same.mpr waits), fun none => ?_⟩
  rw [departure_of_not_waits (mt same.mp none), modRecord_record, if_pos ⟨rfl, range⟩]
  rfl

end

/-- Settles O24: the places by what a free one takes, each placement by its directive, and the marks by their commands. -/
theorem placesAndMarksFollowTheFrameCount : Obligations.PlacesAndMarksFollowTheFrameCount := by
  refine ⟨fun s t i => ?_, fun s t x => ?_, fun k s h => ⟨?_, ?_, ?_⟩⟩
  · intro e isFree
    have free : Place.free (s.engine t).places[i.val] s.frame = true ↔ isFree := free_iff ..
    exact ⟨fun h => fillPlace_of_not_free (mt free.mp h), fun h x rest urgent => fillPlace_urgent (free.mpr h) urgent,
      fun h urgent x rest normal => fillPlace_normal (free.mpr h) urgent normal,
      fun h urgent normal => fillPlace_empty (free.mpr h) urgent normal⟩
  · obtain ⟨dir, origin⟩ := x
    intro settling anyWaits
    refine ⟨fun serial k delay e => ?_, fun k delay e => ?_, fun k e => ?_, fun a b e => ?_, fun a b round e => ?_⟩
    · cases e
      intro sends
      have sends_iff : s.sendsOffer t serial k ↔ sends := by
        unfold State.sendsOffer
        rw [← Bool.not_eq_true, offerWaits_iff]
      exact ⟨fun h => placed_offer_of_sends s t (sends_iff.mpr h),
        fun h => placed_offer_of_not_sends s t (mt sends_iff.mp h)⟩
    · obtain rfl : dir = .setDelay k delay := e
      exact placed_setDelay s t origin k delay
    · obtain rfl : dir = .depart k := e
      exact ⟨placed_depart s t origin k, fun low high => placed_depart_departure s t origin ⟨low, high⟩⟩
    · have placed : s.placed t ⟨dir, origin⟩ = s.modHunt t (·.placedRound dir s.frame) := by
        rcases e with e | e <;> cases e
        · exact placed_round s t _ (.inl ⟨a, b, rfl⟩)
        · exact placed_round s t _ (.inr ⟨a, b, rfl⟩)
      exact placed.trans (congrArg (s.modHunt t) (funext fun h => placedRound_eq h dir s.frame))
    · refine placed_other s t origin round ?_ ?_ ?_ <;> rcases e with e | e | e | e <;> cases e <;> exact nofun
  · rw [show exec (.offerDelivered k) s = _ from live_out s _ h]
    simp only [offer_age_eq] <;> rfl
  · rw [show exec (.settleMarkSettled k) s = _ from live_out s _ h]
    simp only [mark_age_eq] <;> rfl
  · rw [show exec (.departureClears k) s = _ from live_out s _ h]
    simp only [departedAge_eq]

end Sys2Proof.Machine

/-! ## RX_RESET pulses and input samples (R3, R18, R19, R131, R151; log entry 4) -/

namespace Sys2Proof.Machine

/-! ### Pulses -/

section
variable {s : State} {t : Tree}

/-- The pulse `g` of an awaited plan falls now. -/
def State.pulseDue (s : State) (t : Tree) (a : Awaited) (g : Nat) : Prop :=
  s.stepsSince a.plan.frame = ((s.engine t).params.tTarget : Int) + 8 * g

theorem pulseNow_eq_some {a : Awaited} {g : Nat} (h : s.pulseNow t a = some g) : g ∈ a.pulses ∧ s.pulseDue t a g :=
  ⟨List.mem_of_find?_eq_some h, by simpa [State.pulseDue] using List.find?_some h⟩

theorem pulseNow_isSome_iff (a : Awaited) : (s.pulseNow t a).isSome = true ↔ ∃ g ∈ a.pulses, s.pulseDue t a g := by
  simp [State.pulseNow, State.pulseDue, List.find?_isSome]

/-- A pulse `g` driven now for the plan of a frame: it leaves that plan's pulses (R18). -/
def Engine.drive (e : Engine) (now : FrameNo × Nat) (frame : FrameNo) (g : Nat) : Engine :=
  { e with
    rxPulse := some now
    expect := e.expect.map fun b => if b.plan.frame = frame then { b with pulses := b.pulses.filter (· != g) } else b }

theorem pulse_of_due (h : ∃ a ∈ (s.engine t).expect, ∃ g ∈ a.pulses, s.pulseDue t a g) :
    ∃ a ∈ (s.engine t).expect, ∃ g ∈ a.pulses, s.pulseDue t a g ∧
      s.pulse t = s.modEngine t (·.drive (s.frame, s.stepOffset) a.plan.frame g) := by
  cases first : (s.engine t).expect.find? fun a => (s.pulseNow t a).isSome with
  | none =>
    obtain ⟨a, mem, due⟩ := h
    exact absurd ((pulseNow_isSome_iff a).mpr due) (List.find?_eq_none.mp first a mem)
  | some a =>
    have isDue : (s.pulseNow t a).isSome = true := by simpa using List.find?_some first
    obtain ⟨g, now⟩ := Option.isSome_iff_exists.mp isDue
    obtain ⟨mem, due⟩ := pulseNow_eq_some now
    refine ⟨a, List.mem_of_find?_eq_some first, g, mem, due, ?_⟩
    have same (j : Nat) : (some j != some g) = (j != g) := by simp [bne]
    unfold State.pulse
    rw [first]
    simp only [now, same]
    rfl

theorem pulse_of_none_due (h : ∀ a ∈ (s.engine t).expect, ∀ g ∈ a.pulses, ¬ s.pulseDue t a g) : s.pulse t = s := by
  have none : ((s.engine t).expect.find? fun a => (s.pulseNow t a).isSome) = none := by
    refine List.find?_eq_none.mpr fun a mem isDue => ?_
    obtain ⟨g, hg, due⟩ := (pulseNow_isSome_iff a).mp isDue
    exact h a mem g hg due
  rw [State.pulse, none]

end

theorem exec_rxResetPulse_eq {s : State} (h : s.OutOfReset) (t : Tree) (offset : Nat) :
    exec (.rxResetPulse t offset) s = .next ((s.advance offset).pulse t) := live_out s _ h

/-- Settles O26: the first awaited plan with a pulse due now, or none. -/
theorem rxResetPulsesAtThePlannedStep : Obligations.RxResetPulsesAtThePlannedStep := by
  intro t offset s h now due
  have due_iff (a : Awaited) (g : Nat) : (s.advance offset).pulseDue t a g ↔ due a g := .rfl
  refine ⟨fun isDue => ?_, fun notDue => ?_⟩
  · obtain ⟨a, mem, g, hg, pulseDue, e⟩ := pulse_of_due (s := s.advance offset) (t := t) isDue
    refine ⟨a, mem, g, hg, pulseDue, ?_⟩
    rw [exec_rxResetPulse_eq h, e]
    rfl
  · rw [exec_rxResetPulse_eq h, pulse_of_none_due (s := s.advance offset) (t := t) notDue]
    rfl

/-! ### Input samples -/

/-- What the judgement of a light sample can change (R19, R131, R151). -/
structure State.OnlyJudges (s u : State) : Prop where
  rest : u = { s with lights := u.lights, hunts := u.hunts, log := u.log, overflow := u.overflow, mail := u.mail } := by rfl
  cutIns : u.mail.cutIns = s.mail.cutIns := by rfl

theorem State.OnlyJudges.refl (s : State) : s.OnlyJudges s := {}

theorem State.OnlyJudges.trans {s u v : State} (h : s.OnlyJudges u) (h' : u.OnlyJudges v) : s.OnlyJudges v where
  rest := by rw [h'.rest, h.rest]
  cutIns := h'.cutIns.trans h.cutIns

section
variable {s : State} {t : Tree}

theorem State.OnlyJudges.modLight (f : LightWatch → LightWatch) : s.OnlyJudges (s.modLight t f) := {}

theorem State.OnlyJudges.observe (o : Observation) : s.OnlyJudges (s.observe o) := by
  unfold State.observe
  split
  · exact {}
  · split
    · exact {}
    · split
      · exact .refl s
      · exact {}

theorem State.OnlyJudges.checkTrigger : s.OnlyJudges (s.checkTrigger t) := by
  unfold State.checkTrigger
  split
  · exact {}
  · exact .refl s

theorem State.OnlyJudges.historyAt (frame : FrameNo) : s.OnlyJudges (s.historyAt t frame) := by
  unfold State.historyAt
  split
  · exact .modLight _
  · split
    · exact (State.OnlyJudges.modLight _).trans .checkTrigger
    · exact .refl s

theorem State.OnlyJudges.markStray (frame : FrameNo) : s.OnlyJudges (s.markStray t frame) := by
  unfold State.markStray
  split
  · exact .refl s
  · split
    · exact .modLight _
    · split
      · exact (State.OnlyJudges.modLight _).trans .checkTrigger
      · exact .refl s

theorem State.OnlyJudges.chargedEvent (kind : ObsKind) (tag : Option Nat) (frame : FrameNo) :
    s.OnlyJudges (s.chargedEvent t kind tag frame) := by
  unfold State.chargedEvent
  split
  · rename_i k
    split
    · have struck (u : State) : u.OnlyJudges (u.sendStrike t k) := {}
      exact (State.OnlyJudges.observe _).trans (struck _)
    · exact .observe _
  · exact .observe _

theorem State.OnlyJudges.lightEvent (attribution : Attribution) (frame : FrameNo) :
    s.OnlyJudges (s.lightEvent t attribution frame) := by
  unfold State.lightEvent
  split
  · exact .chargedEvent ..
  all_goals exact (State.OnlyJudges.markStray frame).trans (.observe _)

theorem State.OnlyJudges.judge (frame : FrameNo) (grain : Nat) (present : Bool) :
    s.OnlyJudges (s.judge t frame grain present) := by
  unfold State.judge
  dsimp only
  split
  · exact .refl s
  · split
    · split
      · exact (State.OnlyJudges.historyAt frame).trans (.modLight _)
      · exact ((State.OnlyJudges.historyAt frame).trans (.modLight _)).trans (.lightEvent ..)
    · exact (State.OnlyJudges.historyAt frame).trans (.modLight _)

theorem State.OnlyJudges.deliverLight : s.OnlyJudges (s.deliverLight t) := by
  unfold State.deliverLight
  dsimp only
  split
  · exact {}
  · exact .judge ..

/-- A position lies in a DARK window of an awaited plan (R151). -/
theorem darkAt_iff (e : Engine) (frame : FrameNo) (grain : Nat) : e.darkAt frame grain = true ↔
    ∃ a ∈ e.expect, a.plan.frame = frame ∧ ∃ width, a.plan.window = some (.dark width) ∧ grain < width := by
  have window (w : Option Window) : (match w with | some (.dark width) => decide (grain < width) | _ => false) = true ↔
      ∃ width, w = some (.dark width) ∧ grain < width := by
    match w with
    | none => simp
    | some (.dark width) => simp
    | some (.range ..) => simp
    | some .discover => simp
  rw [Engine.darkAt, List.any_eq_true]
  refine exists_congr fun a => and_congr_right fun _ => ?_
  rw [Bool.and_eq_true, beq_iff_eq]
  exact and_congr_right fun _ => window a.plan.window

theorem judge_of_not_judged {frame : FrameNo} {grain : Nat} {present : Bool}
    (h : (s.engine t).state = .disabled ∨ ∀ x ∈ (s.light t).table, x.frame ≠ frame) :
    s.judge t frame grain present = s := by
  refine if_pos (h.imp_right fun none => .inl ?_)
  rw [List.any_eq_false]
  exact fun x hx => by simpa using none x hx

end

/-- The inputs of an engine with a sample of each taken (R19). -/
def Engine.sampled (e : Engine) (light cutIn : Bool) : Engine :=
  { e with light := e.light.take light, cutIn := e.cutIn.take cutIn }

/-- The report of a change of CUT_IN at a sample (R19). -/
def cutReports (t : Tree) (before after : Bool) : List CutReport := if after = before then [] else [⟨t, after⟩]

theorem filterInputs_eq (s : State) (t : Tree) (light cutIn : Bool) : s.filterInputs t light cutIn =
    { s.modEngine t fun _ => (s.engine t).sampled light cutIn with
      mail := { s.mail with
        cutIns := s.mail.cutIns ++ cutReports t (s.engine t).cutInAsserted ((s.engine t).sampled light cutIn).cutInAsserted } } := by
  have taken : ((s.modEngine t fun e => { e with light := e.light.take light, cutIn := e.cutIn.take cutIn }).engine t) =
      (s.engine t).sampled light cutIn := modEngine_engine_self ..
  unfold State.filterInputs cutReports
  dsimp only
  rw [taken]
  by_cases same : (s.engine t).cutInAsserted = ((s.engine t).sampled light cutIn).cutInAsserted
  · rw [if_pos same, if_pos same.symm, List.append_nil]
    rfl
  · rw [if_neg same, if_neg (Ne.symm same)]
    rfl

theorem exec_inputSample_eq {s : State} (h : s.OutOfReset) (t : Tree) (sample : Nat) (light cutIn : Bool) :
    exec (.inputSample t sample light cutIn) s =
      .next (((s.advance (32 * sample)).filterInputs t light cutIn).deliverLight t) := live_out s _ h

/-- Settles O27: the filters by `filterInputs_eq`, the delivery by what it can change and by the position it judges. -/
theorem inputSamplesAreFilteredAndJudged : Obligations.InputSamplesAreFilteredAndJudged := by
  refine ⟨fun t sample light cutIn s h => ?_, fun s t => ?_⟩
  · intro filtered reported sampled
    have start : (s.advance (32 * sample)).filterInputs t light cutIn = sampled := filterInputs_eq ..
    have run := State.OnlyJudges.deliverLight (s := sampled) (t := t)
    have engines : (sampled.deliverLight t).engines = sampled.engines := by rw [run.rest]
    refine ⟨sampled.deliverLight t, ?_, rfl, fun x hx => ?_, ?_, run.cutIns, ?_⟩
    · rw [exec_inputSample_eq h, start]
    · rw [engine_congr engines]
      exact (modEngine_engine s t x fun _ => filtered).trans (if_neg hx)
    · rw [engine_congr engines]
      exact modEngine_engine_self s t fun _ => filtered
    · rw [engines]
      exact run.rest
  · intro steps frame grain
    have delivered : s.deliverLight t =
        if (s.engine t).darkAt frame grain then s.modHunt t (·.lightSample frame (s.engine t).light.level)
        else s.judge t frame grain (s.engine t).light.level := rfl
    rw [delivered]
    refine ⟨fun dark => ?_, fun light => ?_⟩
    · rw [if_pos ((darkAt_iff ..).mpr dark)]
      rfl
    · have notDark : ¬ (s.engine t).darkAt frame grain = true := by
        rw [darkAt_iff]
        rintro ⟨a, mem, same, width, window, inside⟩
        have := light a mem same width window
        omega
      rw [if_neg notDark]
      exact ⟨rfl, judge_of_not_judged⟩

end Sys2Proof.Machine

/-! ## The capture of a LOCK pulse (R7, R27, R32, R37; log entries 4 and 23) -/

namespace Sys2Proof.Machine

/-! ### What a bad header or a cut can change -/

/-- What the capture of a LOCK pulse changes of a tree: the plans awaited, the last announce, and reports. -/
structure State.OnlyReceives (t : Tree) (s u : State) : Prop where
  rest : u = { s with engines := u.engines, mail := u.mail } := by rfl
  others : ∀ x, x ≠ t → u.engine x = s.engine x := by exact fun _ _ => rfl
  engine : u.engine t = { s.engine t with
    expect := (u.engine t).expect, lastAnnounce := (u.engine t).lastAnnounce } := by rfl

theorem State.OnlyReceives.refl (t : Tree) (s : State) : s.OnlyReceives t s := {}

theorem State.OnlyReceives.trans {t : Tree} {s u v : State} (h : s.OnlyReceives t u) (h' : u.OnlyReceives t v) :
    s.OnlyReceives t v where
  rest := by rw [h'.rest, h.rest]
  others x hx := (h'.others x hx).trans (h.others x hx)
  engine := by rw [h'.engine, h.engine]

/-- Two states in which tree `t` hears the same: a header that is bad in one has the same outcome in the other. -/
structure State.HearsAs (t : Tree) (s s' : State) : Prop where
  mail : s.mail = s'.mail
  expect : (s.engine t).expect = (s'.engine t).expect
  params : (s.engine t).params = (s'.engine t).params
  lastAnnounce : (s.engine t).lastAnnounce = (s'.engine t).lastAnnounce

section
variable {s s' : State} {t : Tree}

theorem State.OnlyReceives.modMail (f : Mail → Mail) : s.OnlyReceives t (s.modMail f) := {}

theorem State.OnlyReceives.modEngine {f : Engine → Engine} (h : f (s.engine t) = { s.engine t with
    expect := (f (s.engine t)).expect, lastAnnounce := (f (s.engine t)).lastAnnounce }) :
    s.OnlyReceives t (s.modEngine t f) where
  others x hx := by rw [modEngine_engine, if_neg hx]
  engine := by rw [modEngine_engine_self]; exact h

theorem State.OnlyReceives.modAwaited (frame : FrameNo) (f : Awaited → Awaited) :
    s.OnlyReceives t (s.modAwaited t frame f) := .modEngine rfl

theorem unsolicited_bad (s : State) (t : Tree) (frame : FrameNo) (offset : Nat) : s.unsolicited t frame offset .bad =
    s.modMail fun m => { m with lights := m.lights ++ [⟨t, frame, .stray, some offset⟩] } := rfl

theorem slotOutcome_bad (s : State) (t : Tree) (frame : FrameNo) (offset : Nat) (b : Burst) (payload : List Byte) :
    s.slotOutcome t frame offset b .bad payload =
      s.modMail fun m => { m with misses := m.misses ++ [⟨t, b.tag, b.payload⟩] } := rfl

theorem discoveryCapture_bad (s : State) (t : Tree) (frame : FrameNo) (offset : Nat) :
    s.discoveryCapture t frame offset .bad = s.modMail fun m =>
      { m with discovery := m.discovery ++ [⟨t, frame, .badHeader ((s.engine t).overlaps frame offset)⟩] } := rfl

theorem rangingCapture_bad (s : State) (t : Tree) (a : Awaited) (offset tag expected : Nat) :
    s.rangingCapture t a offset tag expected .bad =
      if a.windowHit then s
      else (s.modAwaited t a.plan.frame fun a => { a with windowHit := true }).modMail fun m =>
        { m with
          ranging := m.ranging ++
            [⟨t, a.plan.frame, tag, .capture offset (sampleOf offset expected (s.engine t).params.p) none⟩] } := by
  have params : ((s.modAwaited t a.plan.frame fun a => { a with windowHit := true }).engine t).params =
      (s.engine t).params := by
    rw [State.modAwaited, modEngine_engine_self]
  unfold State.rangingCapture
  dsimp only
  rw [params]
  rfl

theorem State.OnlyReceives.resolve_bad (frame : FrameNo) (offset : Nat) :
    s.OnlyReceives t (s.resolve t frame offset .bad []) := by
  unfold State.resolve
  simp only [unsolicited_bad, slotOutcome_bad, discoveryCapture_bad, rangingCapture_bad]
  split
  · exact .modMail _
  · split
    · split
      · exact .modMail _
      · exact (State.OnlyReceives.modAwaited ..).trans (.modMail _)
    · split
      · exact .modMail _
      · exact .refl t s
      · split
        · exact .refl t s
        · exact (State.OnlyReceives.modAwaited ..).trans (.modMail _)
      · exact .modMail _

theorem State.OnlyReceives.cutReception (r : Reception) : s.OnlyReceives t (s.cutReception t r) := by
  unfold State.cutReception
  split
  · dsimp only
    split
    · exact (State.OnlyReceives.resolve_bad ..).trans (.modEngine rfl)
    · exact .resolve_bad ..
  · exact .modMail _

theorem State.OnlyReceives.cutAll (l : List Reception) :
    ∀ s : State, s.OnlyReceives t (l.foldl (fun s r => s.cutReception t r) s) := by
  induction l with
  | nil => exact .refl t
  | cons r rest ih => exact fun s => (State.OnlyReceives.cutReception r).trans (ih _)

theorem State.HearsAs.modMail (h : s.HearsAs t s') (f : Mail → Mail) : (s.modMail f).HearsAs t (s'.modMail f) :=
  ⟨congrArg f h.mail, h.expect, h.params, h.lastAnnounce⟩

theorem State.HearsAs.modAwaited (h : s.HearsAs t s') (frame : FrameNo) (f : Awaited → Awaited) :
    (s.modAwaited t frame f).HearsAs t (s'.modAwaited t frame f) := by
  refine ⟨h.mail, ?_, ?_, ?_⟩ <;> simp only [State.modAwaited, modEngine_engine_self]
  · rw [h.expect]
  · exact h.params
  · exact h.lastAnnounce

theorem State.HearsAs.resolve_bad (h : s.HearsAs t s') (frame : FrameNo) (offset : Nat) :
    (s.resolve t frame offset .bad []).HearsAs t (s'.resolve t frame offset .bad []) := by
  unfold State.resolve
  simp only [unsolicited_bad, slotOutcome_bad, discoveryCapture_bad, rangingCapture_bad, h.expect, h.params, Engine.overlaps,
    h.lastAnnounce]
  split
  · exact h.modMail _
  · split
    · split
      · exact h.modMail _
      · exact (h.modAwaited ..).modMail _
    · split
      · exact h.modMail _
      · exact h
      · split
        · exact h
        · exact (h.modAwaited ..).modMail _
      · exact h.modMail _

/-- A cut header has the outcome of a bad one (R27, R32). -/
theorem cutReception_header (s : State) {r : Reception} (h : r.stage = .header) :
    (s.cutReception t r).mail = (s.resolve t r.frame r.s .bad []).mail ∧
      ((s.cutReception t r).engine t).expect = ((s.resolve t r.frame r.s .bad []).engine t).expect := by
  unfold State.cutReception
  rw [h]
  dsimp only
  split
  · rw [modEngine_engine_self]
    exact ⟨rfl, rfl⟩
  · exact ⟨rfl, rfl⟩

/-- Announces cut short are reported, in the order of their capture (R37). -/
theorem cutAll_announces (t : Tree) (l : List Reception) : ∀ s : State, (∀ r ∈ l, r.stage ≠ .header) →
    l.foldl (fun s r => s.cutReception t r) s = s.modMail fun m =>
      { m with discovery := m.discovery ++ l.map fun r => ⟨t, r.frame, .cutShort⟩ } := by
  induction l with
  | nil =>
    intro s _
    simp [State.modMail]
  | cons r rest ih =>
    intro s h
    have first : s.cutReception t r = s.tellDiscovery t r.frame .cutShort := by
      unfold State.cutReception
      split
      · rename_i header
        exact absurd header (h r List.mem_cons_self)
      · rfl
    rw [List.foldl_cons, ih _ fun x hx => h x (List.mem_cons_of_mem r hx), first]
    simp [State.modMail, State.tellDiscovery]

end

/-! ### The capture -/

/-- The receptions of a tree that a capture cuts short are taken from it. -/
def Engine.cutAt (e : Engine) (frame : FrameNo) (offset : Nat) : Engine :=
  { e with receptions := e.receptions.filter fun r => !r.cutBy frame offset }

theorem cutBy_iff (r : Reception) (frame : FrameNo) (offset : Nat) : r.cutBy frame offset = true ↔
    -8 < captureDist r.frame r.s frame offset ∧
      captureDist r.frame r.s frame offset < if r.stage = .header then 24 else 56 := by
  unfold Reception.cutBy soonAfter
  cases h : r.stage <;> simp

/-- The upstream frame and offset of a capture (R3, R27). -/
def State.capturePos (s : State) (t : Tree) (phase : Fin 8) : FrameNo × Nat :=
  let pos := upstreamPos s.frame s.stepOffset (s.engine t).params.tTarget 0
  (pos.1, 8 * (pos.2 / 8) + phase.val)

/-- The state in which what a capture at a position cuts short is judged. -/
def State.cutting (s : State) (t : Tree) (frame : FrameNo) (offset : Nat) : State :=
  ((s.engine t).receptions.filter (·.cutBy frame offset)).foldl (fun s r => s.cutReception t r)
    (s.modEngine t (·.cutAt frame offset))

theorem capture_eq (s : State) (t : Tree) (phase : Fin 8) : s.capture t phase =
    (s.cutting t (s.capturePos t phase).1 (s.capturePos t phase).2).modEngine t fun e =>
      { e with receptions := e.receptions ++ [⟨(s.capturePos t phase).1, (s.capturePos t phase).2, .header⟩] } := rfl

theorem exec_lockCapture_eq {s : State} (h : s.OutOfReset) (t : Tree) (offset : Nat) (phase : Fin 8) :
    exec (.lockCapture t offset phase) s =
      .next (if (s.engine t).state = .disabled then s.advance offset else (s.advance offset).capture t phase) :=
  live_out s _ h

/-- A header not received whole is bad (R27). -/
theorem exec_headerReceipt_of_cut {s : State} (h : s.OutOfReset) {t : Tree} {r : Reception} (header : r.stage = .header)
    (receptions : (s.engine t).receptions = [r]) :
    exec (.headerReceipt t [] []) s =
      .next ((s.modEngine t fun _ => { s.engine t with receptions := [] }).resolve t r.frame r.s .bad []) := by
  have taken : (s.engine t).takeReception Reception.inHeader = some (r, { s.engine t with receptions := [] }) := by
    simp [Engine.takeReception, takeFirst, receptions, Reception.inHeader, header]
  refine (live_out s _ h).trans ?_
  rw [taken]
  rfl

section
variable {s : State} {t : Tree} {frame : FrameNo} {offset : Nat}

theorem cutting_onlyReceives : (s.modEngine t (·.cutAt frame offset)).OnlyReceives t (s.cutting t frame offset) := .cutAll _ _

theorem cutting_engine : (s.cutting t frame offset).engine t = { (s.engine t).cutAt frame offset with
    expect := ((s.cutting t frame offset).engine t).expect
    lastAnnounce := ((s.cutting t frame offset).engine t).lastAnnounce } := by
  have own := (cutting_onlyReceives (s := s) (t := t) (frame := frame) (offset := offset)).engine
  rwa [modEngine_engine_self] at own

theorem cutting_other {x : Tree} (h : x ≠ t) : (s.cutting t frame offset).engine x = s.engine x := by
  rw [cutting_onlyReceives.others x h, modEngine_engine, if_neg h]

/-- Where only announces are cut short, they are reported so and nothing else happens (R37). -/
theorem cutting_of_announces
    (h : ∀ r ∈ (s.engine t).receptions.filter (·.cutBy frame offset), r.stage ≠ .header) :
    ((s.cutting t frame offset).engine t).expect = (s.engine t).expect ∧
      (s.cutting t frame offset).mail = { s.mail with
        discovery := s.mail.discovery ++
          ((s.engine t).receptions.filter (·.cutBy frame offset)).map fun r => ⟨t, r.frame, .cutShort⟩ } := by
  rw [State.cutting, cutAll_announces t _ _ h, modMail_engine, modEngine_engine_self]
  exact ⟨rfl, rfl⟩

/-- Where one header alone is cut short, it has the outcome of a bad one received at the pulse (R27, R32). -/
theorem cutting_of_header {s' : State} {r : Reception} (cut : (s.engine t).receptions.filter (·.cutBy frame offset) = [r])
    (header : r.stage = .header) (same : (s.modEngine t (·.cutAt frame offset)).HearsAs t s') :
    (s.cutting t frame offset).mail = (s'.resolve t r.frame r.s .bad []).mail ∧
      ((s.cutting t frame offset).engine t).expect = ((s'.resolve t r.frame r.s .bad []).engine t).expect := by
  obtain ⟨mail, expect⟩ := cutReception_header (s.modEngine t (·.cutAt frame offset)) header (t := t)
  have heard := same.resolve_bad r.frame r.s
  rw [State.cutting, cut]
  exact ⟨mail.trans heard.mail, expect.trans heard.expect⟩

end

/-- Settles O33: the pulse is captured at its position, behind what it cuts short. -/
theorem aLockPulseIsCaptured : Obligations.ALockPulseIsCaptured := by
  intro t offset phase s h now steps frame at' isCut cut
  have isCut_eq (r : Reception) : isCut r = r.cutBy frame at' := Bool.eq_iff_iff.mpr <| by
    rw [cutBy_iff]
    exact decide_eq_true_iff
  have cut_eq : (s.engine t).receptions.filter (·.cutBy frame at') = cut :=
    List.filter_congr fun r _ => (isCut_eq r).symm
  refine ⟨fun disabled => ?_, fun enabled => ?_⟩
  · rw [exec_lockCapture_eq h, if_pos disabled]
    rfl
  · let c := (s.advance offset).cutting t frame at'
    let u := c.modEngine t fun e => { e with receptions := e.receptions ++ [⟨frame, at', .header⟩] }
    have captured : (s.advance offset).capture t phase = u := capture_eq ..
    have own : u.engine t = { c.engine t with receptions := (c.engine t).receptions ++ [⟨frame, at', .header⟩] } :=
      modEngine_engine_self c t fun e => { e with receptions := e.receptions ++ [⟨frame, at', .header⟩] }
    have start : c.engine t = { (s.engine t).cutAt frame at' with
        expect := (c.engine t).expect, lastAnnounce := (c.engine t).lastAnnounce } := cutting_engine
    refine ⟨u, ?_, ?_, fun x hx => ?_, ?_, fun announces => ?_, fun r v one header step => ?_⟩
    · rw [exec_lockCapture_eq h, if_neg enabled, captured]
    · have rest : c = { s with stepOffset := now, engines := c.engines, mail := c.mail } := cutting_onlyReceives.rest
      calc u = { c with engines := u.engines } := rfl
        _ = { s with stepOffset := now, engines := u.engines, mail := c.mail } := by rw [rest]
    · rw [show u.engine x = c.engine x from (modEngine_engine ..).trans (if_neg hx)]
      exact cutting_other hx
    · have kept : ((s.engine t).receptions.filter fun r => !r.cutBy frame at') =
          (s.engine t).receptions.filter fun r => !isCut r := List.filter_congr fun r _ => by rw [isCut_eq]
      rw [own, start, Engine.cutAt, kept]
    · rw [own]
      rw [← cut_eq] at announces ⊢
      exact cutting_of_announces (s := s.advance offset) announces
    · rw [own]
      have ready : (s.modEngine t fun e => { e with receptions := [r] }).OutOfReset := h
      have recv : ((s.modEngine t fun e => { e with receptions := [r] }).engine t) = { s.engine t with receptions := [r] } :=
        modEngine_engine_self ..
      rw [exec_headerReceipt_of_cut ready header (by rw [recv]), Host.Outcome.next.injEq] at step
      subst step
      refine cutting_of_header (s := s.advance offset) (cut_eq.trans one) header ⟨rfl, ?_, ?_, ?_⟩ <;>
        simp only [modEngine_engine_self, Engine.cutAt] <;> rfl

end Sys2Proof.Machine

/-! ## Offers, acceptance and retries of directives (R14, R16, R76, R85, R155, R159; log entries 11 and 12) -/

namespace Sys2Proof.Machine

/-! ### Offers -/

section
variable (s : State) (t : Tree) (x : LaneEntry)

theorem urgent_iff (d : Directive) :
    d.urgent = true ↔ ∃ a b, d = .laserHold a b ∨ d = .laserRelease a b ∨ d = .laserShut a := by
  cases d <;> simp [Directive.urgent]

theorem laneFull_iff (e : Engine) (d : Directive) : e.laneFull d = true ↔
    (d.urgent = true ∧ 8 ≤ e.urgent.length) ∨ (¬ d.urgent = true ∧ 32 ≤ e.normal.length) := by
  by_cases h : d.urgent = true
  · rw [Engine.laneFull, if_pos h, decide_eq_true_iff, and_iff_right h, or_iff_left fun other => other.1 h]
    rfl
  · rw [Engine.laneFull, if_neg h, decide_eq_true_iff, and_iff_right h, or_iff_right fun other => h other.1]
    rfl

theorem ofProducer_iff (p : Producer) (y : Kept) :
    y.ofProducer t p = true ↔ y.tree = t ∧ y.entry.origin.producer = p := by
  simp [Kept.ofProducer]

/-- The lane of a directive has no room for it, or its producer keeps others (R14, R16). -/
def State.laneBlocked (s : State) (t : Tree) (x : LaneEntry) : Prop :=
  (s.engine t).laneFull x.dir = true ∨ ∃ y ∈ s.kept, y.tree = t ∧ y.entry.origin.producer = x.origin.producer

theorem offer_disabled (h : (s.engine t).state = .disabled) : s.offer t x = s := by
  rw [State.offer, State.laneAnswer, if_pos h]

theorem blocked_iff : s.laneBlocked t x ↔ ((s.engine t).laneFull x.dir ||
    s.kept.any fun y => y.tree == t && y.entry.origin.producer == x.origin.producer) = true := by
  simp [State.laneBlocked]

theorem offer_full (h : (s.engine t).state ≠ .disabled) (full : s.laneBlocked t x) : s.offer t x = s.keep t x := by
  rw [State.offer, State.laneAnswer, if_neg h, if_pos ((blocked_iff ..).mp full)]

theorem offer_accepted (h : (s.engine t).state ≠ .disabled) (room : ¬ s.laneBlocked t x) :
    s.offer t x = s.acceptEntry t x := by
  rw [State.offer, State.laneAnswer, if_neg h, if_neg (mt (blocked_iff ..).mpr room)]

theorem keep_kept : (s.keep t x).kept = s.kept ++ [⟨t, x, s.retryDue t x.origin.producer⟩] := by
  unfold State.keep
  dsimp only
  split <;> rfl

theorem keep_records : (s.keep t x).records = s.records := by
  obtain ⟨_, _, h⟩ := keep_shape s t x
  rw [h]

/-! ### Acceptance of the directives of a hunt -/

theorem setHeld_record (first last : Nat) (held : Bool) (k : Nat) : (s.setHeld t first last held).record k =
    if s.isRecordOf t k = true ∧ first ≤ k ∧ k ≤ last then { s.record k with held := held } else s.record k := by
  rw [State.setHeld, modRecords_record]
  simp only [isRecordOf_iff, and_assoc]
  by_cases h : 1 ≤ k ∧ k ≤ 256
  · rw [if_pos h]
  · rw [if_neg h, State.record, readAt_of_not_mem _ _ _ h]
    simp [DropRecord.vacant]

/-- A hunt as the release of its round is accepted (R155). -/
def Hunt.releaseRound (h : Hunt) (a b : Nat) : Hunt :=
  { h.setRound (.laserRelease a b) .waiting with hold := holdAfter h.hold (.laserRelease a b) }

/-- The held flags of the records from `a` to `b` are written, with the hunt (R155, R159). -/
theorem setHeld_modHunt (a b : Nat) (held : Bool) (f : Hunt → Hunt) {u : State}
    (h : u = (s.setHeld t a b held).modHunt t f) :
    (∀ j, u.record j =
      if s.isRecordOf t j = true ∧ a ≤ j ∧ j ≤ b then { s.record j with held := held } else s.record j) ∧
    u = { s with records := u.records, hunts := s.hunts.set t.val (f (s.hunt t)) } := by
  subst h
  exact ⟨fun j => setHeld_record s t a b held j, rfl⟩

/-! ### What an acceptance makes of the kept directives -/

/-- What an operation leaves of the kept directives: some of them. -/
def State.KeepsSome (s u : State) : Prop := u.kept.Sublist s.kept

/-- The kept directives after the acceptance of a RESTORE: some of those before, and the DEPART that follows it (R63). -/
def State.KeepsDepart (t : Tree) (s u : State) : Prop :=
  ∃ k kept, kept.Sublist s.kept ∧ u.kept = kept ++
    [⟨t, ⟨.depart k, .departSuspend⟩, kept.any fun y => y.ofProducer t .roster && y.due⟩]

theorem restoreAccepted_kept (k : Nat) :
    s.KeepsSome (s.restoreAccepted t k) ∨ s.KeepsDepart t (s.restoreAccepted t k) := by
  unfold State.restoreAccepted
  split
  · have some := changeState_kept_sublist s k .suspended true
    unfold State.offerDepart
    split
    · exact .inl some
    · refine .inr ⟨k, _, some, ?_⟩
      rw [keep_kept]
      rfl
    · exact .inl some
  · exact .inl (.refl _)

theorem observe_kept (o : Observation) : (s.observe o).kept = s.kept := by
  obtain ⟨_, _, _, h⟩ := observe_shape s o
  rw [h]

theorem writeRogue_kept (k : Nat) : s.KeepsSome (s.writeRogue t k) := by
  unfold State.writeRogue
  split
  · exact .refl _
  · exact changeState_kept_sublist s k .rogue false

theorem admission_kept (k delay : Nat) : s.KeepsSome (s.admission t k delay) := by
  unfold State.admission
  split
  · exact changeState_kept_sublist (s.modRecord k fun r => { r with delay := delay }) ..
  · exact .refl _

theorem onAccept_kept : s.KeepsSome (s.onAccept t x) ∨ (∃ l, x.origin = .restore l) ∧ s.KeepsDepart t (s.onAccept t x) := by
  unfold State.onAccept
  split
  case h_1 | h_3 =>
    dsimp only
    split <;> exact .inl (.refl _)
  case h_2 => exact .inl (admission_kept (s.modTracker _ _) ..)
  case h_4 origin _ =>
    rcases restoreAccepted_kept s t _ with some | depart
    · exact .inl some
    · exact .inr ⟨⟨_, origin⟩, depart⟩
  case h_5 =>
    dsimp only
    split
    · exact .inl (.refl _)
    · refine .inl ?_
      rw [State.KeepsSome, observe_kept]
      exact writeRogue_kept ..
  case h_6 =>
    refine .inl ?_
    rw [State.KeepsSome, observe_kept]
    exact writeRogue_kept ..
  all_goals exact .inl (.refl _)

theorem acceptEntry_kept :
    s.KeepsSome (s.acceptEntry t x) ∨ (∃ l, x.origin = .restore l) ∧ s.KeepsDepart t (s.acceptEntry t x) :=
  onAccept_kept (s.modEngine t (·.push x)) t x

/-- The acceptance of a correction reports nothing. -/
theorem acceptEntry_mail_of_tracker (h : x.origin.producer = .tracker) : (s.acceptEntry t x).mail = s.mail := by
  obtain ⟨dir, origin⟩ := x
  cases origin <;> cases h
  unfold State.acceptEntry State.onAccept
  cases dir
  case setDelay =>
    dsimp only
    split <;> rfl
  all_goals rfl

end

/-! ### One retry -/

section
variable {s : State} {t : Tree} {p : Producer}

/-- A kept directive of a producer for a tree whose offer is still to be made. -/
def Kept.isDue (t : Tree) (p : Producer) (y : Kept) : Bool := y.ofProducer t p && y.due

/-- What the retry of the kept directive `y` makes of it, between those before and after it (R16). -/
def State.retryEntry (s : State) (t : Tree) (p : Producer) (before : List Kept) (y : Kept) (after : List Kept) : State :=
  if (s.engine t).state = .disabled ∨ s.abandons y = true then { s with kept := before ++ after }
  else if (s.engine t).laneFull y.entry.dir ∨ before.any (·.ofProducer t p) = true then
    { s with kept := before ++ { y with due := false } :: after }
  else ({ s with kept := before ++ after } : State).acceptEntry t y.entry

/-- The first directive due is the one offered again (R16). -/
theorem retryOne_eq {before after : List Kept} {y : Kept} (kept : s.kept = before ++ y :: after)
    (first : ∀ z ∈ before, z.isDue t p = false) (due : y.isDue t p = true) :
    s.retryOne t p = s.retryEntry t p before y after := by
  have found : (s.kept.findIdx? fun x => x.ofProducer t p && x.due) = some before.length := by
    rw [List.findIdx?_eq_some_iff_getElem]
    refine ⟨by simp [kept], by simpa [kept, Kept.isDue] using due, fun j hj => ?_⟩
    have early : s.kept[j]'(by simp [kept]; omega) = before[j] := by simp [kept, List.getElem_append_left hj]
    rw [early]
    simpa [Kept.isDue] using first _ (List.getElem_mem hj)
  have entry : s.kept[before.length]? = some y := by simp [kept]
  have taken : s.kept.eraseIdx before.length = before ++ after := by
    rw [kept, List.eraseIdx_append_of_length_le le_rfl, Nat.sub_self, List.eraseIdx_zero, List.tail_cons]
  have set (z : Kept) : s.kept.set before.length z = before ++ z :: after := by
    rw [kept, List.set_append_right _ _ le_rfl, Nat.sub_self, List.set_cons_zero]
  have earlier : s.kept.take before.length = before := by rw [kept, List.take_left]
  unfold State.retryOne
  rw [found]
  dsimp only
  rw [entry]
  dsimp only
  rw [taken, set, earlier]
  rfl

theorem retryOne_of_none (h : ∀ y ∈ s.kept, y.isDue t p = false) : s.retryOne t p = s := by
  have found : (s.kept.findIdx? fun x => x.ofProducer t p && x.due) = none := List.findIdx?_eq_none_iff.mpr h
  rw [State.retryOne, found]

/-- Where a directive is due, there is a first. -/
theorem exists_first_due (h : ¬ ∀ y ∈ s.kept, y.isDue t p = false) : ∃ before y after,
    s.kept = before ++ y :: after ∧ (∀ z ∈ before, z.isDue t p = false) ∧ y.isDue t p = true := by
  have found : (s.kept.find? (·.isDue t p)).isSome = true := by
    rw [List.find?_isSome]
    simpa using h
  obtain ⟨y, first⟩ := Option.isSome_iff_exists.mp found
  obtain ⟨due, before, after, kept, none⟩ := List.find?_eq_some_iff_append.mp first
  exact ⟨before, y, after, kept, fun z hz => by simpa using none z hz, due⟩

/-! ### The retries that are left -/

/-- The retries that a kept directive can still take: the DEPART after a RESTORE takes one more (R63). -/
def Kept.retriesLeft (t : Tree) (p : Producer) (y : Kept) : Nat :=
  if y.isDue t p then (match y.entry.origin with | .restore _ => 2 | _ => 1) else 0

def retriesLeft (t : Tree) (p : Producer) (l : List Kept) : Nat := (l.map (·.retriesLeft t p)).sum

theorem retriesLeft_of_not_due {y : Kept} (h : y.isDue t p = false) : y.retriesLeft t p = 0 := by
  simp [Kept.retriesLeft, h]

theorem retriesLeft_pos {y : Kept} (h : y.isDue t p = true) : 1 ≤ y.retriesLeft t p := by
  unfold Kept.retriesLeft
  rw [if_pos h]
  split <;> omega

theorem retriesLeft_restore {y : Kept} (h : y.isDue t p = true) {l : LinkId} (origin : y.entry.origin = .restore l) :
    y.retriesLeft t p = 2 := by simp [Kept.retriesLeft, h, origin]

theorem retriesLeft_le_two (y : Kept) : y.retriesLeft t p ≤ 2 := by
  unfold Kept.retriesLeft
  split
  · split <;> omega
  · omega

theorem retriesLeft_depart_le (k : Nat) (due : Bool) :
    (⟨t, ⟨.depart k, .departSuspend⟩, due⟩ : Kept).retriesLeft t p ≤ 1 := by
  unfold Kept.retriesLeft
  split <;> simp

theorem retriesLeft_append (l l' : List Kept) :
    retriesLeft t p (l ++ l') = retriesLeft t p l + retriesLeft t p l' := by simp [retriesLeft]

theorem retriesLeft_cons (y : Kept) (l : List Kept) :
    retriesLeft t p (y :: l) = y.retriesLeft t p + retriesLeft t p l := by simp [retriesLeft]

theorem retriesLeft_le_of_sublist {l l' : List Kept} (h : l.Sublist l') : retriesLeft t p l ≤ retriesLeft t p l' :=
  (h.map _).sum_le_sum fun _ _ => Nat.zero_le _

theorem retriesLeft_le_length (l : List Kept) : retriesLeft t p l ≤ (l ++ l).length := by
  induction l with
  | nil => exact le_rfl
  | cons y rest ih =>
    have two := retriesLeft_le_two (t := t) (p := p) y
    rw [retriesLeft_cons]
    simp only [List.length_append, List.length_cons] at ih ⊢
    omega

/-- An acceptance leaves no more retries than there were, but for the DEPART after a RESTORE. -/
theorem acceptEntry_retriesLeft (s : State) (t : Tree) (p : Producer) {y : Kept} (due : y.isDue t p = true) :
    retriesLeft t p (s.acceptEntry t y.entry).kept < y.retriesLeft t p + retriesLeft t p s.kept := by
  have pos := retriesLeft_pos due
  rcases acceptEntry_kept s t y.entry with some | ⟨⟨l, origin⟩, k, kept, some, e⟩
  · have := retriesLeft_le_of_sublist (t := t) (p := p) some
    omega
  · have fewer := retriesLeft_le_of_sublist (t := t) (p := p) some
    have depart := retriesLeft_depart_le (t := t) (p := p) k (kept.any fun y => y.ofProducer t .roster && y.due)
    rw [e, retriesLeft_append, retriesLeft_cons, retriesLeft_restore due origin]
    have none : retriesLeft t p [] = 0 := rfl
    omega

theorem retryOne_retriesLeft (h : ¬ ∀ y ∈ s.kept, y.isDue t p = false) :
    retriesLeft t p (s.retryOne t p).kept < retriesLeft t p s.kept := by
  obtain ⟨before, y, after, kept, first, due⟩ := exists_first_due h
  have pos := retriesLeft_pos due
  rw [retryOne_eq kept first due, kept, State.retryEntry, retriesLeft_append, retriesLeft_cons]
  split
  · rw [retriesLeft_append]
    omega
  · split
    · have zero : ({ y with due := false } : Kept).retriesLeft t p = 0 := retriesLeft_of_not_due (by simp [Kept.isDue])
      rw [retriesLeft_append, retriesLeft_cons, zero]
      omega
    · have accepted := acceptEntry_retriesLeft ({ s with kept := before ++ after }) t p due
      have rest : retriesLeft t p ({ s with kept := before ++ after } : State).kept =
          retriesLeft t p before + retriesLeft t p after := retriesLeft_append ..
      omega

/-- After as many retries as are left, none is due and further ones change nothing. -/
theorem iterate_retryOne_add (j m : Nat) : ∀ {s : State}, retriesLeft t p s.kept ≤ m →
    (fun s : State => s.retryOne t p)^[m + j] s = (fun s : State => s.retryOne t p)^[m] s := by
  induction m with
  | zero =>
    intro s h
    have none : ∀ y ∈ s.kept, y.isDue t p = false := by
      by_contra due
      have := retryOne_retriesLeft due
      omega
    rw [Nat.zero_add]
    exact Function.iterate_fixed (retryOne_of_none none) j
  | succ m ih =>
    intro s h
    rw [Nat.succ_add, Function.iterate_succ_apply, Function.iterate_succ_apply]
    apply ih
    by_cases none : ∀ y ∈ s.kept, y.isDue t p = false
    · have all : retriesLeft t p s.kept = 0 := by
        rw [retriesLeft, List.sum_eq_zero]
        intro n hn
        obtain ⟨y, hy, rfl⟩ := List.mem_map.mp hn
        exact retriesLeft_of_not_due (none y hy)
      rw [retryOne_of_none none, all]
      omega
    · have := retryOne_retriesLeft none
      omega

/-- The tracker has taken every report of a state change before it offers again (R98). -/
def State.changesTaken (s : State) (p : Producer) : Prop := p = .tracker → s.mail.changes = []

theorem takeAllChanges_of_none (h : s.mail.changes = []) : s.takeAllChanges = s := by
  have mail : { s.mail with changes := [] } = s.mail := by rw [← h]
  rw [State.takeAllChanges, h]
  show { s with mail := { s.mail with changes := [] } } = s
  rw [mail]

theorem retry_eq_iterate (taken : s.changesTaken p) {m : Nat} (h : retriesLeft t p s.kept ≤ m) :
    s.retry t p = (fun s : State => s.retryOne t p)^[m] s := by
  have start : (if p = .tracker then s.takeAllChanges else s) = s := by
    split
    · rename_i tracker
      exact takeAllChanges_of_none (taken tracker)
    · rfl
  have enough := retriesLeft_le_length (t := t) (p := p) s.kept
  unfold State.retry
  dsimp only
  rw [start, List.foldl_const]
  rcases Nat.le_total m (s.kept ++ s.kept).length with le | le
  · obtain ⟨j, e⟩ := Nat.exists_eq_add_of_le le
    rw [e]
    exact iterate_retryOne_add j m h
  · obtain ⟨j, e⟩ := Nat.exists_eq_add_of_le le
    rw [e]
    exact (iterate_retryOne_add j _ enough).symm

theorem retry_of_none (taken : s.changesTaken p) (h : ∀ y ∈ s.kept, y.isDue t p = false) : s.retry t p = s :=
  (retry_eq_iterate taken le_rfl).trans (Function.iterate_fixed (retryOne_of_none h) _)

/-- A retry goes on from its first step. -/
theorem retry_retryOne (taken : s.changesTaken p) (taken' : (s.retryOne t p).changesTaken p) :
    s.retry t p = (s.retryOne t p).retry t p := by
  by_cases none : ∀ y ∈ s.kept, y.isDue t p = false
  · rw [retryOne_of_none none]
  · have fewer := retryOne_retriesLeft none
    rw [retry_eq_iterate taken (Nat.le_succ (retriesLeft t p s.kept)), retry_eq_iterate taken' fewer.le,
      Function.iterate_succ_apply]

/-- Behind a directive refused again, those due are kept for the boundary after (R16). -/
theorem iterate_retryOne_blocked {s : State} (enabled : (s.engine t).state ≠ .disabled) (l : List Kept) :
    ∀ (m : Nat) (before : List Kept), l.length ≤ m → (∀ z ∈ before, z.isDue t p = false) →
      before.any (·.ofProducer t p) = true → (∀ y ∈ l, y.isDue t p = true → s.abandons y = false) →
      (fun s : State => s.retryOne t p)^[m] { s with kept := before ++ l } =
        { s with kept := before ++ l.map fun y => if y.ofProducer t p then { y with due := false } else y } := by
  induction l with
  | nil =>
    intro m before _ first _ _
    exact Function.iterate_fixed (retryOne_of_none (by simpa using first)) m
  | cons y rest ih =>
    intro m before length first blocking stands
    have still : ({ y with due := false } : Kept).isDue t p = false := by simp [Kept.isDue]
    have stands' := fun z hz => stands z (List.mem_cons_of_mem y hz)
    have step (y' : Kept) (hy' : y'.isDue t p = false) (m : Nat) (hm : rest.length ≤ m) :=
      ih m (before ++ [y']) hm (by simpa using fun z => Or.rec (first z) fun e => e ▸ hy') (by simp [blocking]) stands'
    simp only [List.append_assoc, List.singleton_append] at step
    rw [List.length_cons] at length
    by_cases due : y.isDue t p = true
    · have own : y.ofProducer t p = true := (Bool.and_eq_true_iff.mp due).1
      obtain ⟨m, rfl⟩ := Nat.exists_eq_add_of_le' length
      have one : ({ s with kept := before ++ y :: rest } : State).retryOne t p =
          { s with kept := before ++ { y with due := false } :: rest } := by
        rw [retryOne_eq rfl first due]
        have stay : s.abandons y = false := stands y List.mem_cons_self due
        refine (if_neg ?_).trans (if_pos (.inr blocking))
        rintro (off | gone)
        · exact enabled off
        · exact Bool.false_ne_true (stay.symm.trans gone)
      rw [show m + (rest.length + 1) = (m + rest.length).succ from rfl, Function.iterate_succ_apply, one,
        step _ still _ (by omega), List.map_cons, if_pos own]
    · have keeps : (if y.ofProducer t p then { y with due := false } else y) = y := by
        split
        · rename_i own
          have : y.due = false := by simpa [Kept.isDue, own] using due
          rw [← this]
        · rfl
      rw [step y (by simpa using due) m (by omega), List.map_cons, keeps]

end

/-! ### Retries of the first kept directive -/

/-- A kept offer or ranging delay whose record no longer stands as it did (R76, R85). -/
def State.isStale (s : State) (t : Tree) (x : LaneEntry) : Prop :=
  (∃ serial k e, x = ⟨.enrolOffer serial k e, .offer⟩ ∧
    ¬ ((s.record k).state = .announced ∧ (s.record k).tree = some t ∧ (s.record k).serial = some serial)) ∨
  (∃ k e, x = ⟨.setDelay k e, .ranged⟩ ∧ ¬ ((s.record k).state = .ranging ∧ (s.record k).tree = some t))

theorem abandons_iff (s : State) (t : Tree) (x : LaneEntry) (due : Bool) :
    s.abandons ⟨t, x, due⟩ = true ↔ s.isStale t x := by
  obtain ⟨xdir, xorigin⟩ := x
  unfold State.abandons State.isStale
  dsimp only
  split
  · simp [or_assoc, imp_iff_not_or]
  · simp [imp_iff_not_or]
  · rename_i offer ranged
    refine iff_of_false Bool.false_ne_true ?_
    rintro (⟨serial, k, e, entry, -⟩ | ⟨k, e, entry, -⟩) <;> cases entry
    · exact offer serial k e rfl rfl
    · exact ranged k e rfl rfl

section
variable {s : State} {t : Tree} {p : Producer} {before after : List Kept} {x : LaneEntry}

/-- The retry of the first kept directive of a producer, none before it being its (R16). -/
theorem retryOne_first (kept : s.kept = before ++ ⟨t, x, true⟩ :: after) (own : x.origin.producer = p)
    (none : ∀ y ∈ before, y.ofProducer t p = false) :
    s.retryOne t p = s.retryEntry t p before ⟨t, x, true⟩ after :=
  retryOne_eq kept (fun z hz => by rw [Kept.isDue, none z hz]; rfl) (by simp [Kept.isDue, Kept.ofProducer, own])

theorem retryEntry_stale (h : s.isStale t x) :
    s.retryEntry t p before ⟨t, x, true⟩ after = { s with kept := before ++ after } :=
  if_pos (.inr ((abandons_iff ..).mpr h))

theorem retryEntry_accepted (enabled : (s.engine t).state ≠ .disabled) (none : ∀ y ∈ before, y.ofProducer t p = false)
    (h : ¬ s.isStale t x) (room : (s.engine t).laneFull x.dir = false) :
    s.retryEntry t p before ⟨t, x, true⟩ after = ({ s with kept := before ++ after } : State).acceptEntry t x := by
  refine (if_neg ?_).trans (if_neg ?_)
  · rintro (off | gone)
    · exact enabled off
    · exact h ((abandons_iff ..).mp gone)
  · rintro (full | blocking)
    · exact Bool.false_ne_true (room.symm.trans full)
    · obtain ⟨y, hy, own⟩ := List.any_eq_true.mp blocking
      exact Bool.false_ne_true ((none y hy).symm.trans own)

theorem retryEntry_full (enabled : (s.engine t).state ≠ .disabled) (h : ¬ s.isStale t x)
    (full : (s.engine t).laneFull x.dir = true) :
    s.retryEntry t p before ⟨t, x, true⟩ after = { s with kept := before ++ ⟨t, x, false⟩ :: after } := by
  refine (if_neg ?_).trans (if_pos (.inl full))
  rintro (off | gone)
  · exact enabled off
  · exact h ((abandons_iff ..).mp gone)

/-- With no directive of the producer kept, an acceptance leaves none due: the DEPART of a RESTORE is kept for the boundary
after (R16). -/
theorem acceptEntry_none_due (own : x.origin.producer = p) (none : ∀ y ∈ s.kept, y.ofProducer t p = false) :
    ∀ y ∈ (s.acceptEntry t x).kept, y.isDue t p = false := by
  have notDue (y : Kept) (hy : y ∈ s.kept) : y.isDue t p = false := by rw [Kept.isDue, none y hy]; rfl
  rcases acceptEntry_kept s t x with some | ⟨⟨l, origin⟩, k, kept, some, e⟩
  · exact fun y hy => notDue y (some.subset hy)
  · intro y hy
    rw [e, List.mem_append, List.mem_singleton] at hy
    rcases hy with hy | rfl
    · exact notDue y (some.subset hy)
    · obtain rfl : Producer.roster = p := by rw [← own, origin]; rfl
      have never : (kept.any fun y => y.ofProducer t .roster && y.due) = false :=
        List.any_eq_false.mpr fun z hz => by simp [none z (some.subset hz)]
      rw [Kept.isDue, never, Bool.and_false]

/-- A retry whose first directive finds no room keeps all that are due for the boundary after (R16). -/
theorem retry_full (taken : s.changesTaken p) (kept : s.kept = before ++ ⟨t, x, true⟩ :: after)
    (own : x.origin.producer = p) (none : ∀ y ∈ before, y.ofProducer t p = false)
    (enabled : (s.engine t).state ≠ .disabled) (h : ¬ s.isStale t x) (full : (s.engine t).laneFull x.dir = true)
    (stand : ∀ y ∈ after, y.isDue t p = true → s.abandons y = false) :
    s.retry t p = { s with
      kept := before ++ ⟨t, x, false⟩ :: after.map fun y => if y.ofProducer t p then { y with due := false } else y } := by
  have one : s.retryOne t p = { s with kept := (before ++ [⟨t, x, false⟩]) ++ after } := by
    rw [retryOne_first kept own none, retryEntry_full enabled h full, List.append_assoc, List.singleton_append]
  have still : ∀ z ∈ before ++ [(⟨t, x, false⟩ : Kept)], z.isDue t p = false := by
    intro z hz
    rcases List.mem_append.mp hz with hz | hz
    · rw [Kept.isDue, none z hz]
      rfl
    · rw [List.mem_singleton.mp hz]
      exact Bool.and_false _
  have blocking : (before ++ [(⟨t, x, false⟩ : Kept)]).any (·.ofProducer t p) = true := by
    simp [Kept.ofProducer, own]
  have taken' : (s.retryOne t p).changesTaken p := by
    rw [one]
    exact taken
  rw [retry_retryOne taken taken', one]
  rw [one] at taken'
  rw [retry_eq_iterate taken' (Nat.le_add_right _ after.length),
    iterate_retryOne_blocked enabled after _ _ (Nat.le_add_left ..) still blocking stand, List.append_assoc,
    List.singleton_append]

end

theorem exec_directiveRetry_eq {s : State} (h : s.OutOfReset) (t : Tree) (p : Producer) :
    exec (.directiveRetry t p) s = .next (s.retry t p) := live_out s _ h

theorem acceptEntry_changesTaken {s : State} {t : Tree} {p : Producer} {x : LaneEntry} (own : x.origin.producer = p)
    (taken : s.changesTaken p) : (s.acceptEntry t x).changesTaken p := by
  rintro rfl
  rw [acceptEntry_mail_of_tracker s t x own]
  exact taken rfl

/-! ### An acceptance does not reset the part -/

section
variable {s : State} {t : Tree}

theorem observe_outOfReset (h : s.OutOfReset) (o : Observation) : (s.observe o).OutOfReset := by
  obtain ⟨_, _, _, e⟩ := observe_shape s o
  rw [e]
  exact h

theorem changeState_outOfReset (h : s.OutOfReset) (k : Nat) (new : RecState) (byRequest : Bool) :
    (s.changeState k new byRequest).OutOfReset := by
  obtain ⟨_, _, _, _, _, _, _, e⟩ := changeState_shape s k new byRequest
  rw [e]
  exact h

theorem restoreAccepted_outOfReset (h : s.OutOfReset) (k : Nat) : (s.restoreAccepted t k).OutOfReset := by
  unfold State.restoreAccepted
  split
  · obtain ⟨_, _, _, e⟩ := offerDepart_shape
      ((s.changeState k .suspended true).modRecord k fun r => { r with strikes := 0, cleanRun := 0 }) t k .departSuspend
    rw [e]
    exact changeState_outOfReset h k .suspended true
  · exact h

theorem writeRogue_outOfReset (h : s.OutOfReset) (k : Nat) : (s.writeRogue t k).OutOfReset := by
  unfold State.writeRogue
  split
  · exact h
  · exact changeState_outOfReset h k .rogue false

theorem admission_outOfReset (h : s.OutOfReset) (k delay : Nat) : (s.admission t k delay).OutOfReset := by
  unfold State.admission
  split
  · exact changeState_outOfReset (s := s.modRecord k fun r => { r with delay := delay }) h ..
  · exact h

theorem acceptEntry_outOfReset (h : s.OutOfReset) (t : Tree) (x : LaneEntry) : (s.acceptEntry t x).OutOfReset := by
  have start : (s.modEngine t (·.push x)).OutOfReset := h
  unfold State.acceptEntry State.onAccept
  split
  case h_1 | h_3 =>
    dsimp only
    split <;> exact h
  case h_2 => exact admission_outOfReset (s := (s.modEngine t (·.push x)).modTracker _ _) h ..
  case h_4 => exact restoreAccepted_outOfReset start _
  case h_5 =>
    dsimp only
    split
    · exact h
    · exact observe_outOfReset (writeRogue_outOfReset start _) _
  case h_6 => exact observe_outOfReset (writeRogue_outOfReset start _) _
  all_goals exact h

end

/-- Settles O50: the offer by the answer of its lane, the acceptance by the held flags it writes, and a retry by its first
step and the steps after it. -/
theorem offersAreAcceptedKeptRetriedOrAbandoned : Obligations.OffersAreAcceptedKeptRetriedOrAbandoned := by
  refine ⟨fun s t x => ?_, fun s t a b => ?_, fun t p s h taken => ?_⟩
  · intro e urgent full
    have urgent_dir : x.dir.urgent = true ↔ urgent := urgent_iff x.dir
    have full_iff : s.laneBlocked t x ↔ full := by
      rw [State.laneBlocked, laneFull_iff, urgent_dir, or_assoc]
    refine ⟨offer_disabled s t x, fun enabled isFull => ?_, fun enabled room isUrgent => ?_, fun enabled room notUrgent => ?_⟩
    · rw [offer_full s t x enabled (full_iff.mpr isFull)]
      exact ⟨_, keep_kept s t x, keep_records s t x, keep_engines s t x, retryDue_iff ..⟩
    · rw [offer_accepted s t x enabled (mt full_iff.mp room), State.acceptEntry]
      exact congrArg (State.onAccept · t x) (modEngine_congr (push_urgent _ _ (urgent_dir.mpr isUrgent)))
    · rw [offer_accepted s t x enabled (mt full_iff.mp room), State.acceptEntry]
      exact congrArg (State.onAccept · t x)
        (modEngine_congr (push_normal _ _ (Bool.eq_false_iff.mpr (mt urgent_dir.mp notUrgent))))
  · intro hunt accepted waiting
    refine ⟨setHeld_modHunt s t a b true _ rfl, fun lo hi hold => ⟨fun first => ?_, fun inside => ?_⟩,
      setHeld_modHunt s t a b false _ rfl⟩
    · have after : holdAfter (s.hunt t).hold (.laserRelease a b) = none := by
        rw [hold]
        exact if_pos first.le
      rw [← after]
      exact setHeld_modHunt s t a b false (·.releaseRound a b) rfl
    · have after : holdAfter (s.hunt t).hold (.laserRelease a b) = some (lo, a - 1) := by
        rw [hold]
        exact if_neg (not_le.mpr inside)
      rw [← after]
      exact setHeld_modHunt s t a b false (·.releaseRound a b) rfl
  · intro mine stale
    have mine_eq (y : Kept) : mine y = y.ofProducer t p := rfl
    have stale_iff (y : LaneEntry) : s.isStale t y ↔ stale y := .rfl
    refine ⟨fun none => ?_, fun before after x kept own none enabled => ?_⟩
    · rw [exec_directiveRetry_eq h, retry_of_none taken]
      intro y hy
      by_cases isMine : y.ofProducer t p = true
      · rw [Kept.isDue, none y hy isMine, Bool.and_false]
      · rw [Kept.isDue, Bool.eq_false_iff.mpr isMine, Bool.false_and]
    · intro without
      have first := retryOne_first kept own none
      have ready : without.OutOfReset := h
      have takenRest : without.changesTaken p := taken
      have whenStale (isStale : stale x) : s.retry t p = without.retry t p := by
        have one : s.retryOne t p = without := first.trans (retryEntry_stale isStale)
        rw [retry_retryOne taken (by rw [one]; exact takenRest), one]
      have whenRoom (stands : ¬ stale x) (room : (s.engine t).laneFull x.dir = false) :
          s.retry t p = (without.acceptEntry t x).retry t p := by
        have one : s.retryOne t p = without.acceptEntry t x := first.trans (retryEntry_accepted enabled none stands room)
        rw [retry_retryOne taken (by rw [one]; exact acceptEntry_changesTaken own takenRest), one]
      refine ⟨fun isStale => ?_, fun stands room => ?_, fun stands full others => ?_, fun alone => ⟨fun isStale => ?_,
        fun stands room => ?_⟩⟩
      · rw [exec_directiveRetry_eq h, exec_directiveRetry_eq ready, whenStale isStale]
      · rw [exec_directiveRetry_eq h, exec_directiveRetry_eq (acceptEntry_outOfReset ready t x), whenRoom stands room]
      · have stand : ∀ y ∈ after, y.isDue t p = true → s.abandons y = false := by
          intro y hy due
          obtain ⟨isMine, isDue⟩ := Bool.and_eq_true_iff.mp due
          obtain ⟨tree, -⟩ := (ofProducer_iff ..).mp isMine
          have stands' := others y hy isMine isDue
          obtain ⟨yTree, entry, yDue⟩ := y
          obtain rfl : yTree = t := tree
          exact Bool.eq_false_iff.mpr (mt (abandons_iff ..).mp stands')
        rw [exec_directiveRetry_eq h]
        exact congrArg _ (retry_full taken kept own none enabled stands full stand)
      · have noneLeft : ∀ y ∈ without.kept, y.isDue t p = false := fun y hy => by
          have notMine : y.ofProducer t p = false := (List.mem_append.mp hy).elim (none y) (alone y)
          rw [Kept.isDue, notMine, Bool.false_and]
        rw [exec_directiveRetry_eq h, whenStale isStale, retry_of_none takenRest noneLeft]
      · have notMine : ∀ y ∈ without.kept, y.ofProducer t p = false := fun y hy =>
          (List.mem_append.mp hy).elim (none y) (alone y)
        rw [exec_directiveRetry_eq h, whenRoom stands room,
          retry_of_none (acceptEntry_changesTaken own takenRest) (acceptEntry_none_due own notMine)]

end Sys2Proof.Machine

/-! ## Reports and receptions taken from a list -/

namespace Sys2Proof.Machine

theorem takeFirst_split {α : Type} {before after : List α} {x : α} {test : α → Bool} (own : test x = true)
    (none : ∀ y ∈ before, test y = false) : takeFirst (before ++ x :: after) test = some (x, before ++ after) := by
  have first : (before ++ x :: after).find? test = some x :=
    List.find?_eq_some_iff_append.mpr ⟨own, before, after, rfl, fun y hy => by simp [none y hy]⟩
  have rest : (before ++ x :: after).eraseP test = before ++ after := by
    rw [List.eraseP_append_right _ fun y hy => by simp [none y hy], List.eraseP_cons_of_pos own]
  rw [takeFirst, first, Option.map_some, rest]

theorem takeNth_of_getElem? {α : Type} {l : List α} {index : Nat} {x : α} (h : l[index]? = some x) :
    takeNth l index = some (x, l.eraseIdx index) := by
  rw [takeNth, h, Option.map_some]

end Sys2Proof.Machine

/-! ## Packets from the uplink (R39) -/

namespace Sys2Proof.Machine

section
variable {s : State} {k : Nat} {octets : List Byte}

theorem takesData_iff (x : RecState) : x.takesData = true ↔ x = .active ∨ x = .parked := by
  cases x <;> simp [RecState.takesData]

/-- The queue of tree `t` takes a packet for tag `k` (R39). -/
def State.queueTakes (s : State) (t : Tree) (k : Nat) (octets : List Byte) : Prop :=
  (s.record k).state.takesData = true ∧ (s.engine t).state ≠ .disabled ∧ 1 ≤ octets.length ∧ octets.length ≤ 9600 ∧
    (s.engine t).queuedOctets + octets.length ≤ queueCapacity

theorem packetArrival_taken {t : Tree} (tree : (s.record k).tree = some t) (h : s.queueTakes t k octets) :
    s.packetArrival k octets = s.modEngine t fun e => { e with queue := e.queue ++ [⟨k, octets⟩] } := by
  unfold State.packetArrival
  dsimp only
  rw [tree]
  exact if_pos h

theorem packetArrival_discarded (h : ∀ t, (s.record k).tree = some t → ¬ s.queueTakes t k octets) :
    s.packetArrival k octets = s := by
  unfold State.packetArrival
  dsimp only
  cases tree : (s.record k).tree with
  | none => rfl
  | some t => exact if_neg (h t tree)

theorem exec_downstreamPacketArrival_eq (h : s.OutOfReset) :
    exec (.downstreamPacketArrival k octets) s = .next (s.packetArrival k octets) := live_out s _ h

end

/-- Settles O37: the packet joins the queue where `queueTakes` holds, and a tag outside 1 to 256 names no record that takes
data. -/
theorem aPacketJoinsItsTreesQueue : Obligations.APacketJoinsItsTreesQueue := by
  refine fun k octets s h => ⟨fun t state tree enabled some short room => ?_, fun refused => ?_⟩
  · rw [exec_downstreamPacketArrival_eq h,
      packetArrival_taken tree ⟨(takesData_iff _).mpr state, enabled, some, short, room⟩]
  · rw [exec_downstreamPacketArrival_eq h, packetArrival_discarded]
    rintro t tree ⟨state, enabled, some, short, room⟩
    rw [takesData_iff] at state
    have range := record_tag_range (s := s) (k := k) fun vacant => by simp [vacant] at state
    rcases refused with low | high | ⟨active, parked⟩ | empty | long | ⟨i, own, disabled | full⟩
    · omega
    · omega
    · exact state.elim active parked
    · omega
    · omega
    · exact enabled (Option.some.inj (tree.symm.trans own) ▸ disabled)
    · obtain rfl := Option.some.inj (tree.symm.trans own)
      exact absurd room (not_le.mpr full)

end Sys2Proof.Machine

/-! ## Arrival reports at their record (R30, R36, R50, R100, R101, R103) -/

namespace Sys2Proof.Machine

section
variable {s : State} {k : Nat}

/-- A suspension of an ACTIVE record: its load is released and the change reported, and no queue or lane is touched (R43). -/
theorem changeState_suspended_of_active (byRequest : Bool) (h : (s.record k).state = .active) :
    s.changeState k .suspended byRequest =
      ((s.modLoad (s.record k).treeNo (·.drop (s.loadOf k))).modRecord k fun r =>
        { r with state := .suspended }).reportChange k .active .suspended byRequest := by
  have active : s.leaveActive k .suspended = s.modLoad (s.record k).treeNo (·.drop (s.loadOf k)) := if_pos ⟨h, nofun⟩
  have queue (u : State) (hu : (u.record k).state = .active) : u.leaveQueue k .suspended = u :=
    if_neg (by simp [hu])
  have suspended (u : State) (hu : (u.record k).state = .active) : u.leaveSuspended k = u := if_neg (by simp [hu])
  unfold State.changeState
  dsimp only
  rw [if_neg (by simp [h]), active, queue _ (by simpa using h), suspended _ (by simpa using h), h]
  rfl

/-- A DEPART of a suspension joins the normal lane or the kept directives, unless the tree is DISABLED (R16, R103). -/
theorem offerDepart_cases (s : State) (t : Tree) (k : Nat) :
    s.offerDepart t k .departSuspend =
        (s.modEngine t fun e => { e with normal := e.normal ++ [⟨.depart k, .departSuspend⟩] }) ∨
      (∃ due, s.offerDepart t k .departSuspend =
        { s with kept := s.kept ++ [⟨t, ⟨.depart k, .departSuspend⟩, due⟩] }) ∨
      (s.engine t).state = .disabled ∧ s.offerDepart t k .departSuspend = s := by
  unfold State.offerDepart
  split
  · exact .inl rfl
  · exact .inr (.inl ⟨_, rfl⟩)
  · rename_i refused
    refine .inr (.inr ⟨?_, rfl⟩)
    unfold State.laneAnswer at refused
    split at refused
    · assumption
    · split at refused <;> cases refused

theorem takeValid_eq (s : State) (r : ValidReport) : s.takeValid r =
    if s.isRecordOf r.tree r.tag then
      s.modRecord r.tag fun x => { x with backlog := r.backlog, missRun := 0, outstanding := x.outstanding - r.payload }
    else s := rfl

theorem takeMiss_of_other {r : MissReport} (h : s.isRecordOf r.tree r.tag = false) : s.takeMiss r = s :=
  if_neg (by simp [h])

/-- The miss run after a miss (R100). -/
theorem missed_record {r : MissReport} (h : s.isRecordOf r.tree r.tag = true) :
    (s.modRecord r.tag (·.miss r.payload)).record r.tag = (s.record r.tag).miss r.payload := by
  rw [modRecord_record, if_pos ⟨rfl, range_of_isRecordOf s h⟩]

/-- A miss that suspends nothing (R100). -/
theorem takeMiss_of_stays {r : MissReport} (h : s.isRecordOf r.tree r.tag = true)
    (stays : (s.record r.tag).state ≠ .active ∨ (s.record r.tag).missRun < 7) :
    s.takeMiss r = s.modRecord r.tag (·.miss r.payload) := by
  unfold State.takeMiss
  rw [if_pos h]
  dsimp only
  rw [missed_record h]
  rcases stays with other | few
  · split
    · exact suspendFrom_other _ _ _ (by rwa [missed_record h])
    · rfl
  · refine if_neg ?_
    show ¬ 8 ≤ min 8 ((s.record r.tag).missRun + 1)
    omega

/-- The eighth miss in a row suspends an ACTIVE record (R100, R103). -/
theorem takeMiss_of_eighth {r : MissReport} (h : s.isRecordOf r.tree r.tag = true)
    (active : (s.record r.tag).state = .active) (run : 7 ≤ (s.record r.tag).missRun) :
    s.takeMiss r = ((s.modRecord r.tag (·.miss r.payload)).changeState r.tag .suspended false).offerDepart r.tree r.tag
      .departSuspend := by
  have eighth : 8 ≤ ((s.record r.tag).miss r.payload).missRun := by
    show 8 ≤ min 8 ((s.record r.tag).missRun + 1)
    omega
  have tree : ((s.record r.tag).miss r.payload).treeNo = r.tree := treeNo_of_isRecordOf h
  unfold State.takeMiss
  rw [if_pos h]
  dsimp only
  rw [missed_record h, if_pos eighth]
  unfold State.suspendFrom
  rw [missed_record h]
  dsimp only
  rw [tree]
  exact if_pos active

/-- An ACTIVE record of a tree after its eighth miss in a row, before its DEPART is offered (R43, R100). -/
theorem missed_suspended {r : MissReport} (h : s.isRecordOf r.tree r.tag = true)
    (active : (s.record r.tag).state = .active) (run : 7 ≤ (s.record r.tag).missRun) :
    let u := (s.modRecord r.tag (·.miss r.payload)).changeState r.tag .suspended false
    u.record r.tag = { s.record r.tag with
      state := .suspended, missRun := 8, outstanding := (s.record r.tag).outstanding - r.payload } ∧
    (∀ j, j ≠ r.tag → u.record j = s.record j) ∧
    u.load r.tree = ⟨(s.load r.tree).committed - s.loadOf r.tag, (s.load r.tree).release + s.loadOf r.tag,
      (s.load r.tree).scanDue⟩ ∧
    u.mail.changes = s.mail.changes ++ [⟨r.tag, .active, .suspended⟩] ∧
    u.mail.attention = s.mail.attention ++ [.change r.tag .active .suspended false] ∧
    u = { s with loads := u.loads, records := u.records, mail := u.mail } := by
  intro u
  have range := range_of_isRecordOf s h
  have missed := missed_record (r := r) h
  have tree : ((s.record r.tag).miss r.payload).treeNo = r.tree := treeNo_of_isRecordOf h
  have load : (s.modRecord r.tag (·.miss r.payload)).loadOf r.tag = s.loadOf r.tag := by
    unfold State.loadOf
    rw [missed]
    rfl
  have shape : u = (((s.modRecord r.tag (·.miss r.payload)).modLoad r.tree (·.drop (s.loadOf r.tag))).modRecord r.tag
      fun x => { x with state := .suspended }).reportChange r.tag .active .suspended false := by
    unfold u
    rw [changeState_suspended_of_active false (by rw [missed]; exact active), missed, tree, load]
  have eight : min 8 ((s.record r.tag).missRun + 1) = 8 := by omega
  have record (j : Nat) : u.record j = if j = r.tag then { (s.record j).miss r.payload with state := .suspended }
      else s.record j := by
    rw [shape]
    refine (modRecord_record ..).trans ?_
    rw [modLoad_record, modLoad_record, missed, modRecord_record]
    by_cases hj : j = r.tag
    · rw [if_pos ⟨hj, range⟩, if_pos hj, hj]
    · rw [if_neg fun own => hj own.1, if_neg fun own => hj own.1, if_neg hj]
  refine ⟨?_, fun j hj => (record j).trans (if_neg hj), ?_, ?_, ?_, ?_⟩
  · rw [record, if_pos rfl, DropRecord.miss, eight]
  · rw [shape]
    exact modLoad_load_self (s.modRecord r.tag (·.miss r.payload)) r.tree (·.drop (s.loadOf r.tag))
  all_goals rw [shape]; rfl

theorem exec_validBurstReport_eq {index : Nat} {r : ValidReport} (h : s.OutOfReset) (one : s.mail.valids[index]? = some r) :
    exec (.validBurstReport index) s =
      .next ((s.modMail fun m => { m with valids := s.mail.valids.eraseIdx index }).takeValid r) := by
  refine (live_out s _ h).trans ?_
  rw [takeNth_of_getElem? one]

theorem exec_missReport_eq {index : Nat} {r : MissReport} (h : s.OutOfReset) (one : s.mail.misses[index]? = some r) :
    exec (.missReport index) s =
      .next ((s.modMail fun m => { m with misses := s.mail.misses.eraseIdx index }).takeMiss r) := by
  refine (live_out s _ h).trans ?_
  rw [takeNth_of_getElem? one]

end

/-- Settles O43: a report taken of a tag that is no record of the tree, of a record that stays, and of the eighth miss. -/
theorem arrivalReportsAreWrittenWhole : Obligations.ArrivalReportsAreWrittenWhole := by
  refine fun index s h => ⟨fun r one => ?_, fun r one => ?_⟩
  · rw [exec_validBurstReport_eq h one, takeValid_eq]
    rfl
  · intro taken missed
    have step : exec (.missReport index) s = .next (taken.takeMiss r) := exec_missReport_eq h one
    rw [step]
    refine ⟨fun other => ?_, fun own stays => ?_, fun own active run => ?_⟩
    · rw [takeMiss_of_other (s := taken) other]
    · rw [takeMiss_of_stays (s := taken) own stays]
      rfl
    · obtain ⟨record, others, load, changes, attention, rest⟩ := missed_suspended (s := taken) own active run
      rw [takeMiss_of_eighth (s := taken) own active run]
      generalize (taken.modRecord r.tag (·.miss r.payload)).changeState r.tag .suspended false = v at *
      have engines : v.engines = s.engines := by rw [rest]
      have kept : v.kept = s.kept := by rw [rest]
      refine ⟨_, rfl, ?_⟩
      rcases offerDepart_cases v r.tree r.tag with e | ⟨due, e⟩ | ⟨disabled, e⟩ <;> rw [e]
      · refine ⟨record, others, load, changes, attention, fun _ => .inl ?_, ?_⟩
        · rw [modEngine_engine_self, engine_congr engines]
        · rw [rest]
          rfl
      · refine ⟨record, others, load, changes, attention, fun _ => .inr ⟨due, ?_⟩, ?_⟩
        · rw [kept]
        · rw [rest]
      · refine ⟨record, others, load, changes, attention, fun enabled => absurd ?_ enabled, ?_⟩
        · rwa [engine_congr engines] at disabled
        · rw [rest]

end Sys2Proof.Machine

/-! ## The allocation of a record and PROVISION (R36, R41, R48, R57, R79; log entry 15) -/

namespace Sys2Proof.Machine

section
variable {s : State} {t : Tree} {k : Nat}

/-- A tag that an allocation can take: VACANT, departure none (R48). -/
def State.isFreeTag (s : State) (k : Nat) : Prop :=
  1 ≤ k ∧ k ≤ 256 ∧ (s.record k).state = .vacant ∧ s.departure k = .none

theorem mem_freeTags_iff (s : State) (k : Nat) :
    (k ∈ numbersWhere s.records fun k r => r.state == .vacant && s.departure k == .none) ↔ s.isFreeTag k := by
  rw [mem_numbersWhere _ _ _ DropRecord.vacant]
  simp only [Bool.and_eq_true, beq_iff_eq, and_assoc]
  exact Iff.rfl

theorem treeCount_eq (s : State) (t : Tree) :
    s.treeCount t = ((List.range' 1 256).filter fun k => s.isRecordOf t k).length := by
  rw [State.treeCount, numbersWhere_eq _ _ DropRecord.vacant]
  rfl

theorem allocate_of_least (free : s.isFreeTag k) (least : ∀ j, j < k → ¬ s.isFreeTag j) :
    s.allocate t = if 96 ≤ s.treeCount t then .treeFull else .tag k := by
  have first := numbersWhere_head?_eq_some s.records (fun k r => r.state == .vacant && s.departure k == .none) k
    ((mem_freeTags_iff s k).mpr free) fun j hj => not_lt.mp fun lt => least j lt ((mem_freeTags_iff s j).mp hj)
  rw [State.allocate, first]

theorem allocate_of_none_free (none : ∀ k, ¬ s.isFreeTag k) : s.allocate t = .poolFull := by
  have empty : (numbersWhere s.records fun k r => r.state == .vacant && s.departure k == .none) = [] :=
    List.eq_nil_iff_forall_not_mem.mpr fun k hk => none k ((mem_freeTags_iff s k).mp hk)
  rw [State.allocate, empty, List.head?_nil]

/-- A record with departure none has no carried DEPART (R62). -/
theorem departed_of_departure_none (h : s.departure k = .none) : (s.record k).departed = none := by
  unfold State.departure at h
  split at h
  · cases h
  · split at h
    · cases h
    · assumption

/-- The record that an allocated tag gets, departure none (R57, R58). -/
theorem filled_of_free (free : s.isFreeTag k) (state : RecState) (serial : Serial) (profile : Nat) (provisioned : Bool) :
    (s.record k).filled state serial t profile provisioned =
      ⟨state, some serial, some t, profile, 0, false, false, 0, 0, 0, 0, 0, 0, .none, provisioned, none⟩ := by
  obtain ⟨-, -, -, departure⟩ := free
  rw [DropRecord.filled, departed_of_departure_none departure]
  rfl

theorem dropStrangers_stranger (s : State) (test : Stranger → Bool) (n : Nat) :
    (s.dropStrangers test).stranger n = (s.stranger n).filter fun x => !test x := by
  refine (readAt_map s.strangers (n + 1) _ none).trans ?_
  split
  · rfl
  · rename_i outside
    rw [State.stranger, readAt_of_not_mem _ _ _ outside]
    rfl

/-- The state in which PROVISION leaves the part, its answer aside (R36, R42, R57, R79). -/
theorem provisionRecord_record {serial : Serial} {profile : Nat} (free : s.isFreeTag k) (j : Nat) :
    (s.provisionRecord t k serial profile).record j =
      if j = k then ⟨.expected, some serial, some t, profile, 0, false, false, 0, 0, 0, 0, 0, 0, .none, true, none⟩
      else s.record j := by
  refine (newRecord_record ..).trans ?_
  rw [filled_of_free free]
  by_cases hj : j = k
  · rw [if_pos ⟨hj, free.1, free.2.1⟩, if_pos hj]
  · rw [if_neg fun own => hj own.1, if_neg hj]

/-- The answer of a link and the new record are apart. -/
theorem provisionRecord_answer (s : State) (t : Tree) (k : Nat) (serial : Serial) (profile : Nat) (l : LinkId)
    (status : Status) (data : ResponseData) :
    (s.provisionRecord t k serial profile).answer l status data =
      (s.answer l status data).provisionRecord t k serial profile := rfl

theorem exec_provision_eq {l : LinkId} {seq : Nat} {serial : Serial} {profile : Nat} (h : s.Serves l .control)
    (range : profile < 16) :
    exec (.provision l seq serial t.val profile) s =
      .next (match s.lookup serial with
        | some k => s.served l 6 seq .duplicate (.tag k)
        | none =>
          match s.allocate t with
          | .poolFull => s.served l 6 seq .poolFull .none
          | .treeFull => s.served l 6 seq .treeFull .none
          | .tag k => (s.served l 6 seq .ok (.tag k)).provisionRecord t k serial profile) := by
  have answered (status : Status) (data : ResponseData) :
      (s.asked l (.provision l seq serial t.val profile)).answer l status data = s.served l 6 seq status data :=
    asked_answer ..
  show live s _ = _
  rw [live_out _ _ h.1.1, State.reqProvision, request_serves _ _ _ _ _ h, withTree_fin, State.withProfile, if_pos range,
    State.serveProvision, asked_lookup, asked_allocate]
  cases s.lookup serial with
  | some k => exact congrArg _ (answered ..)
  | none =>
    cases s.allocate t with
    | poolFull => exact congrArg _ (answered ..)
    | treeFull => exact congrArg _ (answered ..)
    | tag k =>
      dsimp only
      rw [provisionRecord_answer, answered]

end

/-- Settles O38: PROVISION by the lookup and the allocation. -/
theorem provisionFillsTheLowestFreeTag : Obligations.ProvisionFillsTheLowestFreeTag := by
  intro l seq serial t profile s h range holds isFree onTree
  have count : s.treeCount t = onTree := treeCount_eq s t
  refine ⟨fun k own least => ?_, fun none full => ?_, fun none ⟨k, free⟩ many => ?_, fun k none free least few => ?_⟩
  · rw [exec_provision_eq h range, lookup_eq_some own least]
  · rw [exec_provision_eq h range, lookup_eq_none none, allocate_of_none_free full]
  · have some : ∃ k, isFree k := ⟨k, free⟩
    classical
    rw [exec_provision_eq h range, lookup_eq_none none,
      allocate_of_least (Nat.find_spec some) fun j => Nat.find_min some, count, if_pos many]
  · refine ⟨(s.served l 6 seq .ok (.tag k)).provisionRecord t k serial profile, ?_, ?_, fun j hj => ?_, fun n => ?_, ?_⟩
    · rw [exec_provision_eq h range, lookup_eq_none none, allocate_of_least free least, count, if_neg (not_le.mpr few)]
    · exact (provisionRecord_record (s := s.served l 6 seq .ok (.tag k)) free k).trans (if_pos rfl)
    · exact (provisionRecord_record (s := s.served l 6 seq .ok (.tag k)) free j).trans (if_neg hj)
    · exact dropStrangers_stranger ..
    · rfl

end Sys2Proof.Machine

/-! ## Burst headers and the walk of packets (R24, R38, R204; log entry 22) -/

namespace Sys2Proof.Machine

/-- A header is good when it has 12 octets, its check agrees, and its tag and kind go together (R24, R204). -/
theorem judgeHeader_eq_good_iff (o : List Byte) (tag user backlog : Nat) (announce : Bool) :
    judgeHeader o = .good tag announce user backlog ↔
      ∃ kind : Byte, o.length = 12 ∧ o.drop 8 = natOctets 4 (headerCheck (o.take 8)).toNat ∧
        octetsNat (o.take 2) = tag ∧ tag ≤ 256 ∧ o[2]? = some kind ∧ announce = kind.getLsbD 0 ∧
        (tag = 0 ↔ announce = true) ∧ octetsNat ((o.drop 3).take 2) = user ∧ octetsNat ((o.drop 5).take 3) = backlog := by
  by_cases length : o.length = 12
  · match o, length with
    | [t1, t0, kind, u1, u0, b2, b1, b0, c3, c2, c1, c0], length =>
      have isAnnounce : (octetsNat [t1, t0] == 0) = kind.getLsbD 0 ↔ (octetsNat [t1, t0] = 0 ↔ kind.getLsbD 0 = true) := by
        rw [Bool.eq_iff_iff, beq_iff_eq]
      unfold judgeHeader
      dsimp only
      constructor
      · intro h
        split at h
        · rename_i good
          obtain ⟨check, le, kinds⟩ := good
          cases h
          exact ⟨kind, rfl, check, rfl, le, rfl, rfl, isAnnounce.mp kinds, rfl, rfl⟩
        · cases h
      · rintro ⟨_, -, check, rfl, le, third, rfl, kinds, rfl, rfl⟩
        cases third
        exact if_pos ⟨check, le, isAnnounce.mpr kinds⟩
  · refine iff_of_false (fun h => ?_) fun ⟨_, twelve, _⟩ => length twelve
    unfold judgeHeader at h
    split at h
    · exact length rfl
    · cases h

/-- Two octets are those of the number they spell (R202). -/
theorem natOctets_octetsNat_pair (l1 l0 : Byte) : natOctets 2 (octetsNat [l1, l0]) = [l1, l0] := by
  have h1 := l1.isLt
  have h0 := l0.isLt
  have number : octetsNat [l1, l0] = l1.toNat * 256 + l0.toNat := by simp [octetsNat]
  rw [number]
  simp only [natOctets, List.cons.injEq, and_true]
  constructor <;> apply BitVec.eq_of_toNat_eq <;> simp only [BitVec.toNat_ofNat] <;> omega

/-- The walk of packets ends at these octets: at their end, at a length of 0, at one over 9,600 or past the end (R38). -/
def walkEnds (octets : List Byte) : Prop :=
  octets.length < 2 ∨ octetsNat (octets.take 2) = 0 ∨ 9600 < octetsNat (octets.take 2) ∨
    octets.length < 2 + octetsNat (octets.take 2)

theorem walkPackets_of_ends {octets : List Byte} (h : walkEnds octets) (n : Nat) : walkPackets n octets = [] := by
  cases n with
  | zero => rfl
  | succ n =>
    match octets with
    | [] => rfl
    | [_] => rfl
    | l1 :: l0 :: rest =>
      refine if_pos ?_
      simp only [walkEnds, List.length_cons, List.take_succ_cons, List.take_zero] at h
      omega

/-- Where it does not end, the walk hands on one packet and goes on behind it (R38). -/
theorem walkPackets_of_packet {octets : List Byte} (h : ¬ walkEnds octets) (n : Nat) :
    ∃ x rest, octets = natOctets 2 x.length ++ x ++ rest ∧ 1 ≤ x.length ∧ x.length ≤ 9600 ∧
      walkPackets (n + 1) octets = x :: walkPackets n rest := by
  match octets with
  | [] => exact absurd (.inl (by simp)) h
  | [_] => exact absurd (.inl (by simp)) h
  | l1 :: l0 :: rest =>
    simp only [walkEnds, List.length_cons, List.take_succ_cons, List.take_zero, not_or, not_lt] at h
    obtain ⟨-, some, short, inside⟩ := h
    have length : (rest.take (octetsNat [l1, l0])).length = octetsNat [l1, l0] := by
      rw [List.length_take]
      omega
    refine ⟨rest.take (octetsNat [l1, l0]), rest.drop (octetsNat [l1, l0]), ?_, ?_, ?_, ?_⟩
    · rw [length, natOctets_octetsNat_pair, List.append_assoc, List.take_append_drop]
      rfl
    · omega
    · omega
    · exact if_neg (by omega)

/-- What the walk of packets hands on, and where it ends (R38). -/
theorem walkPackets_spec (n : Nat) : ∀ octets : List Byte, octets.length ≤ n →
    ∃ rest, octets = ((walkPackets n octets).flatMap fun x => natOctets 2 x.length ++ x) ++ rest ∧
      (∀ x ∈ walkPackets n octets, 1 ≤ x.length ∧ x.length ≤ 9600) ∧ walkEnds rest := by
  induction n with
  | zero =>
    intro octets length
    exact ⟨octets, rfl, nofun, .inl (by omega)⟩
  | succ n ih =>
    intro octets length
    by_cases ends : walkEnds octets
    · rw [walkPackets_of_ends ends]
      exact ⟨octets, rfl, nofun, ends⟩
    · obtain ⟨x, behind, split, some, short, walk⟩ := walkPackets_of_packet ends n
      have fewer : behind.length ≤ n := by
        rw [split] at length
        simp only [List.length_append] at length
        omega
      obtain ⟨rest, spelled, packets, ends⟩ := ih behind fewer
      rw [walk]
      refine ⟨rest, ?_, List.forall_mem_cons.mpr ⟨⟨some, short⟩, packets⟩, ends⟩
      rw [List.flatMap_cons, List.append_assoc, ← spelled]
      exact split

end Sys2Proof.Machine

/-! ## The receipt of a header against the expectation list (R28 to R34, R36, R37; log entries 22 and 35) -/

namespace Sys2Proof.Machine

/-! ### Where a capture lies (R28) -/

section
variable {x : Plan} {p : TreeParams} {offset : Nat}

/-- A burst slot holds a capture (R28). -/
def Burst.holds (b : Burst) (p : TreeParams) (offset : Nat) : Prop :=
  8 * (b.preamble - p.g) ≤ offset ∧ offset < 8 * (b.preamble + p.p + 3 + b.payload)

theorem holds_iff (b : Burst) : b.holds p offset ↔
    (decide (8 * (b.preamble - p.g) ≤ offset) && decide (offset < 8 * b.finish p)) = true := by
  rw [Bool.and_eq_true, decide_eq_true_iff, decide_eq_true_iff]
  rfl

theorem slotAt_eq_some {b : Burst} (mem : b ∈ x.entries) (own : b.holds p offset)
    (only : ∀ y ∈ x.entries, y.holds p offset → y = b) : x.slotAt p offset = some b := by
  cases found : x.slotAt p offset with
  | none => exact absurd ((holds_iff b).mp own) (List.find?_eq_none.mp found b mem)
  | some y =>
    obtain rfl := only y (List.mem_of_find?_eq_some found) ((holds_iff y).mpr (by simpa using List.find?_some found))
    rfl

theorem slotAt_eq_none (h : ∀ b ∈ x.entries, ¬ b.holds p offset) : x.slotAt p offset = none :=
  List.find?_eq_none.mpr fun b mem => mt (holds_iff b).mpr (h b mem)

/-- The plan awaited for a frame, where no other has its frame (R26). -/
theorem awaited_find? {l : List Awaited} {a : Awaited} {frame : FrameNo} (mem : a ∈ l) (own : a.plan.frame = frame)
    (distinct : l.Pairwise fun x y => x.plan.frame ≠ y.plan.frame) : (l.find? fun x => x.plan.frame == frame) = some a := by
  obtain ⟨before, after, rfl⟩ := List.append_of_mem mem
  refine List.find?_eq_some_iff_append.mpr ⟨by simpa using own, before, after, rfl, fun y hy => ?_⟩
  have other : y.plan.frame ≠ a.plan.frame := (List.pairwise_append.mp distinct).2.2 y hy a List.mem_cons_self
  simpa [← own] using other

end

/-! ### The header of the oldest capture (R28) -/

section
variable {s : State} {t : Tree} {frame : FrameNo} {offset : Nat} {h : Judged} {payload : List Byte}

/-- The receptions of a tree replaced. -/
def State.withReceptions (s : State) (t : Tree) (l : List Reception) : State :=
  s.modEngine t fun e => { e with receptions := l }

theorem withReceptions_engine (s : State) (t : Tree) (l : List Reception) :
    (s.withReceptions t l).engine t = { s.engine t with receptions := l } := modEngine_engine_self ..

theorem takeReception_split {e : Engine} {before after : List Reception} {r : Reception} {test : Reception → Bool}
    (receptions : e.receptions = before ++ r :: after) (own : test r = true) (none : ∀ x ∈ before, test x = false) :
    e.takeReception test = some (r, { e with receptions := before ++ after }) := by
  rw [Engine.takeReception, receptions, takeFirst_split own none, Option.map_some]

/-- The oldest capture that awaits its header is judged and resolved (R28). -/
theorem exec_headerReceipt_split {before after : List Reception} {r : Reception} {header : List Byte} (ready : s.OutOfReset)
    (receptions : (s.engine t).receptions = before ++ r :: after) (own : r.stage = .header)
    (none : ∀ x ∈ before, x.stage ≠ .header) :
    exec (.headerReceipt t header payload) s =
      .next ((s.withReceptions t (before ++ after)).resolve t r.frame r.s (judgeHeader header) payload) := by
  refine (live_out s _ ready).trans ?_
  rw [takeReception_split (test := Reception.inHeader) receptions (by simp [Reception.inHeader, own])
    fun x hx => by simpa [Reception.inHeader] using none x hx]
  rfl

/-- A capture in a frame whose plan is not awaited (R28). -/
theorem resolve_of_not_awaited (none : ∀ a ∈ (s.engine t).expect, a.plan.frame ≠ frame) :
    s.resolve t frame offset h payload = s.unsolicited t frame offset h := by
  have found : ((s.engine t).expect.find? fun a => a.plan.frame == frame) = Option.none :=
    List.find?_eq_none.mpr fun a mem => by simpa using none a mem
  rw [State.resolve, found]

/-- The plan `a` is the one a tree awaits for a frame (R26). -/
def Engine.awaits (e : Engine) (a : Awaited) (frame : FrameNo) : Prop :=
  (e.expect.find? fun x => x.plan.frame == frame) = some a

section
variable {a : Awaited}

/-- The first capture of a burst slot (R28). -/
theorem resolve_of_first {b : Burst} (awaited : (s.engine t).awaits a frame)
    (slot : a.plan.slotAt (s.engine t).params offset = some b) (first : b.tag ∉ a.arrived) :
    s.resolve t frame offset h payload =
      (s.modAwaited t frame fun a => { a with arrived := a.arrived ++ [b.tag] }).slotOutcome t frame offset b h payload := by
  rw [State.resolve, awaited]
  dsimp only
  rw [slot]
  exact if_neg (by simpa using first)

/-- A later capture of a burst slot (R28). -/
theorem resolve_of_later {b : Burst} (awaited : (s.engine t).awaits a frame)
    (slot : a.plan.slotAt (s.engine t).params offset = some b) (later : b.tag ∈ a.arrived) :
    s.resolve t frame offset h payload = s.unsolicited t frame offset h := by
  rw [State.resolve, awaited]
  dsimp only
  rw [slot]
  exact if_pos (by simpa using later)

/-- What a capture outside the slots of an awaited plan comes to, by the window that holds it (R28, R37). -/
def State.windowOutcome (s : State) (t : Tree) (a : Awaited) (frame : FrameNo) (offset : Nat) (h : Judged) :
    Option Window → State
  | none => s.unsolicited t frame offset h
  | some (.dark _) => s
  | some (.range tag expected _) => s.rangingCapture t a offset tag expected h
  | some .discover => s.discoveryCapture t frame offset h

/-- A capture outside the slots of an awaited plan (R28). -/
theorem resolve_of_no_slot (awaited : (s.engine t).awaits a frame)
    (slot : a.plan.slotAt (s.engine t).params offset = none) :
    s.resolve t frame offset h payload = s.windowOutcome t a frame offset h (a.plan.windowAt offset) := by
  rw [State.resolve, awaited]
  dsimp only
  rw [slot]
  match a.plan.windowAt offset with
  | none | some (.dark _) | some (.range ..) | some .discover => rfl

end

/-! ### The outcomes of a burst slot (R30 to R33, R36, R38) -/

/-- The reports of a valid burst, and its packets (R30, R36, R38). -/
theorem validBurst_eq (s : State) (t : Tree) (frame : FrameNo) (offset : Nat) (b : Burst) (user backlog : Nat)
    (payload : List Byte) :
    s.validBurst t frame offset b user backlog payload =
      { s with
        mail := { s.mail with
          valids := s.mail.valids ++ [⟨t, b.tag, backlog, b.payload⟩]
          samples := s.mail.samples ++
            [⟨t, b.tag, frame, (offset : Int) - (b.preamble + (s.engine t).params.p) * 8, false⟩]
          ups := s.mail.ups ++ [⟨t, b.tag, min user (b.payload * 4), decide (b.payload * 4 < user)⟩]
          cleans := s.mail.cleans ++ [⟨t, b.tag, frame, b.preamble - (s.engine t).params.g,
            b.preamble + (s.engine t).params.p + 3 + b.payload⟩] }
        uplink := s.uplink ++
          if s.isRecordOf t b.tag then
            (walkPackets (min user (b.payload * 4)) (payload.take (min user (b.payload * 4)))).map fun x =>
              natOctets 4 b.tag ++ x
          else [] } := by
  have sample : sampleOf offset b.preamble (s.engine t).params.p =
      (offset : Int) - (b.preamble + (s.engine t).params.p) * 8 := by
    rw [sampleOf]
    push_cast
    rfl
  rw [← sample]
  unfold State.validBurst
  cases own : s.isRecordOf t b.tag with
  | true => exact if_pos own
  | false =>
    rw [if_neg Bool.false_ne_true, List.append_nil]
    exact if_neg (by rw [Bool.not_eq_true]; exact own)

end

end Sys2Proof.Machine

/-! ## The first lock of a burst slot (R28 to R34, R36, R38; log entries 22 and 35) -/

namespace Sys2Proof.Machine

section
variable {s : State} {t : Tree} {frame : FrameNo} {offset : Nat} {b : Burst} {payload : List Byte}

/-- A good header with the planned tag is valid (R30). -/
theorem slotOutcome_valid {announce : Bool} {user backlog : Nat} :
    s.slotOutcome t frame offset b (.good b.tag announce user backlog) payload =
      s.validBurst t frame offset b user backlog payload := if_pos rfl

/-- A good header with another tag is a miss and a WRONG_SLOT (R33; log entry 35). -/
theorem slotOutcome_misplaced {k : Nat} {announce : Bool} {user backlog : Nat} (other : k ≠ b.tag) :
    s.slotOutcome t frame offset b (.good k announce user backlog) payload =
      (s.reportMiss t b).tellLight t frame (.wrongSlot (if s.isRecordOf t k then some k else none)) := if_neg other

end

/-- Settles O34: the judgement of a header, the walk of packets, and the slot's outcome at its first and later locks. -/
theorem theFirstLockDecidesItsSlot : Obligations.TheFirstLockDecidesItsSlot := by
  refine ⟨judgeHeader_eq_good_iff, walkPackets_spec, ?_⟩
  intro t header payload before after r a b s ready receptions own none mem frame distinct entry low high only p received
    resolved missed
  have step : exec (.headerReceipt t header payload) s =
      .next (received.resolve t r.frame r.s (judgeHeader header) payload) :=
    exec_headerReceipt_split ready receptions own none
  have engine : received.engine t = { s.engine t with receptions := before ++ after } := withReceptions_engine ..
  have params : (received.engine t).params = p := by rw [engine]
  have awaited : (received.engine t).awaits a r.frame := by
    rw [engine]
    exact awaited_find? mem frame distinct
  have slot : a.plan.slotAt (received.engine t).params r.s = some b := by
    rw [params]
    exact slotAt_eq_some entry ⟨low, high⟩ fun x hx holds => only x hx holds.1 holds.2
  rw [step]
  refine ⟨fun first => ?_, fun later => ?_⟩
  · have resolvedParams : (resolved.engine t).params = p := by
      show ((received.modEngine t _).engine t).params = p
      rw [modEngine_engine_self]
      exact params
    have outcome (h : Judged) : received.resolve t r.frame r.s h payload =
        resolved.slotOutcome t r.frame r.s b h payload := resolve_of_first awaited slot first
    rw [outcome]
    refine ⟨fun announce user backlog good => ?_, fun bad => ?_, fun k announce user backlog good other => ?_⟩
    · rw [good, slotOutcome_valid, validBurst_eq, resolvedParams]
      rfl
    · rw [bad]
      rfl
    · rw [good, slotOutcome_misplaced other]
      rfl
  · rw [resolve_of_later awaited slot later]
    rfl

end Sys2Proof.Machine

/-! ## Captures outside the burst slots (R25, R28, R34, R37; log entries 8 and 23) -/

namespace Sys2Proof.Machine

/-! ### The window of a plan (R28) -/

theorem windowAt_of_none {x : Plan} {offset : Nat} (h : x.window = none) : x.windowAt offset = none := by
  rw [Plan.windowAt, h, Option.filter_none]

/-- A DARK or a ranging window of a width (R28). -/
def Window.hasWidth (w : Window) (width : Nat) : Prop := w = .dark width ∨ ∃ tag expected, w = .range tag expected width

theorem windowAt_of_width {x : Plan} {w : Window} {width : Nat} (h : x.window = some w) (own : w.hasWidth width)
    (offset : Nat) : x.windowAt offset = if offset < 8 * width then some w else none := by
  rw [Plan.windowAt, h, Option.filter_some]
  rcases own with rfl | ⟨tag, expected, rfl⟩ <;> simp only [decide_eq_true_eq]

theorem windowAt_of_discover {x : Plan} (h : x.window = some .discover) (offset : Nat) :
    x.windowAt offset = some .discover := by
  rw [Plan.windowAt, h]
  rfl

/-! ### Ranging windows (R37) -/

section
variable {s : State} {t : Tree} {a : Awaited} {offset tag expected : Nat}

/-- The backlog of a good header with the right tag stored in its record (R37). -/
def State.storeBacklog (s : State) (t : Tree) (tag : Nat) : Judged → State
  | .good k _ _ backlog =>
    if k = tag ∧ s.isRecordOf t k = true then s.modRecord k fun r => { r with backlog := backlog } else s
  | .bad => s

/-- The tag and the backlog of a good header (R37). -/
def Judged.tagAndBacklog : Judged → Option (Nat × Nat)
  | .good k _ _ backlog => some (k, backlog)
  | .bad => none

theorem storeBacklog_record (s : State) (t : Tree) (tag j : Nat) (announce : Bool) (user backlog k : Nat) :
    (s.storeBacklog t tag (.good j announce user backlog)).record k =
      if j = tag ∧ k = tag ∧ s.isRecordOf t tag = true then { s.record k with backlog := backlog } else s.record k := by
  unfold State.storeBacklog
  dsimp only
  by_cases right : j = tag
  · subst right
    by_cases own : s.isRecordOf t j = true
    · rw [if_pos ⟨rfl, own⟩, modRecord_record]
      by_cases hk : k = j
      · subst hk
        rw [if_pos ⟨rfl, range_of_isRecordOf s own⟩, if_pos ⟨rfl, rfl, own⟩]
      · rw [if_neg fun both => hk both.1, if_neg fun both => hk both.2.1]
    · rw [if_neg fun both => own both.2, if_neg fun both => own both.2.2]
  · rw [if_neg fun both => right both.1, if_neg fun both => right both.1]

theorem storeBacklog_shape (s : State) (t : Tree) (tag : Nat) (h : Judged) :
    ∃ records, s.storeBacklog t tag h = { s with records := records } := by
  cases h with
  | bad => exact ⟨s.records, rfl⟩
  | good k announce user backlog =>
    unfold State.storeBacklog
    dsimp only
    split
    · exact ⟨_, rfl⟩
    · exact ⟨s.records, rfl⟩

/-- The record and the tree engine are written apart. -/
theorem storeBacklog_modEngine (s : State) (t i : Tree) (tag : Nat) (h : Judged) (f : Engine → Engine) :
    (s.modEngine i f).storeBacklog t tag h = (s.storeBacklog t tag h).modEngine i f := by
  cases h with
  | bad => rfl
  | good k announce user backlog =>
    unfold State.storeBacklog
    dsimp only
    rw [apply_ite (State.modEngine · i f)]
    rfl

theorem modAwaited_engine (s : State) (t x : Tree) (frame : FrameNo) (f : Awaited → Awaited) :
    (s.modAwaited t frame f).engine x =
      if x = t then { s.engine t with expect := (s.engine t).expect.map fun a => if a.plan.frame = frame then f a else a }
      else s.engine x := modEngine_engine ..

theorem rangingCapture_of_later (h : Judged) (hit : a.windowHit = true) :
    s.rangingCapture t a offset tag expected h = s := if_pos hit

/-- The first capture of a ranging window (R37). -/
theorem rangingCapture_of_first (h : Judged) (first : a.windowHit = false) :
    s.rangingCapture t a offset tag expected h =
      ((s.storeBacklog t tag h).modAwaited t a.plan.frame fun a => { a with windowHit := true }).tellRanging t a.plan.frame
        tag (.capture offset ((offset : Int) - (expected + (s.engine t).params.p) * 8) h.tagAndBacklog) := by
  have sample : sampleOf offset expected (s.engine t).params.p =
      (offset : Int) - (expected + (s.engine t).params.p) * 8 := by
    rw [sampleOf]
    push_cast
    rfl
  have params : ((s.modAwaited t a.plan.frame fun a => { a with windowHit := true }).engine t).params =
      (s.engine t).params := by rw [State.modAwaited, modEngine_engine_self]
  unfold State.rangingCapture
  rw [if_neg (by simp [first])]
  dsimp only
  rw [params, sample, State.modAwaited, State.modAwaited, ← storeBacklog_modEngine]
  cases h <;> rfl

/-- What the first capture of a ranging window leaves: its report, the mark that the window has had one, and a backlog
(R37). -/
theorem rangingCapture_first_effect {u : State} {h : Judged} (first : a.windowHit = false)
    (captured : s.rangingCapture t a offset tag expected h = u) :
    u.mail = { s.mail with
      ranging := s.mail.ranging ++ [⟨t, a.plan.frame, tag,
        .capture offset ((offset : Int) - (expected + (s.engine t).params.p) * 8) h.tagAndBacklog⟩] } ∧
    (∀ k, u.record k = (s.storeBacklog t tag h).record k) ∧
    u.engine t = { s.engine t with
      expect := (s.engine t).expect.map fun x => if x.plan.frame = a.plan.frame then { x with windowHit := true } else x } ∧
    (∀ x, x ≠ t → u.engine x = s.engine x) ∧
    u = { s with engines := u.engines, records := u.records, mail := u.mail } := by
  obtain ⟨records, stored⟩ := storeBacklog_shape s t tag h
  rw [rangingCapture_of_first h first, stored] at captured
  subst captured
  have engine (x : Tree) := modAwaited_engine { s with records := records } t x a.plan.frame fun x => { x with windowHit := true }
  refine ⟨rfl, fun k => ?_, (engine t).trans (if_pos rfl), fun x hx => (engine x).trans (if_neg hx), rfl⟩
  rw [stored]
  rfl

end

/-! ### Discovery windows (R25, R37) -/

section
variable {s : State} {t : Tree} {frame : FrameNo} {offset : Nat}

/-- One capture follows another by less than an announce (R37; log entry 23). -/
theorem soonAfter_iff (f0 f1 : FrameNo) (s0 s1 : Nat) (steps : Int) : soonAfter f0 s0 f1 s1 steps = true ↔
    -8 < (f1 - f0).toInt * 80000 + (s1 : Int) - s0 ∧ (f1 - f0).toInt * 80000 + (s1 : Int) - s0 < steps := by
  rw [soonAfter, Bool.and_eq_true, decide_eq_true_iff, decide_eq_true_iff]
  rfl

theorem cutsAnnounce_iff (e : Engine) : e.cutsAnnounce frame offset = true ↔
    ∃ x ∈ e.receptions, ∃ d : Int, d = (x.frame - frame).toInt * 80000 + x.s - offset ∧ -8 < d ∧ d < 56 := by
  rw [Engine.cutsAnnounce, List.any_eq_true]
  simp only [soonAfter_iff, exists_eq_left]

theorem overlaps_of_none {e : Engine} (h : e.lastAnnounce = none) : e.overlaps frame offset = false := by
  rw [Engine.overlaps, h]

theorem overlaps_of_some {e : Engine} {f : FrameNo} {at' : Nat} (h : e.lastAnnounce = some (f, at')) :
    e.overlaps frame offset =
      decide (-8 < (frame - f).toInt * 80000 + (offset : Int) - at' ∧
        (frame - f).toInt * 80000 + (offset : Int) - at' < 56) := by
  rw [Engine.overlaps, h]
  exact Bool.eq_iff_iff.mpr ((soonAfter_iff ..).trans decide_eq_true_iff.symm)

theorem discoveryCapture_plain {k user backlog : Nat} :
    s.discoveryCapture t frame offset (.good k false user backlog) =
      s.tellDiscovery t frame (.plain k ((s.engine t).overlaps frame offset)) := rfl

/-- An announce that no later capture cuts short is received on (R25, R37). -/
theorem discoveryCapture_announce {k user backlog : Nat} (whole : ¬ (s.engine t).cutsAnnounce frame offset = true) :
    s.discoveryCapture t frame offset (.good k true user backlog) =
      s.modEngine t fun e =>
        { e with
          lastAnnounce := some (frame, offset)
          receptions := e.receptions ++ [⟨frame, offset, .payload ((s.engine t).overlaps frame offset)⟩] } :=
  if_neg whole

/-- An announce that a later capture has cut short already (R37). -/
theorem discoveryCapture_cut {k user backlog : Nat} (cut : (s.engine t).cutsAnnounce frame offset = true) :
    s.discoveryCapture t frame offset (.good k true user backlog) =
      (s.tellDiscovery t frame .cutShort).modEngine t fun e => { e with lastAnnounce := some (frame, offset) } :=
  if_pos cut

end

/-- Settles O35: a capture by whether its plan is awaited and by the window that holds it. -/
theorem capturesOutsideSlotsAreUnsolicitedOrTheWindows : Obligations.CapturesOutsideSlotsAreUnsolicitedOrTheWindows := by
  intro t header payload before after r s ready receptions own none p received unsolicited
  have step : exec (.headerReceipt t header payload) s =
      .next (received.resolve t r.frame r.s (judgeHeader header) payload) :=
    exec_headerReceipt_split ready receptions own none
  have engine : received.engine t = { s.engine t with receptions := before ++ after } := withReceptions_engine ..
  have stray (h : received.resolve t r.frame r.s (judgeHeader header) payload =
      received.unsolicited t r.frame r.s (judgeHeader header)) : unsolicited := by
    show exec _ _ = _
    rw [step, h]
    rfl
  refine ⟨fun noPlan => stray (resolve_of_not_awaited (by rwa [engine])), fun a mem frame distinct noSlot => ?_⟩
  have awaited : (received.engine t).awaits a r.frame := by
    rw [engine]
    exact awaited_find? mem frame distinct
  have slot : a.plan.slotAt (received.engine t).params r.s = Option.none := by
    rw [engine]
    exact slotAt_eq_none noSlot
  have outcome := resolve_of_no_slot (h := judgeHeader header) (payload := payload) awaited slot
  refine ⟨fun noWindow => stray ?_, fun width window late => stray ?_, fun width early => ⟨fun window => ?_,
    fun tag expected window => ⟨fun hit => ?_, fun first => ?_⟩⟩, fun window => ?_⟩
  · rw [outcome, windowAt_of_none noWindow]
    rfl
  · have outside : a.plan.windowAt r.s = Option.none := by
      rcases window with dark | ⟨tag, expected, range⟩
      · rw [windowAt_of_width dark (.inl rfl), if_neg (not_lt.mpr late)]
      · rw [windowAt_of_width range (.inr ⟨_, _, rfl⟩), if_neg (not_lt.mpr late)]
    rw [outcome, outside]
    rfl
  · rw [step, outcome, windowAt_of_width window (.inl rfl), if_pos early]
    rfl
  · rw [step, outcome, windowAt_of_width window (.inr ⟨_, _, rfl⟩), if_pos early]
    exact congrArg _ (rangingCapture_of_later _ hit)
  · have params : (received.engine t).params = p := by rw [engine]
    have captured : received.resolve t r.frame r.s (judgeHeader header) payload =
        received.rangingCapture t a r.s tag expected (judgeHeader header) := by
      rw [outcome, windowAt_of_width window (.inr ⟨_, _, rfl⟩), if_pos early]
      rfl
    obtain ⟨mail, records, own, others, rest⟩ := rangingCapture_first_effect first captured.symm
    rw [frame, params] at mail
    rw [frame, engine] at own
    refine ⟨_, step, mail.trans ?_, fun k => (records k).trans ?_, own, fun x hx => (others x hx).trans ?_, rest⟩
    · cases judgeHeader header <;> rfl
    · cases judgeHeader header with
      | bad => rfl
      | good j announce user backlog => exact storeBacklog_record received t tag j announce user backlog k
    · exact (modEngine_engine ..).trans (if_neg hx)
  · intro overlapping cutShort reported
    have overlaps : (received.engine t).overlaps r.frame r.s = overlapping := by
      rw [engine]
      unfold overlapping
      cases last : (s.engine t).lastAnnounce with
      | none => exact overlaps_of_none last
      | some at' => exact overlaps_of_some last
    have cuts : (received.engine t).cutsAnnounce r.frame r.s = true ↔ cutShort := by
      rw [engine]
      exact cutsAnnounce_iff _
    have captured : received.resolve t r.frame r.s (judgeHeader header) payload =
        received.discoveryCapture t r.frame r.s (judgeHeader header) := by
      rw [outcome, windowAt_of_discover window]
      rfl
    rw [step, captured]
    refine ⟨fun bad => ?_, fun k user backlog plain => ?_, fun k user backlog announce whole => ?_,
      fun k user backlog announce cut => ?_⟩
    · rw [bad, discoveryCapture_bad, overlaps]
      rfl
    · rw [plain, discoveryCapture_plain, overlaps]
      rfl
    · rw [announce, discoveryCapture_announce (mt cuts.mp whole), overlaps]
      exact congrArg _ (modEngine_modEngine ..)
    · rw [announce, discoveryCapture_cut (cuts.mpr cut)]
      rfl

end Sys2Proof.Machine

/-! ## The end of an announce and of an awaited plan (R25, R26, R35, R37, R204; log entries 4, 8, 23) -/

namespace Sys2Proof.Machine

section
variable {s : State} {t : Tree}

/-- The oldest announce whose payload is being received is reported (R25, R37, R204). -/
theorem exec_announcePayloadEnd_split {before after : List Reception} {r : Reception} {overlapping : Bool}
    {payload : List Byte} (ready : s.OutOfReset) (receptions : (s.engine t).receptions = before ++ r :: after)
    (own : r.stage = .payload overlapping) (headers : ∀ x ∈ before, x.stage = .header) :
    exec (.announcePayloadEnd t payload) s =
      .next ((s.withReceptions t (before ++ after)).tellDiscovery t r.frame
        (.announce r.s (announceSerial payload) (announceStagger payload) overlapping)) := by
  refine (live_out s _ ready).trans ?_
  rw [takeReception_split (test := Reception.inPayload) receptions (by simp [Reception.inPayload, own])
    fun x hx => by simp [Reception.inPayload, headers x hx]]
  dsimp only
  rw [own]
  rfl

/-! ### What a plan that leaves the list reports (R35) -/

/-- The misses of a plan: its slots without an arrival, in order. -/
def Awaited.missesOn (a : Awaited) (t : Tree) : List MissReport :=
  (a.plan.entries.filter fun b => decide (b.tag ∉ a.arrived)).map fun b => ⟨t, b.tag, b.payload⟩

def Awaited.darkEndsOn (a : Awaited) (t : Tree) : List DarkEnd :=
  match a.plan.window with
  | some (.dark _) => [⟨t, a.plan.frame⟩]
  | _ => []

def Awaited.rangingEndsOn (a : Awaited) (t : Tree) : List RangingMsg :=
  match a.plan.window with
  | some (.range tag _ _) => [⟨t, a.plan.frame, tag, .windowEnd (!a.windowHit)⟩]
  | _ => []

def Awaited.discoveryEndsOn (a : Awaited) (t : Tree) : List DiscoveryMsg :=
  match a.plan.window with
  | some .discover => [⟨t, a.plan.frame, .windowEnd⟩]
  | _ => []

theorem reportMisses_eq (t : Tree) (l : List Burst) : ∀ s : State, l.foldl (fun s b => s.reportMiss t b) s =
    s.modMail fun m => { m with misses := m.misses ++ l.map fun b => ⟨t, b.tag, b.payload⟩ } := by
  induction l with
  | nil =>
    intro s
    simp [State.modMail]
  | cons b rest ih =>
    intro s
    rw [List.foldl_cons, ih]
    simp [State.reportMiss, State.modMail]

theorem settlePlan_eq (s : State) (t : Tree) (a : Awaited) : s.settlePlan t a =
    s.modMail fun m =>
      { m with
        misses := m.misses ++ a.missesOn t
        darkEnds := m.darkEnds ++ a.darkEndsOn t
        ranging := m.ranging ++ a.rangingEndsOn t
        discovery := m.discovery ++ a.discoveryEndsOn t } := by
  have slots : (a.plan.entries.filter fun b => !a.arrived.contains b.tag) =
      a.plan.entries.filter fun b => decide (b.tag ∉ a.arrived) :=
    List.filter_congr fun b _ => by simp
  unfold State.settlePlan Awaited.darkEndsOn Awaited.rangingEndsOn Awaited.discoveryEndsOn
  dsimp only
  rw [reportMisses_eq, slots]
  split <;> simp [State.modMail, State.tellRanging, State.tellDiscovery, Awaited.missesOn, *]

/-- The upstream frame of the plan has ended and all that was captured in it is received (R26). -/
theorem leaves_iff (s : State) (t : Tree) (a : Awaited) :
    (s.frameEnded t a && (s.engine t).allReceived a.plan.frame) = true ↔
      ((s.engine t).params.tTarget : Int) + 80000 ≤ (s.frame - a.plan.frame).toInt * 80000 + s.stepOffset ∧
        ∀ r ∈ (s.engine t).receptions, r.frame ≠ a.plan.frame := by
  rw [Bool.and_eq_true, State.frameEnded, decide_eq_true_iff, Engine.allReceived, List.all_eq_true]
  simp only [bne_iff_ne]
  rfl

end

end Sys2Proof.Machine

/-! ## The latest announce at a boundary (R37; log entries 8 and 23) -/

namespace Sys2Proof.Machine

/-- An announce that is not forgotten was the latest, and a capture can still fall before its end (R37). -/
theorem forgetAnnounce_eq_some {e : Engine} {now f : FrameNo} {at' : Nat}
    (h : (e.forgetAnnounce now).lastAnnounce = some (f, at')) :
    e.lastAnnounce = some (f, at') ∧ ((now - f).toInt < 6 ∨
      ∃ r ∈ e.receptions, ∃ d : Int, d = (r.frame - f).toInt * 80000 + r.s - at' ∧ -8 < d ∧ d < 56) := by
  unfold Engine.forgetAnnounce at h
  split at h
  · rename_i f' at'' last
    split at h
    · cases h
    · rename_i stays
      obtain ⟨rfl, rfl⟩ := Prod.mk.inj (Option.some.inj (last.symm.trans h))
      refine ⟨last, ?_⟩
      by_contra! old
      obtain ⟨late, none⟩ := old
      refine stays (Bool.and_eq_true_iff.mpr ⟨(atLeastAfter_iff ..).mpr late, List.all_eq_true.mpr fun r mem => ?_⟩)
      rw [Bool.not_eq_true', Bool.eq_false_iff]
      intro soon
      obtain ⟨after, before⟩ := (soonAfter_iff ..).mp soon
      exact absurd before (not_lt.mpr (none r mem _ rfl after))
  · rename_i last
    exact absurd (last.symm.trans h) nofun

section
variable (s : State) (t : Tree)

/-- What a tree hears with: the latest announce, and the captures still being received. -/
def Engine.sameHearing (e e' : Engine) : Prop := e'.lastAnnounce = e.lastAnnounce ∧ e'.receptions = e.receptions

/-- A change of a tree's state that leaves it RUNNING or CUT does not touch what is being received (R4, R165, R168). -/
theorem changeTree_sameHearing (runs : ((s.changeTree t).1.engine t).state ≠ .disabled) :
    (s.engine t).sameHearing ((s.changeTree t).1.engine t) := by
  by_cases disable : (s.engine t).disableWaiters = []
  · by_cases enable : (s.engine t).enableWaiters = []
    · rw [changeTree_of_none s t disable enable]
      split
      · rw [enterCut_engine]
        exact ⟨rfl, rfl⟩
      · split
        · rw [leaveCut_engine]
          exact ⟨rfl, rfl⟩
        · exact ⟨rfl, rfl⟩
    · rw [changeTree_of_enable s t disable enable, enableTree_engine]
      exact ⟨rfl, rfl⟩
  · rw [changeTree_of_disable s t disable, disableTree_engine] at runs
    exact absurd rfl runs

/-- The run of a tree forgets an announce that is over, and then leaves it (R37). -/
theorem runTree_lastAnnounce (enabled : Bool) :
    ((s.runTree t enabled).engine t).lastAnnounce = ((s.engine t).forgetAnnounce s.frame).lastAnnounce := by
  let r := s.modEngine t (·.forgetAnnounce s.frame)
  have compiled := (State.WithinRun.startCompile (s := r.counted t enabled) (i := t) ((r.counted t enabled).frame + 1)).engine
  have own := (withinRun_scanned r t).engine
  rw [runTree_eq, makeDue_engine, compiled, counted_engine, own, dispatch_engine, modEngine_engine_self]
  rfl

theorem runTree_receptions (enabled : Bool) :
    ((s.runTree t enabled).engine t).receptions = (s.engine t).receptions := by rw [runTree_engine]

/-- A boundary forgets an announce that is over as it runs the tree, with what was heard before (R37). -/
theorem boundary_announce (runs : (s.boundary.engine t).state ≠ .disabled) :
    ∃ e, (s.engine t).sameHearing e ∧
      (s.boundary.engine t).lastAnnounce = (e.forgetAnnounce (s.frame + 1)).lastAnnounce ∧
      (s.boundary.engine t).receptions = e.receptions := by
  obtain ⟨v, ⟨-, before⟩, -, after⟩ := exists_turn s t
  have changes : ((v.changeTree t).1.engine t).state ≠ .disabled := by
    rwa [after.engine, boundaryTree_state] at runs
  have now : (v.changeTree t).1.frame = s.frame + 1 := by
    rw [changeTree_frame, before.frame, atBoundary_frame]
  have turn : v.boundaryTree t = (v.changeTree t).1.runTree t (v.changeTree t).2 := by
    rw [boundaryTree_eq, if_neg changes]
  obtain ⟨announce, receptions⟩ := changeTree_sameHearing v t changes
  refine ⟨(v.changeTree t).1.engine t, ⟨announce.trans ?_, receptions.trans ?_⟩, ?_, ?_⟩
  · rw [before.engine, atBoundary_engine]
  · rw [before.engine, atBoundary_engine]
  · rw [after.engine, turn, runTree_lastAnnounce, now]
  · rw [after.engine, turn, runTree_receptions]

end

/-- Settles O36: an announce at the end of its payload, a plan that may leave or not, and the announce that a boundary
keeps. -/
theorem announcesAndPlansEndWithTheirReports : Obligations.AnnouncesAndPlansEndWithTheirReports := by
  refine ⟨fun t payload before after r overlapping s ready _ receptions own headers => ?_,
    fun t offset a rest s ready expect => ?_, fun s u t f at' ready step runs last => ?_⟩
  · rw [exec_announcePayloadEnd_split ready receptions own headers]
    rfl
  · intro now isOver
    have step : exec (.planLeavesList t offset) s = .next ((s.advance offset).leavePlan t) := live_out s _ ready
    have over_iff : ((s.advance offset).frameEnded t a && ((s.advance offset).engine t).allReceived a.plan.frame) = true ↔
        isOver := leaves_iff (s.advance offset) t a
    have first : ((s.advance offset).engine t).expect = a :: rest := expect
    rw [step, State.leavePlan, first]
    dsimp only
    refine ⟨fun isEnded => ?_, fun notEnded => ?_⟩
    · rw [if_pos (over_iff.mpr isEnded), settlePlan_eq]
      rfl
    · rw [if_neg (mt over_iff.mp notEnded)]
      rfl
  · obtain rfl := (exec_frameBoundary_iff ready).mp step
    obtain ⟨e, ⟨announce, heard⟩, latest, receptions⟩ := boundary_announce s t runs
    rw [boundary_frame, receptions, ← announce]
    exact forgetAnnounce_eq_some (latest.symm.trans last)

end Sys2Proof.Machine

/-! ## Reports of a discovery window (R36, R58, R69, R71 to R77; log entry 15) -/

namespace Sys2Proof.Machine

/-! ### What a window has held (R70) -/

section
variable (e : Enrol) (frame : FrameNo)

theorem noteOf_frame : (e.noteOf frame).frame = frame := by
  unfold Enrol.noteOf
  cases found : e.notes.find? (·.frame == frame) with
  | none => rfl
  | some x => simpa using List.find?_some found

theorem setNote_noteOf {x : WindowNote} (own : x.frame = frame) : (e.setNote x).noteOf frame = x := by
  subst own
  have others : (e.notes.filter (·.frame != x.frame)).find? (·.frame == x.frame) = none :=
    List.find?_eq_none.mpr fun y hy => by simpa using (List.mem_filter.mp hy).2
  simp [Enrol.setNote, Enrol.noteOf, List.find?_append, others]

theorem noteCollision_noteOf : (e.noteCollision frame).noteOf frame = { e.noteOf frame with collision := true } :=
  setNote_noteOf e frame (noteOf_frame e frame)

theorem noteAnnounced_noteOf : (e.noteAnnounced frame).noteOf frame = { e.noteOf frame with announced := true } :=
  setNote_noteOf e frame (noteOf_frame e frame)

end

/-! ### An ENROL_OFFER that its lane accepts (R76) -/

section
variable {s : State} {t : Tree} {k : Nat} {serial : Serial} {delay : Nat}

/-- The normal lane of a tree has room, and the enrolment unit keeps no directive (R14, R16). -/
structure State.OfferRoom (s : State) (t : Tree) : Prop where
  enabled : (s.engine t).state ≠ .disabled
  room : (s.engine t).normal.length < 32
  none : ∀ x ∈ s.kept, x.entry.origin.producer ≠ .enrolment

theorem State.OfferRoom.accepts (h : s.OfferRoom t) : ¬ s.laneBlocked t ⟨.enrolOffer serial k delay, .offer⟩ := by
  rintro (full | ⟨y, mem, -, own⟩)
  · rcases (laneFull_iff ..).mp full with ⟨urgent, -⟩ | ⟨-, many⟩
    · cases urgent
    · exact absurd h.room (not_lt.mpr many)
  · exact h.none y mem own

/-- Room stays where the engines do and kept directives are only dropped. -/
theorem State.OfferRoom.mono {u : State} (h : s.OfferRoom t) (engines : u.engines = s.engines) (kept : u.kept ⊆ s.kept) :
    u.OfferRoom t where
  enabled := by rw [engine_congr engines]; exact h.enabled
  room := by rw [engine_congr engines]; exact h.room
  none x mem := h.none x (kept mem)

/-- The record that an announcement is taken against stands ANNOUNCED on its tree with its serial (R74, R75). -/
structure State.Announced (s : State) (t : Tree) (k : Nat) (serial : Serial) : Prop where
  state : (s.record k).state = .announced
  tree : (s.record k).tree = some t
  serial : (s.record k).serial = some serial

/-- Two changes of one record are one change. -/
theorem modRecord_modRecord (s : State) (k : Nat) (f g : DropRecord → DropRecord) :
    (s.modRecord k f).modRecord k g = s.modRecord k fun r => g (f r) := by
  have twice : updateAt (updateAt s.records k f) k g = updateAt s.records k fun r => g (f r) := by
    by_cases range : 1 ≤ k ∧ k ≤ 256
    · simp [updateAt, range]
    · simp [updateAt, range]
  unfold State.modRecord
  dsimp only
  rw [twice]

/-- An accepted ENROL_OFFER: the offer waits with its delay in the record, and stands at the tail of the lane (R76). -/
theorem produceOffer_of_room (room : s.OfferRoom t) (announced : s.Announced t k serial) :
    s.produceOffer t k serial delay =
      ((s.modRecord k fun r => { r with offer := .waiting, delay := delay }).modEngine t fun e =>
        { e with normal := e.normal ++ [⟨.enrolOffer serial k delay, .offer⟩] }).modTracker k (·.accept .offer) := by
  have range := record_tag_range (s := s) (k := k) (by simp [announced.state])
  let w := s.modRecord k fun r => { r with offer := .waiting }
  have waiting : w.record k = { s.record k with offer := .waiting } :=
    (modRecord_record ..).trans (if_pos ⟨rfl, range⟩)
  have noneKept : ¬ w.kept.any (Kept.isOffer k) = true := by
    rw [List.any_eq_true]
    rintro ⟨y, mem, own⟩
    obtain ⟨origin, -⟩ := Bool.and_eq_true_iff.mp own
    exact room.none y mem (by rw [beq_iff_eq.mp origin]; rfl)
  have wRoom : w.OfferRoom t := room.mono rfl (List.Subset.refl _)
  have accepted := offer_accepted w t ⟨.enrolOffer serial k delay, .offer⟩ wRoom.enabled wRoom.accepts
  have stands : (w.record k).state = .announced ∧ (w.record k).tree = some t ∧ (w.record k).serial = some serial := by
    rw [waiting]
    exact ⟨announced.state, announced.tree, announced.serial⟩
  have written : w.acceptEntry t ⟨.enrolOffer serial k delay, .offer⟩ =
      ((w.modRecord k fun r => { r with delay := delay }).modEngine t fun e =>
        { e with normal := e.normal ++ [⟨.enrolOffer serial k delay, .offer⟩] }).modTracker k (·.accept .offer) :=
    if_pos stands
  rw [modRecord_modRecord] at written
  exact (if_neg noneKept).trans (accepted.trans written)

/-- What an announcement taken against a record leaves, its offer accepted (R74, R75, R76, R79). -/
theorem takeAgainst_of_room {u : State} (room : s.OfferRoom t) (announced : s.Announced t k serial)
    (taken : s.takeAgainst t k serial delay = u) :
    u.record k = { s.record k with offer := .waiting, delay := delay } ∧ (∀ j, j ≠ k → u.record j = s.record j) ∧
      (u.engine t).normal = (s.engine t).normal ++ [⟨.enrolOffer serial k delay, .offer⟩] ∧
      u = { s with
        engines := u.engines, records := u.records, trackers := u.trackers, strangers := u.strangers } := by
  have range := record_tag_range (s := s) (k := k) (by simp [announced.state])
  rw [State.takeAgainst, produceOffer_of_room room announced] at taken
  subst taken
  have record (j : Nat) := modRecord_record s k j fun r => { r with offer := .waiting, delay := delay }
  refine ⟨(record k).trans (if_pos ⟨rfl, range⟩), fun j hj => (record j).trans (if_neg fun own => hj own.1), ?_, rfl⟩
  exact congrArg Engine.normal (modEngine_engine_self (s.modRecord k fun r => { r with offer := .waiting, delay := delay }) t
    fun e => { e with normal := e.normal ++ [⟨.enrolOffer serial k delay, .offer⟩] })

end

end Sys2Proof.Machine

/-! ### Records that become ANNOUNCED (R43, R58, R74, R75) -/

namespace Sys2Proof.Machine

section
variable {s : State} {t : Tree} {k : Nat} {serial : Serial} {delay : Nat}

theorem modLoad_eq_self {f : Load → Load} (h : f (s.load t) = s.load t) : s.modLoad t f = s := by
  unfold State.modLoad
  rw [h]
  simp [State.load]

theorem modEnrol_eq_self {f : Enrol → Enrol} (h : f (s.enrol t) = s.enrol t) : s.modEnrol t f = s := by
  unfold State.modEnrol
  rw [h]
  simp [State.enrol]

theorem modEnrol_modEnrol (s : State) (t : Tree) (f g : Enrol → Enrol) :
    (s.modEnrol t f).modEnrol t g = s.modEnrol t fun e => g (f e) := by
  simp [State.modEnrol, State.enrol, Vector.set_set]

/-- The load of a record that leaves ACTIVE, where it is (R43). -/
theorem leaveActive_announced (tree : (s.record k).tree = some t) :
    s.leaveActive k .announced =
      s.modLoad t fun l => if (s.record k).state = .active then l.drop (s.loadOf k) else l := by
  have treeNo : (s.record k).treeNo = t := by rw [DropRecord.treeNo, tree, Option.getD_some]
  unfold State.leaveActive
  by_cases active : (s.record k).state = .active
  · simp only [active, treeNo]
    rfl
  · rw [if_neg fun both => active both.1, modLoad_eq_self]
    exact if_neg active

/-- The ranging queue and the attempt of a tree as a record found in a state leaves RANGING (R43, R81). -/
def Enrol.dequeue (e : Enrol) (k : Nat) (found : RecState) : Enrol :=
  if found = .ranging then { e with queue := e.queue.filter (· != k), attempt := none } else e

/-- The ranging queue of a tree as a record joins its tail (R43, R81). -/
def Enrol.enqueue (e : Enrol) (k : Nat) : Enrol := { e with queue := e.queue ++ [k] }

/-- The ranging queue where a record of the tree leaves another state than ANNOUNCED for it (R43, R81). -/
theorem leaveQueue_announced (tree : (s.record k).tree = some t) (other : (s.record k).state ≠ .announced) :
    ∃ kept, s.leaveQueue k .announced = { s.modEnrol t (·.dequeue k (s.record k).state) with kept := kept } := by
  have treeNo : (s.record k).treeNo = t := by rw [DropRecord.treeNo, tree, Option.getD_some]
  unfold State.leaveQueue
  by_cases ranging : (s.record k).state = .ranging
  · simp only [ranging, treeNo]
    exact ⟨_, rfl⟩
  · rw [modEnrol_eq_self (f := (·.dequeue k (s.record k).state)) (if_neg ranging)]
    exact ⟨s.kept, if_neg fun both => both.1.elim other ranging⟩

/-- A record of the tree that becomes ANNOUNCED (R43). -/
theorem changeState_announced (tree : (s.record k).tree = some t) (other : (s.record k).state ≠ .announced) :
    ∃ kept, s.changeState k .announced false =
      ({ ((s.modLoad t fun l => if (s.record k).state = .active then l.drop (s.loadOf k) else l).modRecord k
            (·.enter .announced)).modEnrol t fun e => (e.dequeue k (s.record k).state).enqueue k with
        kept := kept } : State).reportChange k (s.record k).state .announced false := by
  have treeNo : (s.record k).treeNo = t := by rw [DropRecord.treeNo, tree, Option.getD_some]
  let w := s.modLoad t fun l => if (s.record k).state = .active then l.drop (s.loadOf k) else l
  obtain ⟨ranged, left⟩ := leaveQueue_announced (s := w) tree other
  obtain ⟨kept, suspended⟩ := leaveSuspended_shape (w.leaveQueue k .announced) k
  have joined := modEnrol_modEnrol w t (·.dequeue k (s.record k).state) (·.enqueue k)
  refine ⟨kept, ?_⟩
  unfold State.changeState
  dsimp only
  rw [if_neg other, leaveActive_announced tree, treeNo, suspended, left]
  exact congrArg (fun u : State => ({ u.modRecord k (·.enter .announced) with kept := kept } : State).reportChange k
    (s.record k).state .announced false) joined

/-- What a record of the tree that becomes ANNOUNCED leaves (R42, R43, R81). -/
theorem changeState_announced_effect {u : State} (tree : (s.record k).tree = some t) (known : (s.record k).state ≠ .vacant)
    (changed : s.changeState k .announced false = u) :
    let found := (s.record k).state
    u.record k = { s.record k with
      state := .announced, rangeAttempts := if found = .announced then (s.record k).rangeAttempts else 0 } ∧
    (∀ j, j ≠ k → u.record j = s.record j) ∧
    (u.enrol t).queue = (if found = .announced then (s.enrol t).queue
      else if found = .ranging then (s.enrol t).queue.filter (· != k) ++ [k] else (s.enrol t).queue ++ [k]) ∧
    (u.load t).committed = (s.load t).committed - (if found = .active then s.loadOf k else 0) ∧
    u.mail.attention = s.mail.attention ++ (if found = .announced then [] else [.change k found .announced false]) ∧
    u = { s with loads := u.loads, enrols := u.enrols, records := u.records, kept := u.kept, mail := u.mail } := by
  intro found
  have range := record_tag_range known
  by_cases same : found = .announced
  · have still : s = u := (same ▸ changeState_same s k false : s.changeState k .announced false = s).symm.trans changed
    subst still
    have own : s.record k = { s.record k with state := .announced } := by rw [← same]
    simp [same, ← own]
  · obtain ⟨kept, whole⟩ := changeState_announced tree same
    have written : u.record k = (s.record k).enter .announced := by
      rw [← changed, changeState_record, if_pos ⟨rfl, same, range⟩]
    have queue : (u.enrol t).queue = (((s.enrol t).dequeue k found).enqueue k).queue := by
      rw [← changed, whole]
      exact congrArg Enrol.queue (modEnrol_enrol_self s t fun e => (e.dequeue k found).enqueue k)
    have load : u.load t = if found = .active then (s.load t).drop (s.loadOf k) else s.load t := by
      rw [← changed, whole]
      exact modLoad_load_self s t fun l => if (s.record k).state = .active then l.drop (s.loadOf k) else l
    refine ⟨?_, fun j hj => ?_, ?_, ?_, ?_, ?_⟩
    · rw [written, if_neg same]
      rfl
    · rw [← changed, changeState_record, if_neg fun own => hj own.1]
    · rw [queue, if_neg same]
      unfold Enrol.enqueue Enrol.dequeue
      split <;> rfl
    · rw [load]
      split <;> rfl
    · rw [← changed, whole, if_neg same]
      rfl
    · rw [← changed, whole]
      rfl

end

end Sys2Proof.Machine

/-! ### An announcement by zone, lookup and mode (R71 to R76) -/

namespace Sys2Proof.Machine

section
variable {s : State} {t : Tree} {f : FrameNo} {k : Nat} {serial : Serial} {offset stagger delay : Nat}

theorem allocate_tag_free (h : s.allocate t = .tag k) : s.isFreeTag k := by
  unfold State.allocate at h
  split at h
  · cases h
  · rename_i first
    split at h
    · cases h
    · cases h
      exact (mem_freeTags_iff s k).mp (List.mem_of_head? first)

/-- The announce sample, whose width the statement leaves to the integers (R71). -/
theorem announceSample_eq (offset stagger p : Nat) :
    announceSample offset stagger p = (offset : Int) - ((stagger : Int) + p) * 8 := by
  unfold announceSample
  push_cast
  rfl

/-- An announce sample within the zone of the tree (R71, R72). -/
def State.InZone (s : State) (t : Tree) (delta : Int) : Prop := 0 ≤ delta ∧ delta ≤ (s.engine t).params.z

/-- The delay that an announcement is answered with, Z − δ (R76). -/
def State.answerDelay (s : State) (t : Tree) (delta : Int) : Nat := (((s.engine t).params.z : Int) - delta).toNat

theorem announcement_outside {delta : Int} (sample : announceSample offset stagger (s.engine t).params.p = delta)
    (outside : ¬ s.InZone t delta) :
    s.announcement t f offset serial stagger = s.enterStranger t f serial .outOfZone delta := by
  unfold State.InZone at outside
  unfold State.announcement
  dsimp only
  rw [sample, if_pos (by omega)]

/-- An announcement within the zone, of a serial that no record holds (R73, R75). -/
theorem announcement_unknown {delta : Int} (sample : announceSample offset stagger (s.engine t).params.p = delta)
    (zone : s.InZone t delta) (none : s.lookup serial = none) :
    s.announcement t f offset serial stagger = s.announceUnknown t f serial delta (s.answerDelay t delta) := by
  obtain ⟨low, high⟩ := zone
  unfold State.announcement
  dsimp only
  rw [sample, if_neg (by omega), none]
  rfl

/-- An announcement within the zone, of a serial that a record holds (R73, R74). -/
theorem announcement_known {delta : Int} (sample : announceSample offset stagger (s.engine t).params.p = delta)
    (zone : s.InZone t delta) (some : s.lookup serial = some k) :
    s.announcement t f offset serial stagger =
      if (s.record k).tree = Option.some t then s.announceKnown t f k serial (s.answerDelay t delta)
      else s.tellLight t f (.duplicate k serial) := by
  obtain ⟨low, high⟩ := zone
  unfold State.announcement
  dsimp only
  rw [sample, if_neg (by omega), some]
  rfl

theorem announceUnknown_of_not_auto {delta : Int} (mode : (s.enrol t).mode ≠ .auto) :
    s.announceUnknown t f serial delta delay = s.enterStranger t f serial .unknown delta := by
  unfold State.announceUnknown
  cases h : (s.enrol t).mode with
  | auto => exact absurd h mode
  | opened | closed => rfl

theorem announceUnknown_of_auto {delta : Int} (mode : (s.enrol t).mode = .auto) :
    (∀ k, s.allocate t = .tag k → s.announceUnknown t f serial delta delay = s.createRecord t k serial delay) ∧
    (s.allocate t = .poolFull →
      s.announceUnknown t f serial delta delay = s.enterStranger t f serial .poolFull delta) ∧
    (s.allocate t = .treeFull →
      s.announceUnknown t f serial delta delay = s.enterStranger t f serial .treeFull delta) := by
  unfold State.announceUnknown
  rw [mode]
  refine ⟨fun k h => ?_, fun h => ?_, fun h => ?_⟩ <;> rw [h]

theorem announceKnown_of_rogue (rogue : (s.record k).state = .rogue) :
    s.announceKnown t f k serial delay = s.tellLight t f (.wrongSlot (some k)) := by
  rw [State.announceKnown, rogue]

theorem announceKnown_of_inLookup (held : (s.record k).state.inLookup = true) (other : (s.record k).state ≠ .rogue) :
    s.announceKnown t f k serial delay = (s.changeState k .announced false).takeAgainst t k serial delay := by
  unfold State.announceKnown
  cases h : (s.record k).state with
  | rogue => exact absurd h other
  | vacant | retired => rw [h] at held; cases held
  | expected | suspended | announced | ranging | active | parked => rfl

/-! ### Records taken to ANNOUNCED -/

/-- What an announcement leaves of a record of the tree that is not ROGUE, its offer accepted (R74, R76). -/
theorem announceKnown_effect {u : State} (holds : s.holdsSerial serial k) (tree : (s.record k).tree = some t)
    (other : (s.record k).state ≠ .rogue) (room : s.OfferRoom t) (announced : s.announceKnown t f k serial delay = u) :
    let found := (s.record k).state
    u.record k = { s.record k with
      state := .announced, rangeAttempts := if found = .announced then (s.record k).rangeAttempts else 0
      offer := .waiting, delay := delay } ∧
    (∀ j, j ≠ k → u.record j = s.record j) ∧
    (u.enrol t).queue = (if found = .announced then (s.enrol t).queue
      else if found = .ranging then (s.enrol t).queue.filter (· != k) ++ [k] else (s.enrol t).queue ++ [k]) ∧
    (u.load t).committed = (s.load t).committed - (if found = .active then s.loadOf k else 0) ∧
    (u.engine t).normal = (s.engine t).normal ++ [⟨.enrolOffer serial k delay, .offer⟩] ∧
    u.mail.attention = s.mail.attention ++ (if found = .announced then [] else [.change k found .announced false]) ∧
    u = { s with
      engines := u.engines, loads := u.loads, enrols := u.enrols, records := u.records, trackers := u.trackers
      strangers := u.strangers, kept := u.kept, mail := u.mail } := by
  intro found
  obtain ⟨held, own⟩ := holds
  have known : (s.record k).state ≠ .vacant := fun vacant => by simp [vacant, RecState.inLookup] at held
  rw [announceKnown_of_inLookup held other] at announced
  obtain ⟨record, others, queue, load, attention, frame⟩ := changeState_announced_effect tree known rfl
  have stands : (s.changeState k .announced false).Announced t k serial :=
    ⟨congrArg DropRecord.state record, (congrArg DropRecord.tree record).trans tree,
      (congrArg DropRecord.serial record).trans own⟩
  have roomy : (s.changeState k .announced false).OfferRoom t :=
    room.mono (changeState_engines ..) (changeState_kept_sublist ..).subset
  obtain ⟨record', others', lane, frame'⟩ := takeAgainst_of_room roomy stands announced
  generalize s.changeState k .announced false = v at *
  refine ⟨?_, fun j hj => (others' j hj).trans (others j hj), ?_, ?_, ?_, ?_, ?_⟩
  · rw [record', record]
  · rw [frame']; exact queue
  · rw [frame']; exact load
  · rw [lane, frame]; rfl
  · rw [frame']; exact attention
  · rw [frame', frame]

end

end Sys2Proof.Machine

/-! ### Records created by an announcement (R58, R75) and the sorting of reports (R69) -/

namespace Sys2Proof.Machine

section
variable {s : State} {t : Tree} {f : FrameNo} {k : Nat} {serial : Serial} {delay : Nat}

/-- What an announcement creates in AUTO at an allocated tag, its offer accepted (R36, R58, R75, R76; log entry 15). -/
theorem createRecord_effect {u : State} (free : s.isFreeTag k) (room : s.OfferRoom t)
    (created : s.createRecord t k serial delay = u) :
    u.record k =
      ⟨.announced, some serial, some t, 0, delay, false, false, 0, 0, 0, 0, 0, 0, .waiting, false, none⟩ ∧
    (∀ j, j ≠ k → u.record j = s.record j) ∧ (u.enrol t).queue = (s.enrol t).queue ++ [k] ∧
    u.mail = { s.mail.release k with
      changes := s.mail.changes ++ [⟨k, .vacant, .announced⟩]
      attention := s.mail.attention ++ [.change k .vacant .announced false] } := by
  have record (j : Nat) := newRecord_record s t j k .announced serial 0 false
  have filled := (record k).trans ((if_pos ⟨rfl, free.1, free.2.1⟩).trans (filled_of_free free ..))
  have queue : ((s.newRecord t k .announced serial 0 false).enrol t).queue = (s.enrol t).queue ++ [k] :=
    congrArg Enrol.queue (modEnrol_enrol_self s t fun e => { e with queue := e.queue ++ [k] })
  have roomy : (s.newRecord t k .announced serial 0 false).OfferRoom t :=
    room.mono (newRecord_engines ..) (List.Subset.refl _)
  have stands : (s.newRecord t k .announced serial 0 false).Announced t k serial :=
    ⟨congrArg DropRecord.state filled, congrArg DropRecord.tree filled, congrArg DropRecord.serial filled⟩
  obtain ⟨written, others, -, frame⟩ := takeAgainst_of_room roomy stands created
  refine ⟨?_, fun j hj => (others j hj).trans ((record j).trans (if_neg fun own => hj own.1)), ?_, ?_⟩
  · rw [written, filled]
  · rw [frame]; exact queue
  · rw [frame]; exact newRecord_mail s t k .announced serial 0 false (.inr rfl)

/-- DISCOVERY_REPORT takes the oldest message of the tree, a report (R69). -/
theorem exec_discoveryReport_eq {body : DiscoveryBody} {before after : List DiscoveryMsg} (h : s.OutOfReset)
    (mail : s.mail.discovery = before ++ ⟨t, f, body⟩ :: after) (first : ∀ x ∈ before, x.tree ≠ t)
    (report : body ≠ .windowEnd) :
    exec (.discoveryReport t) s =
      .next (({ s with mail := { s.mail with discovery := before ++ after } } : State).takeDiscovery t f body) := by
  have found : s.takeDiscoveryMsg t =
      some (⟨t, f, body⟩, { s with mail := { s.mail with discovery := before ++ after } }) := by
    rw [State.takeDiscoveryMsg, mail, takeFirst_split (by simp) fun x hx => by simpa using first x hx]
    rfl
  show live s _ = _
  rw [live_out _ _ h, found]
  exact congrArg _ (if_neg report)

end

/-- A report that is neither announcement nor misdirected burst is a collision of its window (R69, R70). -/
theorem takeDiscovery_collision (s : State) (t : Tree) (f : FrameNo) {body : DiscoveryBody}
    (collision : body = .badHeader true ∨ body = .badHeader false ∨ (∃ k, body = .plain k true) ∨ body = .cutShort ∨
      (∃ at' serial z, body = .announce at' serial z true)) :
    body ≠ .windowEnd ∧ s.takeDiscovery t f body = s.modEnrol t (·.noteCollision f) := by
  rcases collision with rfl | rfl | ⟨k, rfl⟩ | rfl | ⟨at', serial, z, rfl⟩ <;> exact ⟨nofun, rfl⟩

/-- Settles O47: the body of the report, then the zone, the lookup and the mode of an announcement. -/
theorem discoveryReportsAreSortedWhenTaken : Obligations.DiscoveryReportsAreSortedWhenTaken := by
  intro t f body before after s h mail first taken told p
  refine ⟨fun collision => ?_, fun k plain => ?_, fun at' serial z announce => ?_⟩
  · obtain ⟨report, sorted⟩ := takeDiscovery_collision taken t f collision
    refine ⟨taken.modEnrol t (·.noteCollision f), ?_, ?_, ?_, fun x hx => ?_, rfl⟩
    · rw [exec_discoveryReport_eq h mail first report, sorted]
    · rw [modEnrol_enrol_self]
      exact noteCollision_noteOf ..
    · rw [modEnrol_enrol_self]
      rfl
    · exact (modEnrol_enrol ..).trans (if_neg hx)
  · subst plain
    rw [exec_discoveryReport_eq h mail first nofun]
    rfl
  · subst announce
    intro delta inZone holds noted
    have exec_eq : exec (.discoveryReport t) s = .next (noted.announcement t f at' serial z) :=
      exec_discoveryReport_eq h mail first nofun
    have sample : announceSample at' z (noted.engine t).params.p = delta := announceSample_eq ..
    have unknown (zone : inZone) (none : ∀ k, ¬ holds k) : exec (.discoveryReport t) s =
        .next (noted.announceUnknown t f serial delta (noted.answerDelay t delta)) := by
      rw [exec_eq, announcement_unknown sample zone (lookup_eq_none none)]
    have known (k : Nat) (zone : inZone) (own : holds k) (least : ∀ j, j < k → ¬ holds j) : exec (.discoveryReport t) s =
        .next (if (s.record k).tree = some t then noted.announceKnown t f k serial (noted.answerDelay t delta)
          else noted.tellLight t f (.duplicate k serial)) := by
      rw [exec_eq, announcement_known sample zone (lookup_eq_some own least)]
      rfl
    have mode : (noted.enrol t).mode = (s.enrol t).mode := by
      rw [modEnrol_enrol_self]
      rfl
    have queue : (noted.enrol t).queue = (s.enrol t).queue := by
      rw [modEnrol_enrol_self]
      rfl
    refine ⟨noteAnnounced_noteOf .., fun out => ?_, fun zone none other => ?_, fun k zone own least other => ?_,
      fun k zone own least tree rogue => ?_, fun k zone own least tree other enabled room free => ?_,
      fun k zone none auto tag enabled room free => ?_, fun zone none auto pool => ?_, fun zone none auto full => ?_⟩
    · rw [exec_eq, announcement_outside sample out]
    · rw [unknown zone none, announceUnknown_of_not_auto (mode ▸ other)]
    · rw [known k zone own least, if_neg other]
      rfl
    · rw [known k zone own least, if_pos tree, announceKnown_of_rogue (s := noted) rogue]
      rfl
    · intro found
      obtain ⟨record, others, joined, load, lane, attention, frame⟩ :=
        announceKnown_effect (s := noted) (f := f) (delay := noted.answerDelay t delta) own tree other
          ⟨enabled, room, free⟩ rfl
      refine ⟨_, by rw [known k zone own least, if_pos tree], record, others, ?_, load, lane, attention, frame⟩
      rw [joined, queue]
      rfl
    · obtain ⟨record, others, joined, whole⟩ := createRecord_effect (s := noted) (t := t) (serial := serial)
        (delay := noted.answerDelay t delta) (allocate_tag_free tag) ⟨enabled, room, free⟩ rfl
      have created := (announceUnknown_of_auto (s := noted) (f := f) (serial := serial) (delta := delta)
        (delay := noted.answerDelay t delta) (mode.trans auto)).1 k tag
      refine ⟨_, by rw [unknown zone none, created], record, others, ?_, ?_⟩
      · rw [joined, queue]
      · rw [whole]
        exact ⟨rfl, rfl, rfl, rfl, rfl, rfl, rfl, rfl⟩
    · rw [unknown zone none, (announceUnknown_of_auto (mode.trans auto)).2.1 pool]
    · rw [unknown zone none, (announceUnknown_of_auto (mode.trans auto)).2.2 full]

end Sys2Proof.Machine

/-! ## The roster: what a step can do to records, loads and profiles (R41, R43, R47, R53, R54, R59)

Two invariants speak of the roster alone: each serial in one record of the lookup, and the committed load of each tree. What
they see of a state is its `Roster`; `Roster.Step` says every way in which it can change, and each invariant is proved
against these ways alone. -/

namespace Sys2Proof.Machine

/-! ### What the invariants see -/

/-- What the invariants of the roster see of a record. -/
structure Standing where
  state : RecState
  serial : Option Serial
  tree : Option Tree
  profile : Nat

/-- What the invariants of the roster see of a state. -/
@[ext] structure Roster where
  standing : Nat → Standing
  committed : Tree → Nat
  release : Tree → Nat
  share : Nat → Nat
  overhead : Tree → Nat
  limit : Tree → Nat
  disabled : Tree → Bool

def DropRecord.standing (r : DropRecord) : Standing := ⟨r.state, r.serial, r.tree, r.profile⟩

def State.roster (s : State) : Roster where
  standing k := (s.record k).standing
  committed t := (s.load t).committed
  release t := (s.load t).release
  share n := (s.profile n).share
  overhead t := (s.engine t).params.overhead
  limit t := (s.engine t).params.k
  disabled t := (s.engine t).state == .disabled

/-- A record that stands ACTIVE on a tree. -/
abbrev Standing.ActiveOn (x : Standing) (t : Tree) : Prop := x.state = .active ∧ x.tree = some t

/-- A record as it stands in a new state (R41, R43). -/
def Standing.enter (x : Standing) (new : RecState) : Standing :=
  if new = .vacant then ⟨.vacant, none, none, 0⟩ else { x with state := new }

theorem standing_enter (r : DropRecord) (new : RecState) : (r.enter new).standing = r.standing.enter new := by
  cases new <;> rfl

@[simp] theorem Standing.enter_state (x : Standing) (new : RecState) : (x.enter new).state = new := by
  unfold Standing.enter
  split
  · exact Eq.symm ‹_›
  · rfl

theorem Standing.enter_of_ne {x : Standing} {new : RecState} (h : new ≠ .vacant) : x.enter new = { x with state := new } :=
  if_neg h

/-- A record of the lookup keeps its serial in every state of the lookup. -/
theorem Standing.enter_serial {x : Standing} {new : RecState} (h : new.inLookup = true) :
    (x.enter new).serial = x.serial := by
  rw [Standing.enter_of_ne (by rintro rfl; cases h)]

namespace Roster

variable (r : Roster)

/-- F + A + O of a record (R43). -/
def loadOf (k : Nat) : Nat := r.share (r.standing k).profile + r.overhead ((r.standing k).tree.getD 0)

/-- What a record adds to the committed load of a tree. -/
def term (t : Tree) (k : Nat) : Nat := if (r.standing k).ActiveOn t then r.loadOf k else 0

/-- The ACTIVE records of a tree that name a profile. -/
def users (t : Tree) (n : Nat) : Nat :=
  ((Finset.Icc 1 256).filter fun k => (r.standing k).ActiveOn t ∧ (r.standing k).profile = n).card

/-- One record written. -/
def place (k : Nat) (x : Standing) : Roster := { r with standing := Function.update r.standing k x }

/-- A tree's committed load rises. -/
def rise (t : Tree) (grains : Nat) : Roster :=
  { r with committed := Function.update r.committed t (r.committed t + grains) }

/-- A tree's committed load falls, and its release pending rises (R54). -/
def fall (t : Tree) (grains : Nat) : Roster :=
  { r with
    committed := Function.update r.committed t (r.committed t - grains)
    release := Function.update r.release t (r.release t + grains) }

/-- The committed load of a tree once a profile has another F + A (R53). -/
def loadWith (n share : Nat) (t : Tree) : Nat := r.committed t - r.users t n * r.share n + r.users t n * share

/-- A profile with another F + A: falls join the release pending (R53). -/
def reprofile (n share : Nat) : Roster :=
  { r with
    share := Function.update r.share n share
    committed := r.loadWith n share
    release := fun t => r.release t + (r.committed t - r.loadWith n share t) }

/-- A tree is DISABLED: its served records are SUSPENDED and its load is gone (R6). -/
def shutDown (t : Tree) : Roster :=
  { r with
    standing := fun k =>
      if (r.standing k).tree = some t ∧ (r.standing k).state.served = true then { r.standing k with state := .suspended }
      else r.standing k
    committed := Function.update r.committed t 0
    release := Function.update r.release t 0
    disabled := Function.update r.disabled t true }

end Roster

/-- What a command can do to the roster, in one move. -/
inductive Roster.Step : Roster → Roster → Prop
  /-- A record leaves ACTIVE and gives up its load (R43). -/
  | leave {r : Roster} {k : Nat} {new : RecState} (tag : 1 ≤ k ∧ k ≤ 256) (active : (r.standing k).state = .active)
      (other : new ≠ .active) :
      Step r ((r.fall ((r.standing k).tree.getD 0) (r.loadOf k)).place k ((r.standing k).enter new))
  /-- A record that is not ACTIVE changes its state; none enters the lookup by it (R43, R47). -/
  | move {r : Roster} {k : Nat} {new : RecState} (tag : 1 ≤ k ∧ k ≤ 256) (idle : (r.standing k).state ≠ .active)
      (other : new ≠ .active) (known : new.inLookup = true → (r.standing k).state.inLookup = true) :
      Step r (r.place k ((r.standing k).enter new))
  /-- A record becomes ACTIVE where its load fits (R54 to R56). -/
  | activate {r : Roster} {k : Nat} {t : Tree} (tag : 1 ≤ k ∧ k ≤ 256) (idle : (r.standing k).state ≠ .active)
      (known : (r.standing k).state.inLookup = true) (tree : (r.standing k).tree = some t)
      (fits : r.committed t + r.release t + r.loadOf k ≤ r.limit t) (enabled : r.disabled t = false) :
      Step r ((r.rise t (r.loadOf k)).place k ((r.standing k).enter .active))
  /-- A VACANT record is taken for a serial that no record of the lookup holds (R57, R58). -/
  | create {r : Roster} {k : Nat} {x : Standing} (tag : 1 ≤ k ∧ k ≤ 256) (vacant : (r.standing k).state = .vacant)
      (other : x.state ≠ .active)
      (fresh : ∀ j, (r.standing j).state.inLookup = true → x.serial ≠ none → (r.standing j).serial ≠ x.serial) :
      Step r (r.place k x)
  /-- A record that is not ACTIVE names another profile (R59). -/
  | assign {r : Roster} {k n : Nat} (tag : 1 ≤ k ∧ k ≤ 256) (idle : (r.standing k).state ≠ .active) :
      Step r (r.place k { r.standing k with profile := n })
  /-- An ACTIVE record names a profile of greater F + A, where the rise fits (R59). -/
  | assignUp {r : Roster} {k n : Nat} {t : Tree} (tag : 1 ≤ k ∧ k ≤ 256) (active : (r.standing k).state = .active)
      (tree : t = (r.standing k).tree.getD 0) (up : r.share (r.standing k).profile ≤ r.share n)
      (fits : r.committed t + r.release t + (r.share n - r.share (r.standing k).profile) ≤ r.limit t) :
      Step r ((r.rise t (r.share n - r.share (r.standing k).profile)).place k { r.standing k with profile := n })
  /-- An ACTIVE record names a profile of no greater F + A (R59). -/
  | assignDown {r : Roster} {k n : Nat} {t : Tree} (tag : 1 ≤ k ∧ k ≤ 256) (active : (r.standing k).state = .active)
      (tree : t = (r.standing k).tree.getD 0) (down : r.share n ≤ r.share (r.standing k).profile) :
      Step r ((r.fall t (r.share (r.standing k).profile - r.share n)).place k { r.standing k with profile := n })
  /-- A profile takes another F + A, where every tree passes the budget check (R53). -/
  | reprofile {r : Roster} {n share : Nat}
      (passes : ∀ t, r.loadWith n share t ≤ r.committed t ∨ r.loadWith n share t + r.release t ≤ r.limit t) :
      Step r (r.reprofile n share)
  /-- A DISABLED tree takes other parameters (R8). -/
  | params {r : Roster} {t : Tree} {overhead limit : Nat} (disabled : r.disabled t = true) :
      Step r
        { r with overhead := Function.update r.overhead t overhead, limit := Function.update r.limit t limit }
  | enable {r : Roster} {t : Tree} : Step r { r with disabled := Function.update r.disabled t false }
  | shutDown {r : Roster} {t : Tree} : Step r (r.shutDown t)
  /-- The release pending of a tree is cleared by a promotion scan (R55). -/
  | scan {r : Roster} {t : Tree} : Step r { r with release := Function.update r.release t 0 }
  | reset {r u : Roster} (vacant : ∀ k, u.standing k = ⟨.vacant, none, none, 0⟩)
      (empty : ∀ t, u.committed t = 0 ∧ u.release t = 0) : Step r u

/-! ### Each serial in one record of the lookup (R47) -/

def Roster.Unique (r : Roster) : Prop :=
  ∀ (j k : Nat) (serial : Serial), (r.standing j).state.inLookup = true → (r.standing k).state.inLookup = true →
    (r.standing j).serial = some serial → (r.standing k).serial = some serial → j = k

theorem lookupInv_iff (s : State) : s.LookupInv ↔ s.roster.Unique := .rfl

/-- A roster with no record in the lookup but those that were, with their serials. -/
theorem Roster.Unique.mono {r u : Roster} (h : r.Unique)
    (within : ∀ k, (u.standing k).state.inLookup = true →
      (r.standing k).state.inLookup = true ∧ (u.standing k).serial = (r.standing k).serial) : u.Unique := by
  intro j k serial hj hk sj sk
  obtain ⟨lj, ej⟩ := within j hj
  obtain ⟨lk, ek⟩ := within k hk
  exact h j k serial lj lk (ej ▸ sj) (ek ▸ sk)

theorem Roster.place_standing (r : Roster) (k j : Nat) (x : Standing) :
    (r.place k x).standing j = if j = k then x else r.standing j := by
  simp [Roster.place, Function.update_apply]

/-- A record written whose serial, if it is in the lookup, it held there before. -/
theorem Roster.Unique.place {r : Roster} {k : Nat} {x : Standing} (h : r.Unique)
    (within : x.state.inLookup = true → (r.standing k).state.inLookup = true ∧ x.serial = (r.standing k).serial) :
    (r.place k x).Unique := by
  refine h.mono fun j => ?_
  rw [Roster.place_standing]
  split
  · subst_vars
    exact within
  · exact fun hj => ⟨hj, rfl⟩

theorem Roster.Unique.create {r : Roster} {k : Nat} {x : Standing} (h : r.Unique)
    (fresh : ∀ j, (r.standing j).state.inLookup = true → x.serial ≠ none → (r.standing j).serial ≠ x.serial) :
    (r.place k x).Unique := by
  intro i j serial hi hj si sj
  rw [Roster.place_standing] at hi hj si sj
  by_cases ei : i = k <;> by_cases ej : j = k
  · exact ei.trans ej.symm
  · rw [if_pos ei] at si
    rw [if_neg ej] at hj sj
    exact absurd (sj.trans si.symm) (fresh j hj (by simp [si]))
  · rw [if_neg ei] at hi si
    rw [if_pos ej] at sj
    exact absurd (si.trans sj.symm) (fresh i hi (by simp [sj]))
  · rw [if_neg ei] at hi si
    rw [if_neg ej] at hj sj
    exact h i j serial hi hj si sj

theorem Roster.Unique.step {r u : Roster} (e : r.Step u) (h : r.Unique) : u.Unique := by
  cases e with
  | leave _ active =>
    exact h.place fun new =>
      ⟨by rw [show _ = RecState.active from active]; rfl, Standing.enter_serial (by simpa using new)⟩
  | move _ _ _ known => exact h.place fun new => ⟨known (by simpa using new), Standing.enter_serial (by simpa using new)⟩
  | activate _ _ known => exact h.place fun _ => ⟨known, Standing.enter_serial rfl⟩
  | create _ _ _ fresh => exact h.create fresh
  | assign | assignUp | assignDown => exact h.place fun held => ⟨held, rfl⟩
  | reprofile | params | enable | scan => exact h
  | shutDown =>
    refine h.mono fun k => ?_
    simp only [Roster.shutDown]
    split
    · rename_i on
      refine fun _ => ⟨?_, rfl⟩
      cases found : (r.standing k).state <;> simp [found, RecState.served] at on <;> rfl
    · exact fun held => ⟨held, rfl⟩
  | reset vacant => exact fun j k serial hj => by simp [vacant, RecState.inLookup] at hj

/-! ### The committed load of each tree (R54) -/

/-- The sum over numbers that change at one of them. -/
theorem sum_changed_at {f g : Nat → Nat} {k : Nat} (tag : 1 ≤ k ∧ k ≤ 256) (same : ∀ j, j ≠ k → f j = g j) :
    (∑ j ∈ Finset.Icc 1 256, f j) + g k = (∑ j ∈ Finset.Icc 1 256, g j) + f k := by
  have mem : k ∈ Finset.Icc 1 256 := Finset.mem_Icc.mpr tag
  have others : ∑ j ∈ (Finset.Icc 1 256).erase k, f j = ∑ j ∈ (Finset.Icc 1 256).erase k, g j :=
    Finset.sum_congr rfl fun j hj => same j (Finset.ne_of_mem_erase hj)
  rw [← Finset.add_sum_erase _ f mem, ← Finset.add_sum_erase _ g mem, others]
  omega

structure Roster.Budget (r : Roster) : Prop where
  tree : ∀ k, (r.standing k).state = .active → (r.standing k).tree.isSome
  sum : ∀ t, r.committed t = ∑ k ∈ Finset.Icc 1 256, r.term t k
  within : ∀ t, r.committed t + r.release t ≤ r.limit t
  idle : ∀ t, r.disabled t = true → r.release t = 0 ∧ ∀ k, ¬ (r.standing k).ActiveOn t

theorem list_sum_filter (p : Nat → Bool) (f : Nat → Nat) :
    (((List.range' 1 256).filter p).map f).sum = ∑ k ∈ Finset.Icc 1 256, if p k = true then f k else 0 := by
  rw [← Finset.sum_filter, ← List.sum_toFinset f ((List.nodup_range' ..).filter _)]
  congr 1
  ext k
  simp [List.mem_range'_1]
  omega

theorem budgetInv_iff (s : State) : s.BudgetInv ↔ s.roster.Budget := by
  have sum : ∀ t : Tree, (((List.range' 1 256).filter fun k => (s.record k).state == .active && (s.record k).tree == some t).map
      fun k => s.loadOf k).sum = ∑ k ∈ Finset.Icc 1 256, s.roster.term t k := by
    intro t
    rw [list_sum_filter]
    refine Finset.sum_congr rfl fun k _ => if_congr ?_ rfl rfl
    simp [State.roster, DropRecord.standing]
  constructor
  · rintro ⟨tree, budget⟩
    exact ⟨tree, fun t => (budget t).1.trans (sum t), fun t => (budget t).2.1, fun t off => (budget t).2.2 (by
      simpa [State.roster] using off)⟩
  · rintro ⟨tree, total, within, idle⟩
    exact ⟨tree, fun t => ⟨(total t).trans (sum t).symm, within t, fun off => idle t (by simp [State.roster, off])⟩⟩


theorem Roster.term_of_active {r : Roster} {t : Tree} {k : Nat} (h : (r.standing k).ActiveOn t) : r.term t k = r.loadOf k :=
  if_pos h

theorem Roster.term_of_not {r : Roster} {t : Tree} {k : Nat} (h : ¬ (r.standing k).ActiveOn t) : r.term t k = 0 := if_neg h

theorem Roster.Budget.term_le {r : Roster} (h : r.Budget) (t : Tree) {k : Nat} (tag : 1 ≤ k ∧ k ≤ 256) :
    r.term t k ≤ r.committed t := by
  rw [h.sum t]
  exact Finset.single_le_sum (fun _ _ => Nat.zero_le _) (Finset.mem_Icc.mpr tag)

/-- A roster of the same profiles, parameters and trees in which one record stands otherwise. -/
structure Roster.Replaces (r : Roster) (k : Nat) (u : Roster) : Prop where
  standing : ∀ j, j ≠ k → u.standing j = r.standing j
  share : u.share = r.share := by rfl
  overhead : u.overhead = r.overhead := by rfl
  limit : u.limit = r.limit := by rfl
  disabled : u.disabled = r.disabled := by rfl

theorem Roster.replaces_place {r u : Roster} {k : Nat} {x : Standing} (h : r.Replaces k u) : r.Replaces k (u.place k x) where
  standing j other := by rw [place_standing, if_neg other, h.standing j other]
  share := h.share
  overhead := h.overhead
  limit := h.limit
  disabled := h.disabled

/-- One record stands otherwise, and each committed load follows its term. -/
theorem Roster.Budget.replace {r u : Roster} {k : Nat} (h : r.Budget) (tag : 1 ≤ k ∧ k ≤ 256) (one : r.Replaces k u)
    (tree : (u.standing k).state = .active → (u.standing k).tree.isSome)
    (sum : ∀ t, u.committed t + r.term t k = r.committed t + u.term t k)
    (within : ∀ t, u.committed t + u.release t ≤ r.limit t)
    (idle : ∀ t, r.disabled t = true → u.release t = 0 ∧ ¬ (u.standing k).ActiveOn t) : u.Budget where
  tree j := by
    by_cases e : j = k
    · subst e; exact tree
    · rw [one.standing j e]; exact h.tree j
  sum t := by
    have terms := sum_changed_at (f := u.term t) (g := r.term t) tag fun j other => by
      simp only [Roster.term, Roster.loadOf, one.standing j other, one.share, one.overhead]
    have := sum t
    have := h.sum t
    omega
  within t := one.limit ▸ within t
  idle t off := by
    rw [one.disabled] at off
    refine ⟨(idle t off).1, fun j => ?_⟩
    by_cases e : j = k
    · subst e; exact (idle t off).2
    · rw [one.standing j e]; exact (h.idle t off).2 j

section
variable {r : Roster} {k : Nat} {t : Tree}

theorem Roster.Budget.tree_of_active (h : r.Budget) (active : (r.standing k).state = .active) :
    (r.standing k).ActiveOn ((r.standing k).tree.getD 0) := by
  obtain ⟨t, tree⟩ := Option.isSome_iff_exists.mp (h.tree k active)
  exact ⟨active, by rw [tree]; rfl⟩

/-- An ACTIVE record has a term on its own tree alone. -/
theorem Roster.term_of_activeOn (on : (r.standing k).ActiveOn t) (i : Tree) :
    r.term i k = if i = t then r.loadOf k else 0 :=
  if_congr ⟨fun h => Option.some.inj (h.2.symm.trans on.2), fun e => e ▸ on⟩ rfl rfl

theorem Roster.Budget.leave {new : RecState} (h : r.Budget) (tag : 1 ≤ k ∧ k ≤ 256) (on : (r.standing k).ActiveOn t)
    (other : new ≠ .active) : ((r.fall t (r.loadOf k)).place k ((r.standing k).enter new)).Budget := by
  have idle : ∀ i, ¬ ((r.standing k).enter new).ActiveOn i := fun i on => other (by simpa using on.1)
  have le := h.term_le t tag
  rw [Roster.term_of_active on] at le
  have standing : ((r.fall t (r.loadOf k)).place k ((r.standing k).enter new)).standing k = (r.standing k).enter new := by
    simp [Roster.place_standing]
  refine h.replace tag (Roster.replaces_place ⟨fun _ _ => rfl, rfl, rfl, rfl, rfl⟩) ?_ (fun i => ?_) (fun i => ?_)
    fun i off => ?_
  · rw [standing]; exact fun active => absurd (by simpa using active) other
  · have gone : Roster.term _ i k = 0 := Roster.term_of_not (standing.symm ▸ idle i)
    rw [gone, Roster.term_of_activeOn on]
    simp only [Roster.place, Roster.fall, Function.update_apply]
    split
    · subst_vars; omega
    · rfl
  · have := h.within i
    simp only [Roster.place, Roster.fall, Function.update_apply]
    split
    · subst_vars; omega
    · exact this
  · rw [standing]
    refine ⟨?_, idle i⟩
    have ne : i ≠ t := by rintro rfl; exact (h.idle i off).2 k on
    simpa [Roster.place, Roster.fall, ne] using (h.idle i off).1

/-- A record that is not ACTIVE before and after has no term. -/
theorem Roster.Budget.place_idle {x : Standing} (h : r.Budget) (tag : 1 ≤ k ∧ k ≤ 256)
    (idle : (r.standing k).state ≠ .active) (other : x.state ≠ .active) : (r.place k x).Budget := by
  have standing : (r.place k x).standing k = x := by simp [Roster.place_standing]
  refine h.replace tag (Roster.replaces_place ⟨fun _ _ => rfl, rfl, rfl, rfl, rfl⟩) ?_ (fun i => ?_) h.within fun i off => ?_
  · rw [standing]; exact fun active => absurd active other
  · rw [Roster.term_of_not fun on => idle on.1, Roster.term_of_not fun on => other (standing ▸ on.1)]
    rfl
  · rw [standing]
    exact ⟨(h.idle i off).1, fun on => other on.1⟩

theorem Roster.Budget.activate (h : r.Budget) (tag : 1 ≤ k ∧ k ≤ 256) (idle : (r.standing k).state ≠ .active)
    (tree : (r.standing k).tree = some t) (fits : r.committed t + r.release t + r.loadOf k ≤ r.limit t)
    (enabled : r.disabled t = false) : ((r.rise t (r.loadOf k)).place k ((r.standing k).enter .active)).Budget := by
  have standing : ((r.rise t (r.loadOf k)).place k ((r.standing k).enter .active)).standing k =
      { r.standing k with state := .active } := by simp [Roster.place_standing, Standing.enter]
  have on : (((r.rise t (r.loadOf k)).place k ((r.standing k).enter .active)).standing k).ActiveOn t := by
    rw [standing]; exact ⟨rfl, tree⟩
  refine h.replace tag (Roster.replaces_place ⟨fun _ _ => rfl, rfl, rfl, rfl, rfl⟩) ?_ (fun i => ?_) (fun i => ?_)
    fun i off => ?_
  · simp [standing, tree]
  · have load : ((r.rise t (r.loadOf k)).place k ((r.standing k).enter .active)).loadOf k = r.loadOf k := by
      rw [Roster.loadOf, standing]
      rfl
    rw [Roster.term_of_not fun on => idle on.1, Roster.term_of_activeOn on, load]
    simp only [Roster.place, Roster.rise, Function.update_apply]
    split
    · subst_vars; rfl
    · rfl
  · have := h.within i
    simp only [Roster.place, Roster.rise, Function.update_apply]
    split
    · subst_vars; omega
    · exact this
  · have ne : i ≠ t := by rintro rfl; simp [enabled] at off
    refine ⟨(h.idle i off).1, fun on' => ne ?_⟩
    exact Option.some.inj (on'.2.symm.trans on.2)

/-- An ACTIVE record names another profile, and the load of its tree follows. -/
theorem Roster.Budget.assign {u : Roster} {n : Nat} (h : r.Budget) (tag : 1 ≤ k ∧ k ≤ 256)
    (on : (r.standing k).ActiveOn t) (one : r.Replaces k u)
    (others : ∀ i, i ≠ t → u.committed i = r.committed i ∧ u.release i = r.release i)
    (standing : u.standing k = { r.standing k with profile := n })
    (sum : u.committed t + r.share (r.standing k).profile = r.committed t + r.share n)
    (within : u.committed t + u.release t ≤ r.limit t) : u.Budget := by
  have on' : (u.standing k).ActiveOn t := standing ▸ on
  refine h.replace tag one (by simp [standing, on.2]) (fun i => ?_) (fun i => ?_) fun i off => ?_
  · have load : u.loadOf k + r.share (r.standing k).profile = r.loadOf k + r.share n := by
      simp only [Roster.loadOf, standing, one.share, one.overhead]
      omega
    rw [Roster.term_of_activeOn on, Roster.term_of_activeOn on']
    split
    · subst_vars; omega
    · rename_i other
      simp [others i other]
  · by_cases e : i = t
    · exact e ▸ within
    · rw [(others i e).1, (others i e).2]
      exact h.within i
  · have ne : i ≠ t := by rintro rfl; exact (h.idle i off).2 k on
    exact ⟨(others i ne).2 ▸ (h.idle i off).1, fun on'' => ne (Option.some.inj (on''.2.symm.trans on'.2))⟩

theorem Roster.share_le_committed (h : r.Budget) (tag : 1 ≤ k ∧ k ≤ 256) (on : (r.standing k).ActiveOn t) :
    r.share (r.standing k).profile ≤ r.committed t := by
  have le := h.term_le t tag
  rw [Roster.term_of_active on] at le
  exact le_trans (Nat.le_add_right ..) le

/-- Each term with the F + A of a profile that changes: what its users had and what they have now. -/
theorem Roster.sum_reprofile (r : Roster) (n share : Nat) (t : Tree) :
    (∑ k ∈ Finset.Icc 1 256, (r.reprofile n share).term t k) + r.users t n * r.share n =
      (∑ k ∈ Finset.Icc 1 256, r.term t k) + r.users t n * share := by
  have users : ∀ c, r.users t n * c =
      ∑ k ∈ Finset.Icc 1 256, if (r.standing k).ActiveOn t ∧ (r.standing k).profile = n then c else 0 := fun c => by
    rw [← Finset.sum_filter, Finset.sum_const, smul_eq_mul]
    rfl
  rw [users, users, ← Finset.sum_add_distrib, ← Finset.sum_add_distrib]
  refine Finset.sum_congr rfl fun k _ => ?_
  by_cases on : (r.standing k).ActiveOn t
  · have on' : ((r.reprofile n share).standing k).ActiveOn t := on
    rw [Roster.term_of_active on, Roster.term_of_active on']
    by_cases named : (r.standing k).profile = n
    · rw [if_pos ⟨on, named⟩, if_pos ⟨on, named⟩]
      simp only [Roster.reprofile, Roster.loadOf, named, Function.update_self]
      omega
    · rw [if_neg fun h => named h.2, if_neg fun h => named h.2]
      simp [Roster.reprofile, Roster.loadOf, named]
  · have on' : ¬ ((r.reprofile n share).standing k).ActiveOn t := on
    rw [Roster.term_of_not on, Roster.term_of_not on', if_neg fun h => on h.1, if_neg fun h => on h.1]

theorem Roster.users_le (h : r.Budget) (n : Nat) (t : Tree) : r.users t n * r.share n ≤ r.committed t := by
  have total := r.sum_reprofile n 0 t
  rw [← h.sum t] at total
  omega

theorem Roster.Budget.reprofile {n share : Nat} (h : r.Budget)
    (passes : ∀ t, r.loadWith n share t ≤ r.committed t ∨ r.loadWith n share t + r.release t ≤ r.limit t) :
    (r.reprofile n share).Budget where
  tree := h.tree
  sum t := by
    have total := r.sum_reprofile n share t
    rw [← h.sum t] at total
    have := r.users_le h n t
    simp only [Roster.reprofile, Roster.loadWith] at total ⊢
    omega
  within t := by
    have := passes t
    have := h.within t
    simp only [Roster.reprofile]
    omega
  idle t off := by
    obtain ⟨release, none⟩ := h.idle t off
    refine ⟨?_, none⟩
    have users : r.users t n = 0 := Finset.card_eq_zero.mpr (Finset.filter_eq_empty_iff.mpr fun k _ on => none k on.1)
    simp [Roster.reprofile, Roster.loadWith, users, release]

/-- Where no record of a tree is ACTIVE and it has no release pending, its parameters carry no load. -/
theorem Roster.Budget.params {overhead limit : Nat} (h : r.Budget) (off : r.disabled t = true) :
    ({ r with
      overhead := Function.update r.overhead t overhead
      limit := Function.update r.limit t limit } : Roster).Budget := by
  obtain ⟨release, none⟩ := h.idle t off
  have terms : ∀ i k, Roster.term { r with
      overhead := Function.update r.overhead t overhead, limit := Function.update r.limit t limit } i k = r.term i k := by
    intro i k
    refine ite_congr rfl (fun on => ?_) fun _ => rfl
    have ne : i ≠ t := by rintro rfl; exact none k on
    simp [Roster.loadOf, show (r.standing k).tree = some i from on.2, ne]
  refine ⟨h.tree, fun i => ?_, fun i => ?_, h.idle⟩
  · simp only [terms]
    exact h.sum i
  · have := h.within i
    simp only [Function.update_apply]
    split
    · subst_vars
      have empty : r.committed i = 0 := by
        rw [h.sum i]
        exact Finset.sum_eq_zero fun k _ => Roster.term_of_not (none k)
      omega
    · exact this

theorem Roster.Budget.shutDown (h : r.Budget) (t : Tree) : (r.shutDown t).Budget := by
  have off : ∀ k, ¬ ((r.shutDown t).standing k).ActiveOn t := by
    intro k on
    simp only [Roster.shutDown] at on
    split at on
    · cases on.1
    · rename_i other
      exact other ⟨on.2, by rw [show (r.standing k).state = _ from on.1]; rfl⟩
  have others : ∀ i, i ≠ t → ∀ k, ((r.shutDown t).standing k).ActiveOn i ↔ (r.standing k).ActiveOn i := by
    intro i ne k
    simp only [Roster.shutDown]
    split
    · rename_i served
      exact ⟨fun on => (nomatch on.1), fun on => absurd (Option.some.inj (on.2.symm.trans served.1)) ne⟩
    · exact .rfl
  have standing : ∀ k, ((r.shutDown t).standing k).profile = (r.standing k).profile ∧
      ((r.shutDown t).standing k).tree = (r.standing k).tree := by
    intro k
    simp only [Roster.shutDown]
    split <;> exact ⟨rfl, rfl⟩
  have terms : ∀ i, i ≠ t → ∀ k, (r.shutDown t).term i k = r.term i k := fun i ne k =>
    if_congr (others i ne k) (by simp only [Roster.loadOf, standing k]; rfl) rfl
  refine ⟨fun k active => ?_, fun i => ?_, fun i => ?_, fun i disabled => ?_⟩
  · rw [(standing k).2]
    simp only [Roster.shutDown] at active
    split at active
    · cases active
    · exact h.tree k active
  all_goals by_cases e : i = t
  · subst e
    rw [Finset.sum_eq_zero fun k _ => Roster.term_of_not (off k)]
    simp [Roster.shutDown]
  · rw [Finset.sum_congr rfl fun k _ => terms i e k, ← h.sum i]
    simp [Roster.shutDown, e]
  · simp [Roster.shutDown, e]
  · simpa [Roster.shutDown, e] using h.within i
  · subst e
    exact ⟨by simp [Roster.shutDown], off⟩
  · have before : r.disabled i = true := by simpa [Roster.shutDown, e] using disabled
    exact ⟨by simpa [Roster.shutDown, e] using (h.idle i before).1, fun k on => (h.idle i before).2 k ((others i e k).mp on)⟩

end

theorem Roster.Budget.step {r u : Roster} (e : r.Step u) (h : r.Budget) : u.Budget := by
  cases e with
  | leave tag active other => exact h.leave tag (h.tree_of_active active) other
  | move tag idle other => exact h.place_idle tag idle (by simpa using other)
  | activate tag idle _ tree fits enabled => exact h.activate tag idle tree fits enabled
  | create tag vacant other => exact h.place_idle tag (by simp [vacant]) other
  | assign tag idle => exact h.place_idle tag idle idle
  | @assignUp k n t tag active tree up fits =>
    subst tree
    have on := h.tree_of_active active
    refine h.assign tag on (n := n) (Roster.replaces_place ⟨fun _ _ => rfl, rfl, rfl, rfl, rfl⟩) (fun i ne => ?_)
      (by simp [Roster.place_standing]) ?_ ?_
    · simp [Roster.place, Roster.rise, ne]
    · simp only [Roster.place, Roster.rise, Function.update_self]
      omega
    · simp only [Roster.place, Roster.rise, Function.update_self]
      omega
  | @assignDown k n t tag active tree down =>
    subst tree
    have on := h.tree_of_active active
    have le := r.share_le_committed h tag on
    have := h.within ((r.standing k).tree.getD 0)
    refine h.assign tag on (n := n) (Roster.replaces_place ⟨fun _ _ => rfl, rfl, rfl, rfl, rfl⟩) (fun i ne => ?_)
      (by simp [Roster.place_standing]) ?_ ?_
    · simp [Roster.place, Roster.fall, ne]
    · simp only [Roster.place, Roster.fall, Function.update_self]
      omega
    · simp only [Roster.place, Roster.fall, Function.update_self]
      omega
  | reprofile passes => exact h.reprofile passes
  | params disabled => exact h.params disabled
  | @enable t =>
    refine ⟨h.tree, h.sum, h.within, fun i off => ?_⟩
    have ne : i ≠ t := by rintro rfl; simp at off
    exact h.idle i (by simpa [ne] using off)
  | shutDown => exact h.shutDown _
  | @scan t =>
    refine ⟨h.tree, h.sum, fun i => ?_, fun i off => ?_⟩
    · have := h.within i
      simp only [Function.update_apply]
      split <;> omega
    · refine ⟨?_, (h.idle i off).2⟩
      simp only [Function.update_apply, (h.idle i off).1, ite_self]
  | reset vacant empty =>
    have idle : ∀ t k, ¬ (u.standing k).ActiveOn t := fun t k on => by
      rw [vacant] at on
      cases on.1
    exact ⟨fun k active => by simp [vacant] at active,
      fun t => by rw [(empty t).1, Finset.sum_eq_zero fun k _ => Roster.term_of_not (idle t k)],
      fun t => by simp [empty], fun t _ => ⟨(empty t).2, idle t⟩⟩

end Sys2Proof.Machine

/-! ## The roster, operation by operation

An operation that the invariants do not see leaves `roster` as it was, an equation for `simp`; any other reaches its result by
moves of `Roster.Step`. -/

namespace Sys2Proof.Machine

/-- One state's roster comes from another's by moves. -/
def State.RosterTo (s u : State) : Prop := Relation.ReflTransGen Roster.Step s.roster u.roster

theorem State.RosterTo.refl (s : State) : s.RosterTo s := Relation.ReflTransGen.refl

theorem State.RosterTo.trans {s u v : State} (h : s.RosterTo u) (h' : u.RosterTo v) : s.RosterTo v :=
  Relation.ReflTransGen.trans h h'

theorem State.RosterTo.of_step {s u : State} (h : Roster.Step s.roster u.roster) : s.RosterTo u :=
  Relation.ReflTransGen.single h

theorem State.RosterTo.of_eq {s u : State} (h : u.roster = s.roster) : s.RosterTo u := by
  rw [State.RosterTo, h]

/-- What the roster does not see may follow. -/
theorem State.RosterTo.congr {s u v : State} (h : s.RosterTo u) (same : v.roster = u.roster) : s.RosterTo v :=
  h.trans (.of_eq same)

theorem State.RosterTo.foldl {α : Type} {f : State → α → State} (each : ∀ (s : State) x, s.RosterTo (f s x)) (l : List α) :
    ∀ s : State, s.RosterTo (l.foldl f s) := by
  induction l with
  | nil => exact .refl
  | cons x l ih => exact fun s => (each s x).trans (ih _)

theorem foldl_roster {α : Type} {f : State → α → State} (each : ∀ s x, (f s x).roster = s.roster) (l : List α) :
    ∀ s : State, (l.foldl f s).roster = s.roster := by
  induction l with
  | nil => exact fun _ => rfl
  | cons x l ih => exact fun s => (ih _).trans (each s x)

/-! ### Pieces of state -/

section
variable (s : State)

@[simp] theorem modEnrol_roster (t : Tree) (f : Enrol → Enrol) : (s.modEnrol t f).roster = s.roster := rfl
@[simp] theorem modLight_roster (t : Tree) (f : LightWatch → LightWatch) : (s.modLight t f).roster = s.roster := rfl
@[simp] theorem modHunt_roster (t : Tree) (f : Hunt → Hunt) : (s.modHunt t f).roster = s.roster := rfl
@[simp] theorem modLink_roster (l : LinkId) (f : Link → Link) : (s.modLink l f).roster = s.roster := rfl
@[simp] theorem modTracker_roster (k : Nat) (f : Tracker → Tracker) : (s.modTracker k f).roster = s.roster := rfl
@[simp] theorem modTally_roster (k : Nat) (f : Tally → Tally) : (s.modTally k f).roster = s.roster := rfl
@[simp] theorem modLive_roster (k : Nat) (f : TallySet → TallySet) : (s.modLive k f).roster = s.roster := rfl
@[simp] theorem modMail_roster (f : Mail → Mail) : (s.modMail f).roster = s.roster := rfl
@[simp] theorem dropKept_roster (test : Kept → Bool) : (s.dropKept test).roster = s.roster := rfl
@[simp] theorem advance_roster (offset : Nat) : (s.advance offset).roster = s.roster := rfl
@[simp] theorem raise_roster (kind : FlagKind) : (s.raise kind).roster = s.roster := rfl
@[simp] theorem tellLight_roster (t : Tree) (f : FrameNo) (b : LightBody) (o : Option Nat) :
    (s.tellLight t f b o).roster = s.roster := rfl
@[simp] theorem changesKnown_roster (test : Nat → Bool) : (s.changesKnown test).roster = s.roster := rfl
@[simp] theorem reportChange_roster (k : Nat) (before after : RecState) (byRequest : Bool) :
    (s.reportChange k before after byRequest).roster = s.roster := rfl
@[simp] theorem answer_roster (l : LinkId) (status : Status) (data : ResponseData) :
    (s.answer l status data).roster = s.roster := rfl
@[simp] theorem latchAll_roster (kind : FlagKind) : (s.latchAll kind).roster = s.roster := rfl
@[simp] theorem emptyHistory_roster (t : Tree) : (s.emptyHistory t).roster = s.roster := rfl
@[simp] theorem dropStrangers_roster (test : Stranger → Bool) : (s.dropStrangers test).roster = s.roster := rfl
@[simp] theorem sendStrike_roster (t : Tree) (k : Nat) : (s.sendStrike t k).roster = s.roster := rfl
@[simp] theorem reportMiss_roster (t : Tree) (b : Burst) : (s.reportMiss t b).roster = s.roster := rfl
@[simp] theorem tellDiscovery_roster (t : Tree) (f : FrameNo) (b : DiscoveryBody) :
    (s.tellDiscovery t f b).roster = s.roster := rfl
@[simp] theorem tellRanging_roster (t : Tree) (f : FrameNo) (k : Nat) (b : RangingBody) :
    (s.tellRanging t f k b).roster = s.roster := rfl
@[simp] theorem unsolicited_roster (t : Tree) (f : FrameNo) (offset : Nat) (h : Judged) :
    (s.unsolicited t f offset h).roster = s.roster := rfl
@[simp] theorem observeCut_roster (t : Tree) : (s.observeCut t).roster = s.roster := rfl

/-- A tree engine that keeps its parameters and stays DISABLED, or not, keeps the roster. -/
theorem modEngine_roster (t : Tree) (f : Engine → Engine) (params : (f (s.engine t)).params = (s.engine t).params)
    (state : ((f (s.engine t)).state == .disabled) = ((s.engine t).state == .disabled)) :
    (s.modEngine t f).roster = s.roster := by
  have engine : ∀ i, ((s.modEngine t f).engine i).params = (s.engine i).params ∧
      (((s.modEngine t f).engine i).state == .disabled) = ((s.engine i).state == .disabled) := by
    intro i
    rw [modEngine_engine]
    split
    · subst_vars; exact ⟨params, state⟩
    · exact ⟨rfl, rfl⟩
  unfold State.roster
  congr 1
  · exact funext fun i => by rw [(engine i).1]
  · exact funext fun i => by rw [(engine i).1]
  · exact funext fun i => (engine i).2

theorem modRecord_roster_place (k : Nat) (f : DropRecord → DropRecord) (tag : 1 ≤ k ∧ k ≤ 256) :
    (s.modRecord k f).roster = s.roster.place k (f (s.record k)).standing := by
  have standing : ∀ j, ((s.modRecord k f).record j).standing =
      Function.update (fun j => (s.record j).standing) k (f (s.record k)).standing j := by
    intro j
    rw [modRecord_record, Function.update_apply]
    by_cases e : j = k <;> simp [e, tag]
  unfold State.roster Roster.place
  congr 1
  exact funext standing

/-- A record that keeps its state, serial, tree and profile keeps the roster. -/
theorem modRecord_roster (k : Nat) (f : DropRecord → DropRecord)
    (standing : (f (s.record k)).standing = (s.record k).standing) : (s.modRecord k f).roster = s.roster := by
  have same : ∀ j, ((s.modRecord k f).record j).standing = (s.record j).standing := by
    intro j
    rw [modRecord_record]
    split
    · rename_i own
      rw [own.1, standing]
    · rfl
  unfold State.roster
  congr 1
  exact funext same

theorem modRecords_roster (f : Nat → DropRecord → DropRecord) (standing : ∀ k r, (f k r).standing = r.standing) :
    (s.modRecords f).roster = s.roster := by
  have same : ∀ j, ((s.modRecords f).record j).standing = (s.record j).standing := by
    intro j
    rw [modRecords_record]
    split
    · exact standing ..
    · rename_i out
      rw [State.record, readAt_of_not_mem _ _ _ out]
  unfold State.roster
  congr 1
  exact funext same

/-- A load with its sums as they were: the roster does not see whether a scan is due. -/
theorem modLoad_roster (t : Tree) (f : Load → Load) (committed : (f (s.load t)).committed = (s.load t).committed)
    (release : (f (s.load t)).release = (s.load t).release) : (s.modLoad t f).roster = s.roster := by
  have load : ∀ i, ((s.modLoad t f).load i).committed = (s.load i).committed ∧
      ((s.modLoad t f).load i).release = (s.load i).release := by
    intro i
    rw [modLoad_load]
    split
    · subst_vars; exact ⟨committed, release⟩
    · exact ⟨rfl, rfl⟩
  unfold State.roster
  congr 1
  · exact funext fun i => (load i).1
  · exact funext fun i => (load i).2

theorem modLoad_add_roster (t : Tree) (grains : Nat) : (s.modLoad t (·.add grains)).roster = s.roster.rise t grains := by
  unfold State.roster Roster.rise
  congr 1 <;> funext i <;> simp only [modLoad_load, Function.update_apply]
  · split <;> rfl
  · split
    · subst_vars; rfl
    · rfl

theorem modLoad_drop_roster (t : Tree) (grains : Nat) : (s.modLoad t (·.drop grains)).roster = s.roster.fall t grains := by
  unfold State.roster Roster.fall
  congr 1 <;> funext i <;> simp only [modLoad_load, Function.update_apply] <;> split <;> rfl

@[simp] theorem observe_roster (o : Observation) : (s.observe o).roster = s.roster := by
  obtain ⟨log, overflow, mail, h⟩ := observe_shape s o
  rw [h]
  rfl

@[simp] theorem keep_roster (t : Tree) (x : LaneEntry) : (s.keep t x).roster = s.roster := by
  obtain ⟨kept, hunts, h⟩ := keep_shape s t x
  rw [h]
  rfl

@[simp] theorem evalOver_roster (k : Nat) : (s.evalOver k).roster = s.roster := by
  unfold State.evalOver
  dsimp only
  split
  · exact (raise_roster ..).trans (modRecord_roster _ _ _ rfl)
  · exact modRecord_roster _ _ _ rfl

@[simp] theorem setHeld_roster (t : Tree) (a b : Nat) (held : Bool) : (s.setHeld t a b held).roster = s.roster := by
  refine modRecords_roster _ _ fun k r => ?_
  split <;> rfl

end
end Sys2Proof.Machine

namespace Sys2Proof.Machine

/-! ### State changes of a record (R43) -/

theorem leaveQueue_roster (s : State) (k : Nat) (new : RecState) : (s.leaveQueue k new).roster = s.roster := by
  obtain ⟨enrols, kept, h⟩ := leaveQueue_shape s k new
  rw [h]
  rfl

theorem leaveSuspended_roster (s : State) (k : Nat) : (s.leaveSuspended k).roster = s.roster := by
  obtain ⟨kept, h⟩ := leaveSuspended_shape s k
  rw [h]
  rfl

/-- What a record leaves behind with its state. -/
def State.leaving (s : State) (k : Nat) (new : RecState) : State :=
  ((s.leaveActive k new).leaveQueue k new).leaveSuspended k

theorem leaving_shape (s : State) (k : Nat) (new : RecState) :
    ∃ loads enrols kept, s.leaving k new = { s with loads := loads, enrols := enrols, kept := kept } := by
  obtain ⟨loads, h⟩ := leaveActive_shape s k new
  obtain ⟨enrols, kept, h'⟩ := leaveQueue_shape (s.leaveActive k new) k new
  obtain ⟨kept', h''⟩ := leaveSuspended_shape ((s.leaveActive k new).leaveQueue k new) k
  exact ⟨loads, enrols, kept', by rw [State.leaving, h'', h', h]⟩

theorem leaving_record (s : State) (k : Nat) (new : RecState) (j : Nat) : (s.leaving k new).record j = s.record j := by
  obtain ⟨_, _, _, h⟩ := leaving_shape s k new
  rw [h]
  rfl

theorem changeState_eq {s : State} {k : Nat} {new : RecState} (byRequest : Bool) (other : (s.record k).state ≠ new) :
    s.changeState k new byRequest =
      (((s.leaving k new).modRecord k (·.enter new)).enterState (s.record k).treeNo k new).reportChange k (s.record k).state
        new byRequest := if_neg other

theorem leaving_roster (s : State) (k : Nat) (new : RecState) : (s.leaving k new).roster =
    if (s.record k).state = .active ∧ new ≠ .active then s.roster.fall (s.record k).treeNo (s.loadOf k) else s.roster := by
  rw [State.leaving, leaveSuspended_roster, leaveQueue_roster, State.leaveActive]
  split
  · exact modLoad_drop_roster ..
  · rfl

theorem enterState_roster (s : State) (t : Tree) (k : Nat) {new : RecState} (other : new ≠ .active) :
    (s.enterState t k new).roster = s.roster := by
  cases new with
  | active => exact absurd rfl other
  | vacant => simp [State.enterState]
  | retired => exact dropKept_roster ..
  | announced => exact modEnrol_roster ..
  | expected | ranging | parked | suspended | rogue => rfl

theorem entered_roster (s : State) {k : Nat} (new : RecState) (tag : 1 ≤ k ∧ k ≤ 256) :
    ((s.leaving k new).modRecord k (·.enter new)).roster =
      (s.leaving k new).roster.place k ((s.roster.standing k).enter new) := by
  rw [modRecord_roster_place _ _ _ tag, standing_enter, leaving_record]
  rfl

section
variable {s : State} {k : Nat} {t : Tree} {new : RecState}

/-- A state change that does not enter ACTIVE, nor the lookup (R43, R47). -/
theorem State.RosterTo.changeState (byRequest : Bool) (occupied : (s.record k).state ≠ .vacant) (other : new ≠ .active)
    (known : new.inLookup = true → (s.record k).state.inLookup = true) : s.RosterTo (s.changeState k new byRequest) := by
  by_cases same : (s.record k).state = new
  · exact .of_eq (by rw [← same, changeState_same])
  have tag := record_tag_range occupied
  refine .of_step ?_
  rw [changeState_eq _ same, reportChange_roster, enterState_roster _ _ _ other, entered_roster _ _ tag, leaving_roster]
  by_cases active : (s.record k).state = .active
  · rw [if_pos ⟨active, other⟩]
    exact .leave tag active other
  · rw [if_neg fun h => active h.1]
    exact .move tag active other known

/-- A record of the lookup changes its state to another than ACTIVE. -/
theorem State.RosterTo.changeState_of_inLookup (byRequest : Bool) (held : (s.record k).state.inLookup = true)
    (other : new ≠ .active) : s.RosterTo (s.changeState k new byRequest) :=
  .changeState byRequest (fun vacant => by simp [vacant, RecState.inLookup] at held) other fun _ => held

/-- A record that becomes RETIRED or VACANT. -/
theorem State.RosterTo.changeState_of_withdrawn (byRequest : Bool) (occupied : (s.record k).state ≠ .vacant)
    (gone : new = .vacant ∨ new = .retired) : s.RosterTo (s.changeState k new byRequest) := by
  refine .changeState byRequest occupied ?_ ?_ <;> rcases gone with rfl | rfl <;> nofun

theorem State.RosterTo.activate (byRequest : Bool) (held : (s.record k).state.inLookup = true)
    (idle : (s.record k).state ≠ .active) (tree : (s.record k).tree = some t) (fits : s.fits t (s.loadOf k) = true)
    (enabled : (s.engine t).state ≠ .disabled) : s.RosterTo (s.changeState k .active byRequest) := by
  have tag : 1 ≤ k ∧ k ≤ 256 := record_tag_range (s := s) fun vacant => by simp [vacant, RecState.inLookup] at held
  have treeNo : (s.record k).treeNo = t := by simp [DropRecord.treeNo, tree]
  have left : (s.leaving k .active).roster = s.roster := by rw [leaving_roster, if_neg (by simp)]
  refine .of_step ?_
  rw [changeState_eq _ idle, reportChange_roster, treeNo]
  have entered : ((s.leaving k .active).modRecord k (·.enter .active)).roster =
      s.roster.place k ((s.roster.standing k).enter .active) := by rw [entered_roster _ _ tag, left]
  have load : ((s.leaving k .active).modRecord k (·.enter .active)).loadOf k = s.roster.loadOf k := by
    show Roster.loadOf ((s.leaving k .active).modRecord k (·.enter .active)).roster k = _
    rw [entered, Roster.loadOf, Roster.place_standing, if_pos rfl]
    rfl
  have risen : (((s.leaving k .active).modRecord k (·.enter .active)).enterState t k .active).roster =
      ((s.roster.rise t (s.roster.loadOf k)).place k ((s.roster.standing k).enter .active)) := by
    show ((((s.leaving k .active).modRecord k (·.enter .active)).modLoad t _).modTracker k _).roster = _
    rw [modTracker_roster, modLoad_add_roster, entered, load]
    rfl
  rw [risen]
  exact .activate tag idle held tree (of_decide_eq_true fits) (by simpa [State.roster] using enabled)

end

/-! ### Lanes and acceptance (R14, R16) -/

theorem push_params (e : Engine) (x : LaneEntry) : (e.push x).params = e.params ∧ (e.push x).state = e.state := by
  unfold Engine.push
  split <;> exact ⟨rfl, rfl⟩

section
variable (s : State) (t : Tree) (k : Nat)

@[simp] theorem push_roster (x : LaneEntry) : (s.modEngine t (·.push x)).roster = s.roster :=
  modEngine_roster _ _ _ (push_params ..).1 (by rw [(push_params ..).2])

@[simp] theorem offerDepart_roster (origin : Origin) : (s.offerDepart t k origin).roster = s.roster := by
  unfold State.offerDepart
  split <;> simp

theorem State.RosterTo.suspendFrom {before : RecState} (held : before.inLookup = true) :
    s.RosterTo (s.suspendFrom k before) := by
  unfold State.suspendFrom
  split
  · rename_i state
    exact (State.RosterTo.changeState_of_inLookup (new := .suspended) false (state ▸ held) nofun).congr
      (offerDepart_roster ..)
  · exact .refl _

theorem State.RosterTo.writeRogue : s.RosterTo (s.writeRogue t k) := by
  unfold State.writeRogue
  split
  · exact .refl _
  · rename_i known
    refine (State.RosterTo.changeState_of_inLookup (new := .rogue) false ?_ nofun).congr
      (modEngine_roster _ _ _ (by rfl) (by rfl))
    cases state : (s.record k).state <;> simp [state] at known <;> rfl

theorem State.RosterTo.admission (delay : Nat) (enabled : (s.engine t).state ≠ .disabled) :
    s.RosterTo (s.admission t k delay) := by
  unfold State.admission
  split
  · rename_i own
    have record : ((s.modRecord k fun r => { r with delay := delay }).record k).standing = (s.record k).standing := by
      rw [modRecord_record]
      split <;> rfl
    have state : ((s.modRecord k fun r => { r with delay := delay }).record k).state = .ranging :=
      (congrArg Standing.state record).trans own.1
    have tree : ((s.modRecord k fun r => { r with delay := delay }).record k).tree = some t :=
      (congrArg Standing.tree record).trans own.2
    refine (State.RosterTo.of_eq (modRecord_roster s k (fun r => { r with delay := delay }) rfl)).trans ?_
    dsimp only
    split
    · rename_i fits
      exact .activate false (by rw [state]; rfl) (by rw [state]; nofun) tree fits enabled
    · exact .changeState_of_inLookup false (by rw [state]; rfl) nofun
  · exact .refl _

theorem State.RosterTo.restoreAccepted : s.RosterTo (s.restoreAccepted t k) := by
  unfold State.restoreAccepted
  split
  · rename_i rogue
    exact (State.RosterTo.changeState_of_inLookup (new := .suspended) true (by rw [rogue]; rfl) nofun).congr
      ((offerDepart_roster ..).trans (modRecord_roster _ _ _ (by rfl)))
  · exact .refl _

theorem State.RosterTo.onAccept (x : LaneEntry) (enabled : (s.engine t).state ≠ .disabled) : s.RosterTo (s.onAccept t x) := by
  unfold State.onAccept
  split
  · dsimp only
    split
    · exact .of_eq (modRecord_roster _ _ _ rfl)
    · exact .refl _
  · rename_i j delay _ _
    exact State.RosterTo.admission (s.modTracker j _) t j delay enabled
  · dsimp only
    split
    · exact .of_eq (modRecord_roster _ _ _ rfl)
    · exact .refl _
  · exact (State.RosterTo.restoreAccepted ..).congr (answer_roster ..)
  · dsimp only
    split
    · exact .refl _
    · exact (State.RosterTo.writeRogue ..).congr (observe_roster ..)
  · exact (State.RosterTo.writeRogue ..).congr (observe_roster ..)
  · exact .of_eq (by simp)
  · exact .of_eq (by simp)
  · exact .of_eq (by simp)
  · exact .refl _

theorem State.RosterTo.acceptEntry (x : LaneEntry) (enabled : (s.engine t).state ≠ .disabled) :
    s.RosterTo (s.acceptEntry t x) :=
  (State.RosterTo.of_eq (push_roster s t x)).trans
    (.onAccept _ t x (by rw [modEngine_engine_self, (push_params ..).2]; exact enabled))

theorem State.RosterTo.offer (x : LaneEntry) : s.RosterTo (s.offer t x) := by
  rcases offer_cases s t x with ⟨answer, h⟩ | ⟨_, h⟩ | ⟨_, h⟩ <;> rw [h]
  · exact .acceptEntry s t x (accepted_room answer).1
  · exact .of_eq (keep_roster ..)
  · exact .refl _

theorem State.RosterTo.offers (origin : Origin) (dirs : List Directive) :
    s.RosterTo (dirs.foldl (fun s d => s.offer t ⟨d, origin⟩) s) := .foldl (fun s d => .offer s t ⟨d, origin⟩) dirs s

end

/-! ### Hunts started, ended and judged (R149 to R161) -/

section
variable (s : State) (t : Tree)

theorem State.RosterTo.abandonRanging : s.RosterTo (s.abandonRanging t) := by
  unfold State.abandonRanging
  split
  · split
    · rename_i own
      exact .changeState_of_inLookup false (by rw [own.1]; rfl) nofun
    · exact .refl _
  · exact .refl _

theorem State.RosterTo.startHunt : s.RosterTo (s.startHunt t) := .abandonRanging ((s.modHunt t _).emptyHistory t) t

@[simp] theorem endHunt_roster (outcome : HuntOutcome) : (s.endHunt t outcome).roster = s.roster := by
  unfold State.endHunt
  dsimp only
  rw [raise_roster, emptyHistory_roster, modEngine_roster _ _ _ (by rfl) (by rfl), dropKept_roster, modHunt_roster]

theorem State.RosterTo.beginRound (lo m : Nat) : s.RosterTo (s.beginRound t lo m) :=
  .offers (s.modHunt t _) t .huntRound _

theorem State.RosterTo.offerRelease : s.RosterTo (s.offerRelease t) := .offer ..

theorem State.RosterTo.endUnresolved (test : FrameNo) : s.RosterTo (s.endUnresolved t test) :=
  (State.RosterTo.of_eq (endHunt_roster s t .unresolved)).trans
    (.offerRelease (((s.endHunt t .unresolved).modHunt t _).tellLight ..) t)

theorem State.RosterTo.endIsolated (k : Nat) (serial : Option Serial) (test : FrameNo) :
    s.RosterTo (s.endIsolated t k serial test) :=
  ((State.RosterTo.of_eq (endHunt_roster s t .isolated)).trans (.offer ..)).trans (.offerRelease ..)

theorem State.RosterTo.endCleared (test : FrameNo) : s.RosterTo (s.endCleared t test) := .of_eq (by simp [State.endCleared])

theorem State.RosterTo.countSuspects (lo hi : Nat) (isFirst : Bool) (test : FrameNo) :
    s.RosterTo (s.countSuspects t lo hi isFirst test) := by
  unfold State.countSuspects
  dsimp only
  split
  · exact .endUnresolved (s.modHunt t _) t test
  · split
    · exact .beginRound (s.modHunt t _) t ..
    · exact .beginRound (s.modHunt t _) t ..

theorem State.RosterTo.takeVerdict (test : FrameNo) (lit : Bool) : s.RosterTo (s.takeVerdict t test lit) := by
  unfold State.takeVerdict
  split
  · exact .refl _
  · unfold State.confirmingVerdict
    split
    · exact .endCleared s t test
    · split
      · exact .countSuspects ..
      · exact .refl _
  · unfold State.splitVerdict
    dsimp only
    split <;> exact .countSuspects ..
  · unfold State.verifyVerdict
    split
    · split
      · exact .endUnresolved ..
      · exact .endIsolated ..
    · exact .endUnresolved ..

theorem State.RosterTo.darkEnd (frame : FrameNo) : s.RosterTo (s.darkEnd t frame) := by
  unfold State.darkEnd
  split
  · exact .refl _
  · exact .takeVerdict (s.modHunt t _) t ..

theorem State.RosterTo.cutAsserted : s.RosterTo (s.cutAsserted t) := by
  unfold State.cutAsserted
  split
  · exact .refl _
  · split
    · exact .refl _
    · dsimp only
      split
      · exact .refl _
      · exact ((State.RosterTo.of_eq (endHunt_roster (s.modHunt t _) t .external)).trans (.offerRelease ..)).congr
          (observeCut_roster ..)
  · exact .of_eq ((observeCut_roster ..).trans (modEngine_roster s t _ (by rfl) (by rfl)))

end
end Sys2Proof.Machine

namespace Sys2Proof.Machine

/-! ### What earlier relations say of the roster -/

section
variable {s u : State} {t : Tree}

/-- A state that differs in no block of the roster. -/
theorem roster_of_blocks (records : u.records = s.records) (loads : u.loads = s.loads) (profiles : u.profiles = s.profiles)
    (params : ∀ t, (u.engine t).params = (s.engine t).params)
    (state : ∀ t, (u.engine t).state = (s.engine t).state) : u.roster = s.roster := by
  simp only [State.roster, State.record, State.load, State.profile, records, loads, profiles, params, state]

theorem State.OnlyJudges.roster (h : s.OnlyJudges u) : u.roster = s.roster := by
  rw [h.rest]
  rfl

theorem State.EndsPlans.roster (h : s.EndsPlans u) : u.roster = s.roster :=
  roster_of_blocks (by rw [h.rest]) (by rw [h.rest]) (by rw [h.rest]) (fun t => by rw [h.engine t]) fun t => by
    rw [h.engine t]

end

/-! ### Arrivals (R26 to R39) -/

section
variable (s : State) (t : Tree)

@[simp] theorem modAwaited_roster (frame : FrameNo) (f : Awaited → Awaited) : (s.modAwaited t frame f).roster = s.roster :=
  modEngine_roster _ _ _ (by rfl) (by rfl)

@[simp] theorem slotOutcome_roster (frame : FrameNo) (offset : Nat) (b : Burst) (h : Judged) (payload : List Byte) :
    (s.slotOutcome t frame offset b h payload).roster = s.roster := by
  unfold State.slotOutcome
  split
  · exact reportMiss_roster ..
  · split
    · unfold State.validBurst
      dsimp only
      split <;> rfl
    · simp

@[simp] theorem rangingCapture_roster (a : Awaited) (offset tag expected : Nat) (h : Judged) :
    (s.rangingCapture t a offset tag expected h).roster = s.roster := by
  unfold State.rangingCapture
  split
  · rfl
  · dsimp only
    split
    · simp
    · rw [tellRanging_roster]
      split
      · exact (modRecord_roster _ _ _ (by rfl)).trans (modAwaited_roster ..)
      · exact modAwaited_roster ..

@[simp] theorem discoveryCapture_roster (frame : FrameNo) (offset : Nat) (h : Judged) :
    (s.discoveryCapture t frame offset h).roster = s.roster := by
  unfold State.discoveryCapture
  dsimp only
  split
  · exact tellDiscovery_roster ..
  · exact tellDiscovery_roster ..
  · split
    · exact (modEngine_roster _ _ _ (by rfl) (by rfl)).trans (tellDiscovery_roster ..)
    · exact modEngine_roster _ _ _ (by rfl) (by rfl)

@[simp] theorem resolve_roster (frame : FrameNo) (offset : Nat) (h : Judged) (payload : List Byte) :
    (s.resolve t frame offset h payload).roster = s.roster := by
  unfold State.resolve
  split
  · exact unsolicited_roster ..
  · split
    · split
      · exact unsolicited_roster ..
      · simp
    · split
      · exact unsolicited_roster ..
      · rfl
      · exact rangingCapture_roster ..
      · exact discoveryCapture_roster ..

theorem cutReception_roster (r : Reception) : (s.cutReception t r).roster = s.roster := by
  unfold State.cutReception
  split
  · dsimp only
    split
    · exact (modEngine_roster _ _ _ (by rfl) (by rfl)).trans (resolve_roster ..)
    · exact resolve_roster ..
  · exact tellDiscovery_roster ..

theorem capture_roster (phase : Fin 8) : (s.capture t phase).roster = s.roster := by
  unfold State.capture
  dsimp only
  rw [modEngine_roster _ _ _ (by rfl) (by rfl), foldl_roster (fun s r => cutReception_roster s t r),
    modEngine_roster _ _ _ (by rfl) (by rfl)]

theorem withoutReception_roster {e : Engine} {test : Reception → Bool} {r : Reception}
    (taken : (s.engine t).takeReception test = some (r, e)) : (s.modEngine t fun _ => e).roster = s.roster := by
  unfold Engine.takeReception at taken
  obtain ⟨x, -, hx⟩ := Option.map_eq_some_iff.mp taken
  cases hx
  exact modEngine_roster _ _ _ rfl rfl

theorem packetArrival_roster (k : Nat) (octets : List Byte) : (s.packetArrival k octets).roster = s.roster := by
  unfold State.packetArrival
  dsimp only
  split
  · rfl
  · split
    · exact modEngine_roster _ _ _ (by rfl) (by rfl)
    · rfl

/-! ### The grant compiler -/

theorem readRecord_roster (k : Nat) : (s.readRecord t k).roster = s.roster := modEngine_roster _ _ _ (by rfl) (by rfl)

theorem readNext_roster : (s.readNext t).roster = s.roster := by
  unfold State.readNext
  split
  · rfl
  · split
    · rfl
    · exact readRecord_roster ..

theorem endCompile_roster : (s.endCompile t).roster = s.roster := by
  unfold State.endCompile
  split
  · rfl
  · split
    · exact modEngine_roster _ _ _ (by rfl) (by rfl)
    · rfl

/-- The head of the ranging queue that a window is for is ANNOUNCED or RANGING (R83). -/
theorem rangingDue_inLookup {k : Nat} {m : FrameNo} (h : s.rangingDue t m = some k) :
    (s.record k).state.inLookup = true := by
  unfold State.rangingDue at h
  split at h
  · cases h
  · split at h
    · split at h
      · rename_i ranging
        cases h
        rw [ranging]; rfl
      · split at h
        · rename_i announced
          cases h
          rw [announced.1]; rfl
        · cases h
    · cases h

theorem State.RosterTo.startCompile (m : FrameNo) : s.RosterTo (s.startCompile t m) := by
  unfold State.startCompile
  dsimp only
  split
  · exact .of_eq (modEngine_roster _ _ _ (by rfl) (by rfl))
  · split
    · exact .of_eq (modEngine_roster (s.modHunt t _) t _ (by rfl) (by rfl))
    · split
      · exact .of_eq (modEngine_roster (s.modEnrol t _) t _ (by rfl) (by rfl))
      · split
        · rename_i k due
          refine (State.RosterTo.changeState_of_inLookup (new := .ranging) false (rangingDue_inLookup s t due) nofun).congr ?_
          rw [modEngine_roster _ _ _ (by rfl) (by rfl), State.scheduleRanging, modEnrol_roster]
        · exact .of_eq (modEngine_roster _ _ _ (by rfl) (by rfl))

/-! ### Light, pulses and inputs -/

theorem strayEvent_roster (frame : FrameNo) : (s.strayEvent t frame).roster = s.roster :=
  (observe_roster ..).trans (State.OnlyJudges.markStray frame).roster

theorem takeLight_roster (r : LightReport) : (s.takeLight r).roster = s.roster := by
  unfold State.takeLight
  split
  · exact strayEvent_roster ..
  · exact (State.OnlyJudges.chargedEvent ..).roster
  · exact observe_roster ..
  · exact observe_roster ..

theorem State.RosterTo.takeStrike (r : StrikeReport) : s.RosterTo (s.takeStrike r) := by
  unfold State.takeStrike
  split
  · have struck : s.RosterTo (s.modRecord r.tag (·.strike)) := .of_eq (modRecord_roster _ _ _ (by rfl))
    dsimp only
    split
    · exact struck.trans (.offer ..)
    · exact struck
  · exact .refl _

theorem pulse_roster : (s.pulse t).roster = s.roster := by
  unfold State.pulse
  split
  · rfl
  · exact modEngine_roster _ _ _ (by rfl) (by rfl)

theorem filterInputs_roster (light cutIn : Bool) : (s.filterInputs t light cutIn).roster = s.roster := by
  unfold State.filterInputs
  dsimp only
  split
  · exact modEngine_roster _ _ _ (by rfl) (by rfl)
  · exact (modMail_roster ..).trans (modEngine_roster _ _ _ (by rfl) (by rfl))

theorem takeCutReport_roster {u : State} {asserted : Bool} (h : s.takeCutReport t asserted = some u) :
    u.roster = s.roster := by
  unfold State.takeCutReport at h
  split at h
  · split at h <;> cases h
    rfl
  · cases h

/-! ### Delays and reports -/

theorem State.RosterTo.suspendByTracker (k : Nat) : s.RosterTo (s.suspendByTracker k) := by
  unfold State.suspendByTracker
  split
  · exact (State.RosterTo.suspendFrom s k rfl).congr (changesKnown_roster ..)
  · exact .refl _

theorem State.RosterTo.correct (k : Nat) (estimate : Int) : s.RosterTo (s.correct t k estimate) := by
  unfold State.correct
  dsimp only
  split
  · exact .offer ..
  · exact .suspendByTracker ..

theorem State.RosterTo.takeSample (r : SampleReport) : s.RosterTo (s.takeSample r) := by
  unfold State.takeSample
  split
  · exact .refl _
  · split
    · exact .refl _
    · split
      · exact .refl _
      · split
        · exact .suspendByTracker (s.modTracker r.tag _) r.tag
        · unfold State.keepSample
          dsimp only
          split
          · exact .of_eq (modTracker_roster ..)
          · split
            · exact .correct (s.modTracker r.tag _) ..
            · exact .of_eq (modTracker_roster ..)

@[simp] theorem takeChange_roster (r : ChangeReport) : (s.takeChange r).roster = s.roster := by
  unfold State.takeChange
  split <;> simp

theorem takeAllChanges_roster : s.takeAllChanges.roster = s.roster :=
  (foldl_roster (fun s r => takeChange_roster s r) _ _).trans (modMail_roster ..)

theorem takeValid_roster (r : ValidReport) : (s.takeValid r).roster = s.roster := by
  unfold State.takeValid
  split
  · exact modRecord_roster _ _ _ (by rfl)
  · rfl

theorem State.RosterTo.takeMiss (r : MissReport) : s.RosterTo (s.takeMiss r) := by
  unfold State.takeMiss
  split
  · have missed : s.RosterTo (s.modRecord r.tag (·.miss r.payload)) := .of_eq (modRecord_roster _ _ _ (by rfl))
    dsimp only
    split
    · exact missed.trans (.suspendFrom _ _ rfl)
    · exact missed
  · exact .refl _

theorem takeUp_roster (r : UpReport) : (s.takeUp r).roster = s.roster := by
  unfold State.takeUp
  split <;> simp

theorem takeDown_roster (r : DownReport) : (s.takeDown r).roster = s.roster := by
  unfold State.takeDown
  split <;> simp

theorem takeDispatch_roster (r : DispatchReport) : (s.takeDispatch r).roster = s.roster := by
  unfold State.takeDispatch
  split <;> simp

theorem takeReport_roster (r : LinkReport) : (s.takeReport r).roster = s.roster := by
  unfold State.takeReport
  split <;> simp

/-! ### Retries (R16) -/

theorem State.RosterTo.retryOne (p : Producer) : s.RosterTo (s.retryOne t p) := by
  unfold State.retryOne
  split
  · exact .refl _
  · rename_i i _
    split
    · exact .refl _
    · dsimp only
      split
      · exact .of_eq rfl
      · rename_i due
        split
        · exact .of_eq rfl
        · exact .acceptEntry { s with kept := s.kept.eraseIdx i } t _ fun off => due (.inl off)

theorem State.RosterTo.retry (p : Producer) : s.RosterTo (s.retry t p) := by
  unfold State.retry
  dsimp only
  refine .trans ?_ (.foldl (fun s _ => .retryOne s t p) _ _)
  split
  · exact .of_eq (takeAllChanges_roster ..)
  · exact .refl _

/-! ### Enrolment (R57, R58, R69 to R88) -/

@[simp] theorem enterStranger_roster (frame : FrameNo) (serial : Serial) (reason : StrangerReason) (delta : Int) :
    (s.enterStranger t frame serial reason delta).roster = s.roster := by
  unfold State.enterStranger
  dsimp only
  split
  · rfl
  · split <;> rfl

/-- A VACANT record taken for a serial that the lookup does not find (R47, R57, R58). -/
theorem State.RosterTo.newRecord {k : Nat} {state : RecState} {serial : Serial} {profile : Nat} {byRequest : Bool}
    (unknown : s.lookup serial = none) (free : s.allocate t = .tag k) (other : state ≠ .active) :
    s.RosterTo (s.newRecord t k state serial profile byRequest) := by
  obtain ⟨low, high, vacant, -⟩ := allocate_tag_free free
  have created : (s.newRecord t k state serial profile byRequest).roster =
      s.roster.place k ⟨state, some serial, some t, profile⟩ := by
    unfold State.newRecord
    rw [reportChange_roster, enterState_roster _ _ _ other, modRecord_roster_place _ _ _ ⟨low, high⟩, modMail_roster]
    rfl
  refine .of_step ?_
  rw [created]
  refine .create ⟨low, high⟩ vacant other fun j held _ same => ?_
  have mem : j ∈ numbersWhere s.records fun _ r => r.state.inLookup && r.serial == some serial :=
    (mem_holders_iff ..).mpr ⟨held, same⟩
  rw [List.head?_eq_none_iff.mp unknown] at mem
  cases mem

theorem State.RosterTo.produceOffer (k : Nat) (serial : Serial) (delay : Nat) :
    s.RosterTo (s.produceOffer t k serial delay) := by
  have waiting : s.RosterTo (s.modRecord k fun r => { r with offer := .waiting }) := .of_eq (modRecord_roster _ _ _ (by rfl))
  unfold State.produceOffer
  dsimp only
  split
  · exact waiting.congr rfl
  · exact waiting.trans (.offer ..)

theorem State.RosterTo.takeAgainst (k : Nat) (serial : Serial) (delay : Nat) :
    s.RosterTo (s.takeAgainst t k serial delay) :=
  (State.RosterTo.produceOffer s t k serial delay).congr (dropStrangers_roster ..)

theorem State.RosterTo.announceKnown (frame : FrameNo) (k : Nat) (serial : Serial) (delay : Nat) :
    s.RosterTo (s.announceKnown t frame k serial delay) := by
  have announced (held : (s.record k).state.inLookup = true) :
      s.RosterTo ((s.changeState k .announced false).takeAgainst t k serial delay) :=
    (State.RosterTo.changeState_of_inLookup (new := .announced) false held nofun).trans (.takeAgainst ..)
  unfold State.announceKnown
  split
  case h_1 => exact .of_eq (tellLight_roster ..)
  case h_8 => exact .refl _
  case h_9 => exact .refl _
  all_goals
    rename_i state
    exact announced (by rw [state]; rfl)

theorem State.RosterTo.announceUnknown (frame : FrameNo) (serial : Serial) (delta : Int) (delay : Nat)
    (unknown : s.lookup serial = none) : s.RosterTo (s.announceUnknown t frame serial delta delay) := by
  unfold State.announceUnknown
  split
  · split
    · rename_i free
      unfold State.createRecord
      exact (State.RosterTo.newRecord (state := .announced) s t unknown free nofun).trans (.takeAgainst ..)
    · exact .of_eq (enterStranger_roster ..)
    · exact .of_eq (enterStranger_roster ..)
  all_goals exact .of_eq (enterStranger_roster ..)

theorem State.RosterTo.announcement (frame : FrameNo) (offset : Nat) (serial : Serial) (stagger : Nat) :
    s.RosterTo (s.announcement t frame offset serial stagger) := by
  unfold State.announcement
  dsimp only
  split
  · exact .of_eq (enterStranger_roster ..)
  · split
    · rename_i unknown
      exact .announceUnknown _ _ _ _ _ _ unknown
    · split
      · exact .announceKnown ..
      · exact .of_eq (tellLight_roster ..)

theorem State.RosterTo.takeDiscovery (frame : FrameNo) (body : DiscoveryBody) :
    s.RosterTo (s.takeDiscovery t frame body) := by
  unfold State.takeDiscovery
  split
  · exact .announcement (s.modEnrol t _) ..
  · exact .of_eq (tellLight_roster ..)
  all_goals exact .of_eq rfl

theorem takeDiscoveryMsg_roster {m : DiscoveryMsg} {u : State} (h : s.takeDiscoveryMsg t = some (m, u)) :
    u.roster = s.roster := by
  unfold State.takeDiscoveryMsg at h
  obtain ⟨x, -, hx⟩ := Option.map_eq_some_iff.mp h
  cases hx
  rfl

theorem endDiscovery_roster (frame : FrameNo) : (s.endDiscovery t frame).roster = s.roster := rfl

theorem State.RosterTo.rangingFailed (k : Nat) : s.RosterTo (s.rangingFailed t k) := by
  have failed : s.RosterTo ((s.modEnrol t fun e => { e with attempt := none }).modRecord k fun r =>
      { r with rangeAttempts := min 3 (r.rangeAttempts + 1) }) :=
    .of_eq ((modRecord_roster _ _ _ (by rfl)).trans (modEnrol_roster ..))
  unfold State.rangingFailed
  dsimp only
  split
  · exact failed.trans (.suspendFrom _ _ rfl)
  · exact failed

theorem State.RosterTo.takeRanging (m : RangingMsg) : s.RosterTo (s.takeRanging t m) := by
  unfold State.takeRanging
  split
  · split
    · split
      · unfold State.rangingAccepted
        dsimp only
        split
        · exact .offer (s.modEnrol t _) ..
        · exact .rangingFailed ..
      · exact .rangingFailed ..
    · exact .rangingFailed ..
    · exact .refl _
  · exact .refl _

end
end Sys2Proof.Machine

/-! ## The roster at a boundary -/

namespace Sys2Proof.Machine

section
variable (s : State) (t : Tree)

theorem atBoundary_roster : s.atBoundary.roster = s.roster := by
  have standing : ∀ k, (s.atBoundary.record k).standing = (s.record k).standing := fun k => by
    rw [atBoundary_record]
    rfl
  have engine : ∀ i, (s.atBoundary.engine i).params = (s.engine i).params ∧
      (s.atBoundary.engine i).state = (s.engine i).state := fun i => by
    rw [atBoundary_engine]
    exact ⟨rfl, rfl⟩
  have profiles : s.atBoundary.profiles = s.profiles := by rw [atBoundary_rest]
  simp only [State.roster, standing, atBoundary_load, engine, State.profile, profiles]

/-- A tree engine that runs from now on, with its parameters. -/
theorem State.RosterTo.running {s : State} {t : Tree} {f : Engine → Engine}
    (params : (f (s.engine t)).params = (s.engine t).params)
    (state : (f (s.engine t)).state ≠ .disabled) : s.RosterTo (s.modEngine t f) := by
  have live : (s.modEngine t f).roster = { s.roster with disabled := Function.update s.roster.disabled t false } := by
    unfold State.roster
    congr 1
    · funext i
      rw [modEngine_engine]
      split
      · subst_vars; rw [params]
      · rfl
    · funext i
      rw [modEngine_engine]
      split
      · subst_vars; rw [params]
      · rfl
    · funext i
      rw [modEngine_engine, Function.update_apply]
      split
      · simpa using state
      · rfl
  exact .of_step (live ▸ .enable)

theorem disableTree_roster : (s.disableTree t).roster = s.roster.shutDown t := by
  have run : s.RunsFor t (s.disableTree t) := .disableTree
  have engine : ∀ i, ((s.disableTree t).engine i).params = (s.engine i).params ∧
      (((s.disableTree t).engine i).state == .disabled) = Function.update s.roster.disabled t true i := by
    intro i
    by_cases e : i = t
    · subst e
      rw [disableTree_engine]
      exact ⟨rfl, by simp [Engine.atDisable, Engine.reset]⟩
    · rw [(run.spares i e).engine]
      exact ⟨rfl, by simp [e, State.roster]⟩
  have load : ∀ i, (s.disableTree t).load i = if i = t then .reset else s.load i := by
    intro i
    split
    · subst_vars; exact disableTree_load ..
    · exact (run.spares i ‹_›).load
  have standing : ∀ k, ((s.disableTree t).record k).standing = (s.roster.shutDown t).standing k := by
    intro k
    rw [disableTree_record]
    simp only [Roster.shutDown, State.roster, DropRecord.standing, isRecordOf_iff, DropRecord.atDisable]
    by_cases served : (s.record k).state.served = true
    · have occupied : (s.record k).state ≠ .vacant := fun vacant => by simp [vacant, RecState.served] at served
      by_cases tree : (s.record k).tree = some t <;> simp [served, occupied, tree]
    · simp only [served]
      split <;> simp
  have profiles : (s.disableTree t).profiles = s.profiles := by rw [run.keeps.rest]
  refine Roster.ext (funext standing) (funext fun i => ?_) (funext fun i => ?_) ?_ (funext fun i => ?_) (funext fun i => ?_)
    (funext fun i => (engine i).2)
  · simp only [Roster.shutDown, State.roster, load, Function.update_apply]
    split <;> rfl
  · simp only [Roster.shutDown, State.roster, load, Function.update_apply]
    split <;> rfl
  · simp only [State.roster, State.profile, profiles, Roster.shutDown]
  · simp only [State.roster, (engine i).1, Roster.shutDown]
  · simp only [State.roster, (engine i).1, Roster.shutDown]

theorem State.RosterTo.enableTree : s.RosterTo (s.enableTree t) := by
  obtain ⟨links, cutIns, e⟩ := enableTree_shape s t
  rw [e]
  have enabling : s.RosterTo (s.enabling t) :=
    (State.RosterTo.running (f := (·.atEnable s.frame)) rfl nofun).congr rfl
  exact enabling.congr rfl

theorem State.RosterTo.enterCut : s.RosterTo (s.enterCut t) := by
  unfold State.enterCut
  refine (State.RosterTo.trans ?_ (.abandonRanging _ t)).congr (raise_roster ..)
  exact (State.RosterTo.running (by rfl) (by exact nofun)).congr (modHunt_roster ..)

theorem State.RosterTo.leaveCut : s.RosterTo (s.leaveCut t) :=
  (State.RosterTo.running (t := t) (f := fun e => { e with state := .running, resumePending := false }) rfl nofun).congr rfl

theorem State.RosterTo.changeTree : s.RosterTo (s.changeTree t).1 := by
  unfold State.changeTree
  dsimp only
  split
  · exact .of_step (disableTree_roster s t ▸ .shutDown)
  · split
    · exact .enableTree ..
    · split
      · exact .enterCut ..
      · split
        · exact .leaveCut ..
        · exact .refl _

theorem grantEntry_roster (b : Burst) : (s.grantEntry t b).roster = s.roster := by
  unfold State.grantEntry
  split
  · exact modRecord_roster _ _ _ (by rfl)
  · rfl

theorem dispatch_roster : (s.dispatch t).roster = s.roster := by
  rw [dispatch_eq, modLight_roster, modMail_roster, State.granted, State.grantAll,
    foldl_roster (fun s b => grantEntry_roster s t b)]
  exact modEngine_roster _ _ _ (by rfl) (by rfl)

theorem placed_roster (x : LaneEntry) : (s.placed t x).roster = s.roster := by
  unfold State.placed
  split
  · dsimp only
    split
    · exact modRecord_roster (s.modTracker ..) _ _ (by rfl)
    · rfl
  · rfl
  · exact modRecord_roster _ _ _ (by rfl)
  · rfl
  · rfl

theorem fillPlace_roster (i : Fin 4) : (s.fillPlace t i).roster = s.roster := by
  unfold State.fillPlace
  dsimp only
  split
  · split
    · exact (placed_roster ..).trans (modEngine_roster _ _ _ (by rfl) (by rfl))
    · exact (placed_roster ..).trans (modEngine_roster _ _ _ (by rfl) (by rfl))
    · exact modEngine_roster _ _ _ (by rfl) (by rfl)
  · rfl

theorem sendFrame_roster : (s.sendFrame t).roster = s.roster :=
  (modMail_roster ..).trans (modEngine_roster _ _ _ (by rfl) (by rfl))

/-- The tree of a PARKED record under the promotion scan. -/
def State.parkedOn (s : State) (t : Tree) (k : Nat) : Prop := (s.record k).state = .parked ∧ (s.record k).tree = some t

theorem promote_record_other {k j : Nat} (other : j ≠ k) : (s.promote k).record j = s.record j := by
  unfold State.promote
  split
  · rw [changeState_record, if_neg fun h => other h.1]
  · rfl

theorem promote_engine (k : Nat) (i : Tree) : (s.promote k).engine i = s.engine i := by
  unfold State.promote
  split
  · exact engine_congr (changeState_engines ..) i
  · rfl

variable {s t}

theorem State.RosterTo.promote {k : Nat} (parked : s.parkedOn t k) (enabled : (s.engine t).state ≠ .disabled) :
    s.RosterTo (s.promote k) := by
  have treeNo : (s.record k).treeNo = t := by simp [DropRecord.treeNo, parked.2]
  unfold State.promote
  split
  · rename_i fits
    rw [treeNo] at fits
    exact .activate false (by rw [parked.1]; rfl) (by rw [parked.1]; nofun) parked.2 fits enabled
  · exact .refl _

theorem State.RosterTo.promoteAll (ks : List Nat) : ∀ s : State, ks.Nodup → (∀ k ∈ ks, s.parkedOn t k) →
    (s.engine t).state ≠ .disabled → s.RosterTo (ks.foldl (fun s k => s.promote k) s) := by
  induction ks with
  | nil => exact fun s _ _ _ => .refl s
  | cons k ks ih =>
    intro s nodup parked enabled
    obtain ⟨fresh, nodup⟩ := List.nodup_cons.mp nodup
    refine (State.RosterTo.promote (parked k List.mem_cons_self) enabled).trans (ih _ nodup (fun j hj => ?_) ?_)
    · rw [State.parkedOn, promote_record_other s (by rintro rfl; exact fresh hj)]
      exact parked j (List.mem_cons_of_mem _ hj)
    · rwa [promote_engine]

theorem mem_parked_iff (k : Nat) :
    (k ∈ numbersWhere s.records fun _ r => r.state == .parked && r.tree == some t) ↔ s.parkedOn t k := by
  rw [mem_numbersWhere _ _ _ DropRecord.vacant]
  simp only [Bool.and_eq_true, beq_iff_eq]
  exact ⟨fun h => h.2, fun h => ⟨record_tag_range (s := s) (by rw [h.1]; nofun), h⟩⟩

theorem State.RosterTo.promotionScan (enabled : (s.engine t).state ≠ .disabled) : s.RosterTo (s.promotionScan t) := by
  unfold State.promotionScan
  split
  · have cleared : (s.modLoad t fun l => { l with release := 0, scanDue := false }).roster =
        { s.roster with release := Function.update s.roster.release t 0 } := by
      unfold State.roster
      congr 1
      · funext i
        rw [modLoad_load]
        split
        · subst_vars; rfl
        · rfl
      · funext i
        rw [modLoad_load, Function.update_apply]
        split <;> rfl
    exact (State.RosterTo.of_step (cleared ▸ .scan)).trans
      (.promoteAll _ _ (numbersWhere_nodup ..) (fun k hk => (mem_parked_iff k).mp hk) enabled)
  · exact .refl _

theorem enabled_of_roster {u : State} (h : u.roster = s.roster) (enabled : (s.engine t).state ≠ .disabled) :
    (u.engine t).state ≠ .disabled := by
  have same : ((u.engine t).state == .disabled) = ((s.engine t).state == .disabled) :=
    congrFun (congrArg Roster.disabled h) t
  simpa using same.trans (beq_eq_false_iff_ne.mpr enabled)

theorem State.RosterTo.scanned (enabled : (s.engine t).state ≠ .disabled) : s.RosterTo (s.scanned t) := by
  have same : (((s.dispatch t).fillPlaces t).sendFrame t).roster = s.roster := by
    rw [sendFrame_roster, State.fillPlaces, foldl_roster (fun s i => fillPlace_roster s t i), dispatch_roster]
  exact (State.RosterTo.of_eq same).trans (.promotionScan (enabled_of_roster same enabled))

theorem State.RosterTo.runTree (mark : Bool) (enabled : (s.engine t).state ≠ .disabled) : s.RosterTo (s.runTree t mark) := by
  have forgot : (s.modEngine t (·.forgetAnnounce s.frame)).roster = s.roster :=
    modEngine_roster _ _ _ (by rw [forgetAnnounce_eq]) (by rw [forgetAnnounce_eq])
  have counted : (s.modEngine t (·.forgetAnnounce s.frame)).RosterTo
      ((s.modEngine t (·.forgetAnnounce s.frame)).counted t mark) := by
    refine (State.RosterTo.scanned (enabled_of_roster forgot enabled)).congr ?_
    unfold State.counted
    split
    · rfl
    · exact modEnrol_roster ..
  rw [runTree_eq]
  have due (v : State) : (v.makeDue t).roster = v.roster := rfl
  exact (((State.RosterTo.of_eq forgot).trans counted).trans (.startCompile ..)).congr (due _)

theorem State.RosterTo.boundaryTree (s : State) (t : Tree) : s.RosterTo (s.boundaryTree t) := by
  rw [boundaryTree_eq]
  split
  · exact .changeTree ..
  · exact (State.RosterTo.changeTree s t).trans (.runTree _ ‹_›)

theorem State.RosterTo.boundary (s : State) : s.RosterTo s.boundary := by
  rw [boundary_eq]
  exact (State.RosterTo.of_eq (atBoundary_roster s)).trans (.foldl State.RosterTo.boundaryTree _ _)

end
end Sys2Proof.Machine

/-! ## Requests that change profiles and loads (R53, R59) -/

namespace Sys2Proof.Machine

/-! ### The loads after a SET_PROFILE (R53) -/

/-- The load of a tree once profile `n` is `p`: a fall joins the release pending, and a PARKED record of the profile makes a
scan due (R53). -/
def State.loadAfter (s : State) (n : Nat) (p : Profile) (t : Tree) : Load :=
  ⟨s.loadWith t n p, (s.load t).release + ((s.load t).committed - s.loadWith t n p), (s.load t).scanDue || s.parkedWith t n⟩

theorem applyLoad_eq (s : State) (n : Nat) (p : Profile) (t : Tree) :
    s.applyLoad n p t = s.modLoad t fun _ => s.loadAfter n p t := by
  have load : ({ (if s.loadWith t n p ≤ (s.load t).committed then (s.load t).drop ((s.load t).committed - s.loadWith t n p)
      else (s.load t).add (s.loadWith t n p - (s.load t).committed)) with
      scanDue := (s.load t).scanDue || s.parkedWith t n } : Load) = s.loadAfter n p t := by
    unfold State.loadAfter Load.drop Load.add
    split <;> simp <;> omega
  exact congrArg (fun x => ({ s with loads := s.loads.set t.val x } : State)) load

/-- The loads of several trees written one after the other: each as if it were the only one. -/
theorem applyLoads_load (n : Nat) (p : Profile) (t : Tree) (ts : List Tree) : ∀ s : State, ts.Nodup →
    (ts.foldl (fun s t => s.applyLoad n p t) s).load t = if t ∈ ts then s.loadAfter n p t else s.load t := by
  induction ts with
  | nil => exact fun s _ => rfl
  | cons i ts ih =>
    intro s nodup
    obtain ⟨fresh, nodup⟩ := List.nodup_cons.mp nodup
    rw [List.foldl_cons, ih _ nodup, applyLoad_eq]
    by_cases e : t = i
    · subst e
      rw [if_neg fresh, if_pos List.mem_cons_self, modLoad_load_self]
    · have load (f : Load → Load) : (s.modLoad i f).load t = s.load t := by rw [modLoad_load, if_neg e]
      have after (f : Load → Load) : (s.modLoad i f).loadAfter n p t = s.loadAfter n p t := by
        unfold State.loadAfter State.loadWith
        rw [load]
        rfl
      rw [after, load]
      simp [e]

theorem applyLoads_shape (n : Nat) (p : Profile) (ts : List Tree) : ∀ s : State,
    ∃ loads, ts.foldl (fun s t => s.applyLoad n p t) s = { s with loads := loads } := by
  induction ts with
  | nil => exact fun s => ⟨s.loads, rfl⟩
  | cons i ts ih =>
    intro s
    obtain ⟨loads, h⟩ := ih (s.applyLoad n p i)
    exact ⟨loads, h⟩

theorem mem_allTrees (t : Tree) : t ∈ allTrees := by
  revert t
  decide

theorem allTrees_nodup : allTrees.Nodup := by decide

/-- A state in which a SET_PROFILE that passes has written loads and profile (R53). -/
def State.reprofiled (s : State) (n : Nat) (p : Profile) : State :=
  (allTrees.foldl (fun s t => s.applyLoad n p t) s).modProfile n fun _ => p

theorem reprofiled_load (s : State) (n : Nat) (p : Profile) (t : Tree) : (s.reprofiled n p).load t = s.loadAfter n p t := by
  show (allTrees.foldl (fun s t => s.applyLoad n p t) s).load t = _
  rw [applyLoads_load n p t allTrees s allTrees_nodup, if_pos (mem_allTrees t)]

theorem reprofiled_shape (s : State) (n : Nat) (p : Profile) :
    ∃ loads profiles, s.reprofiled n p = { s with loads := loads, profiles := profiles } := by
  obtain ⟨loads, h⟩ := applyLoads_shape n p allTrees s
  exact ⟨loads, _, by rw [State.reprofiled, h]; rfl⟩

theorem reprofiled_profile (s : State) {n : Nat} (p : Profile) (low : n < 16) (m : Nat) :
    (s.reprofiled n p).profile m = if m = n then p else s.profile m := by
  obtain ⟨loads, h⟩ := applyLoads_shape n p allTrees s
  rw [State.reprofiled, modProfile_profile, h]
  simp only [low, and_true]
  rfl

theorem activeWith_eq (s : State) (t : Tree) (n : Nat) : s.activeWith t n = s.roster.users t n := by
  unfold State.activeWith Roster.users
  rw [numbersWhere_eq _ _ DropRecord.vacant, ← List.toFinset_card_of_nodup ((List.nodup_range' ..).filter _)]
  congr 1
  ext k
  simp only [List.mem_toFinset, List.mem_filter, List.mem_range'_1, Finset.mem_filter, Finset.mem_Icc, Bool.and_eq_true,
    beq_iff_eq]
  exact and_congr (by omega) Iff.rfl

theorem loadWith_eq (s : State) (n : Nat) (p : Profile) (t : Tree) : s.loadWith t n p = s.roster.loadWith n p.share t := by
  rw [State.loadWith, activeWith_eq]
  rfl

theorem reprofiled_roster (s : State) {n : Nat} (p : Profile) (low : n < 16) :
    (s.reprofiled n p).roster = s.roster.reprofile n p.share := by
  obtain ⟨loads, profiles, h⟩ := reprofiled_shape s n p
  have standing : (s.reprofiled n p).roster.standing = s.roster.standing := by rw [h]; rfl
  have engines : (s.reprofiled n p).engines = s.engines := by rw [h]
  refine Roster.ext standing (funext fun t => ?_) (funext fun t => ?_) (funext fun m => ?_) ?_ ?_ ?_
  · exact (congrArg Load.committed (reprofiled_load ..)).trans (loadWith_eq ..)
  · refine (congrArg Load.release (reprofiled_load ..)).trans ?_
    simp only [State.loadAfter, loadWith_eq]
    rfl
  · show ((s.reprofiled n p).profile m).share = _
    rw [reprofiled_profile s p low]
    simp only [Roster.reprofile, Function.update_apply]
    split <;> rfl
  all_goals simp only [State.roster, State.engine, engines, Roster.reprofile]

section
variable (s : State) (l : LinkId)

@[simp] theorem evalProfile_roster (n : Nat) : (s.evalProfile n).roster = s.roster :=
  foldl_roster (fun s k => evalOver_roster s k) _ s

theorem State.RosterTo.serveSetProfile {n : Nat} (v : ProfileValues) (low : n < 16) :
    s.RosterTo (s.serveSetProfile l n v) := by
  unfold State.serveSetProfile
  split
  · exact .of_eq (answer_roster ..)
  · dsimp only
    split
    · exact .of_eq (answer_roster ..)
    · rename_i pass
      have step : s.RosterTo (s.reprofiled n ((s.profile n).set v).1) := by
        refine .of_step ?_
        rw [reprofiled_roster s _ low]
        refine .reprofile fun t => ?_
        have passes := List.find?_eq_none.mp pass t (mem_allTrees t)
        simp only [State.budgetPasses, Bool.not_eq_true, Bool.not_eq_false', Bool.or_eq_true, decide_eq_true_eq,
          loadWith_eq] at passes
        exact passes
      exact step.congr ((answer_roster ..).trans (evalProfile_roster ..))

/-! ### ASSIGN_PROFILE (R59) -/

theorem writeProfileOf_roster {k : Nat} (n : Nat) (tag : 1 ≤ k ∧ k ≤ 256) :
    (s.writeProfileOf k n).roster = s.roster.place k { s.roster.standing k with profile := n } := by
  unfold State.writeProfileOf
  rw [evalOver_roster, modRecord_roster_place _ _ _ tag]
  rfl

theorem State.RosterTo.serveAssign {k : Nat} (n : Nat) (occupied : (s.record k).state ≠ .vacant) :
    s.RosterTo (s.serveAssign l k n) := by
  have tag := record_tag_range occupied
  have idle (h : (s.record k).state ≠ .active) : s.RosterTo (s.writeProfileOf k n) :=
    .of_step (writeProfileOf_roster s n tag ▸ .assign tag h)
  unfold State.serveAssign
  dsimp only
  split
  · exact .of_eq (answer_roster ..)
  · rename_i active
    split
    · rename_i up
      split
      · rename_i fits
        refine (State.RosterTo.of_step (u := State.writeProfileOf _ k n) ?_).congr (answer_roster ..)
        rw [writeProfileOf_roster _ n tag, modLoad_add_roster]
        exact .assignUp tag active rfl (le_of_lt up) (of_decide_eq_true fits)
      · exact .of_eq (answer_roster ..)
    · rename_i down
      refine (State.RosterTo.of_step (u := State.writeProfileOf _ k n) ?_).congr (answer_roster ..)
      rw [writeProfileOf_roster _ n tag, modLoad_drop_roster]
      exact .assignDown tag active rfl (not_lt.mp down)
  · rename_i parked
    have due : (s.modLoad (s.record k).treeNo fun x => { x with scanDue := true }).roster = s.roster :=
      modLoad_roster _ _ _ rfl rfl
    refine (State.RosterTo.of_step (u := State.writeProfileOf _ k n) ?_).congr (answer_roster ..)
    rw [writeProfileOf_roster _ n tag, due]
    exact .assign tag (show (s.record k).state ≠ .active by rw [parked]; nofun)
  all_goals
    rename_i other
    exact (idle (by rw [other]; nofun)).congr (answer_roster ..)

/-! ## The roster, request by request -/

/-! ### Requests: what serves them decides -/

variable {s l}

theorem State.RosterTo.transaction {next : State} (h : s.RosterTo next) : s.RosterTo (s.transaction l next) := by
  unfold State.transaction
  split
  · exact .refl s
  · split
    · exact .of_eq (modLink_roster ..)
    · exact h

theorem State.RosterTo.write {r : Request} {serve : State → State} (served : ∀ u, State.RosterTo u (serve u)) :
    s.RosterTo (s.write l r serve) := by
  refine .transaction ?_
  split
  · exact .of_eq (modLink_roster ..)
  · exact (State.RosterTo.of_eq (modLink_roster ..)).trans (served _)

theorem State.RosterTo.request {i : Instr} {cls : RequestClass} {serve : State → State}
    (served : ∀ u, State.RosterTo u (serve u)) : s.RosterTo (s.request l i cls serve) := by
  refine .write fun u => ?_
  unfold State.checkRole
  split
  · exact served u
  · exact .of_eq (answer_roster ..)

theorem State.RosterTo.withTree {tree : Nat} {serve : Tree → State} (served : ∀ t, s.RosterTo (serve t)) :
    s.RosterTo (s.withTree l tree serve) := by
  unfold State.withTree
  split
  · exact served _
  · exact .of_eq (answer_roster ..)

theorem State.RosterTo.withTag {tag : Nat} {serve : Nat → State} (served : ∀ k, s.RosterTo (serve k)) :
    s.RosterTo (s.withTag l tag serve) := by
  unfold State.withTag
  split
  · exact served _
  · exact .of_eq (answer_roster ..)

theorem State.RosterTo.needRecord {k : Nat} {serve : State} (served : (s.record k).state ≠ .vacant → s.RosterTo serve) :
    s.RosterTo (s.needRecord l k serve) := by
  unfold State.needRecord
  split
  · exact .of_eq (answer_roster ..)
  · exact served ‹_›

theorem State.RosterTo.withProfile {n : Nat} {serve : State} (served : n < 16 → s.RosterTo serve) :
    s.RosterTo (s.withProfile l n serve) := by
  unfold State.withProfile
  split
  · exact served ‹_›
  · exact .of_eq (answer_roster ..)

variable (s l) (t : Tree) (k : Nat)

/-! ### What serves each request -/

theorem serveEnable_roster : (s.serveEnable l t).roster = s.roster := by
  unfold State.serveEnable
  split
  · exact modEngine_roster _ _ _ (by rfl) (by rfl)
  · exact answer_roster ..

theorem serveDisable_roster : (s.serveDisable l t).roster = s.roster := by
  unfold State.serveDisable
  split
  · exact answer_roster ..
  · exact modEngine_roster _ _ _ (by rfl) (by rfl)

theorem serveResume_roster : (s.serveResume l t).roster = s.roster := by
  unfold State.serveResume
  dsimp only
  repeat' split
  · exact answer_roster ..
  · exact answer_roster ..
  · exact answer_roster ..
  · exact answer_roster ..
  · exact (answer_roster ..).trans (modEngine_roster _ _ _ (by rfl) (by rfl))

theorem State.RosterTo.writeParams (p : TreeParams) (disabled : (s.engine t).state = .disabled) :
    s.RosterTo (s.writeParams t p) := by
  have written : (s.modEngine t fun e => { e with params := p }).roster = { s.roster with
      overhead := Function.update s.roster.overhead t p.overhead, limit := Function.update s.roster.limit t p.k } := by
    unfold State.roster
    congr 1 <;> funext i <;> rw [modEngine_engine]
    · rw [Function.update_apply]
      split <;> rfl
    · rw [Function.update_apply]
      split <;> rfl
    · split
      · subst_vars; rfl
      · rfl
  have step : s.RosterTo (s.modEngine t fun e => { e with params := p }) :=
    .of_step (written ▸ .params (by simp [State.roster, disabled]))
  unfold State.writeParams
  dsimp only
  split
  · exact step.congr (modEnrol_roster ..)
  · exact step.congr ((modMail_roster ..).trans (modEnrol_roster ..))

theorem State.RosterTo.serveSetTree (v : TreeValues) : s.RosterTo (s.serveSetTree l t v) := by
  unfold State.serveSetTree
  dsimp only
  split
  · exact .of_eq (answer_roster ..)
  · rename_i disabled
    split
    · exact .of_eq (answer_roster ..)
    · split
      · exact .of_eq (answer_roster ..)
      · exact (State.RosterTo.writeParams s t _ (not_not.mp fun on => disabled (.inl on))).congr (answer_roster ..)

theorem State.RosterTo.serveProvision (serial : Serial) (n : Nat) : s.RosterTo (s.serveProvision l serial t n) := by
  unfold State.serveProvision
  split
  · exact .of_eq (answer_roster ..)
  · rename_i unknown
    split
    · exact .of_eq (answer_roster ..)
    · exact .of_eq (answer_roster ..)
    · rename_i free
      refine State.RosterTo.congr (State.RosterTo.newRecord (state := .expected) (profile := n) (byRequest := true) s t unknown
        free nofun) ?_
      exact (answer_roster ..).trans (dropStrangers_roster ..)

/-- A RESTORE that ends without acceptance answers its links, and nothing else but that it is kept no more. -/
theorem endRestore_shape : ∃ links kept, s.endRestore k = { s with links := links, kept := kept } := by
  obtain ⟨links, h⟩ := answerAll_shape (s := s.dropKept (Kept.isRestore k))
    ((s.kept.filter (Kept.isRestore k)).filterMap fun x =>
      match x.entry.origin with
      | .restore l => some l
      | _ => none) .state
  exact ⟨links, _, h⟩

theorem endRestore_roster : (s.endRestore k).roster = s.roster := by
  obtain ⟨links, kept, h⟩ := endRestore_shape s k
  rw [h]
  rfl

theorem State.RosterTo.withdraw {new : RecState} (occupied : (s.record k).state ≠ .vacant)
    (withdrawn : new = .vacant ∨ new = .retired) : s.RosterTo (s.withdraw k new) := by
  obtain ⟨links, kept, h⟩ := endRestore_shape s k
  have gone : s.RosterTo ((s.endRestore k).changeState k new true) :=
    (State.RosterTo.of_eq (endRestore_roster s k)).trans
      (.changeState_of_withdrawn true (by rw [h]; exact occupied) withdrawn)
  unfold State.withdraw
  dsimp only
  split
  · exact gone.congr (offerDepart_roster ..)
  · exact gone

theorem State.RosterTo.serveRetire (occupied : (s.record k).state ≠ .vacant) : s.RosterTo (s.serveRetire l k) := by
  unfold State.serveRetire
  split
  · exact .of_eq (answer_roster ..)
  · refine State.RosterTo.congr (.withdraw s k occupied ?_) (answer_roster ..)
    split
    · exact .inl rfl
    · exact .inr rfl

theorem State.RosterTo.serveRerange : s.RosterTo (s.serveRerange l k) := by
  unfold State.serveRerange
  split
  · rename_i served
    refine (State.RosterTo.changeState_of_inLookup (new := .announced) true ?_ nofun).congr
      ((answer_roster ..).trans (modRecord_roster _ _ _ (by rfl)))
    rcases served with h | h <;> rw [h] <;> rfl
  · exact .of_eq (answer_roster ..)

theorem State.RosterTo.serveRestore : s.RosterTo (s.serveRestore l k) := by
  unfold State.serveRestore
  dsimp only
  split
  · exact .of_eq (answer_roster ..)
  · exact .offer ..

theorem serveFind_roster (serial : Serial) : (s.serveFind l serial).roster = s.roster := by
  unfold State.serveFind
  split <;> exact answer_roster ..

theorem serveSetEnrolment_roster (mode : Nat) : (s.serveSetEnrolment l t mode).roster = s.roster := by
  unfold State.serveSetEnrolment
  split <;> rfl

theorem serveDismiss_roster (index : Nat) : (s.serveDismiss l index).roster = s.roster := by
  unfold State.serveDismiss
  split
  · rfl
  · split <;> rfl

theorem serveReadObservation_roster (index : Nat) : (s.serveReadObservation l index).roster = s.roster := by
  unfold State.serveReadObservation
  split
  · rfl
  · split <;> rfl

theorem serveClearObservation_roster (index : Nat) : (s.serveClearObservation l index).roster = s.roster := by
  unfold State.serveClearObservation
  split
  · rfl
  · split <;> rfl

theorem State.RosterTo.serveHunt : s.RosterTo (s.serveHunt l t) := by
  unfold State.serveHunt
  split
  · exact (State.RosterTo.startHunt s t).congr (answer_roster ..)
  · exact .of_eq (answer_roster ..)

theorem State.RosterTo.serveAbort : s.RosterTo (s.serveAbort l t) := by
  unfold State.serveAbort
  dsimp only
  split
  · exact .of_eq (answer_roster ..)
  · exact ((State.RosterTo.of_eq (endHunt_roster s t .aborted)).trans (.offerRelease ..)).congr (answer_roster ..)

theorem serveMask_roster (mask : MaskValues) : (s.serveMask l mask).roster = s.roster := by
  unfold State.serveMask
  split <;> rfl

/-- A RETIRED record steps to VACANT where its usage is settled (R45). -/
theorem State.RosterTo.stepToVacant : s.RosterTo
    (if (s.record k).state = .retired ∧ s.settled k = true then s.changeState k .vacant true else s) := by
  split
  · rename_i retired
    exact .changeState_of_withdrawn true (by rw [retired.1]; nofun) (.inl rfl)
  · exact .refl s

theorem State.RosterTo.closeRecord : s.RosterTo (s.closeRecord k) :=
  (State.RosterTo.of_eq ((evalOver_roster ..).trans (modTally_roster ..))).trans
    (.stepToVacant ((s.modTally k (·.close s.period s.frame)).evalOver k) k)

theorem State.RosterTo.closeAll : s.RosterTo s.closeAll := by
  unfold State.closeAll
  exact (State.RosterTo.foldl (fun s k => .closeRecord s k) s.occupied s).congr rfl

theorem State.RosterTo.serveClose : s.RosterTo (s.serveClose l) := by
  unfold State.serveClose
  split
  · exact (State.RosterTo.closeAll s).congr (answer_roster ..)
  · exact .of_eq (answer_roster ..)

theorem State.RosterTo.serveCollect : s.RosterTo (s.serveCollect l k) := by
  unfold State.serveCollect
  dsimp only
  split
  · exact .of_eq (answer_roster ..)
  · exact ((State.RosterTo.of_eq (modTally_roster ..)).trans (.stepToVacant (s.modTally k _) k)).congr (answer_roster ..)

end
end Sys2Proof.Machine

/-! ## Every step keeps the lookup unique and the budget -/

namespace Sys2Proof.Machine

/-- Every request, by what serves it. -/
theorem State.RosterTo.requestStep (s : State) (i : Instr) : s.RosterTo (requestStep i s) := by
  have answered (u : State) (l : LinkId) (status : Status) (data : ResponseData) : u.RosterTo (u.answer l status data) :=
    .of_eq (answer_roster ..)
  cases i with
  | enableTree => exact .request fun u => .withTree fun t => .of_eq (serveEnable_roster ..)
  | disableTree => exact .request fun u => .withTree fun t => .of_eq (serveDisable_roster ..)
  | setTree => exact .request fun u => .withTree fun t => .serveSetTree ..
  | resumeTree => exact .request fun u => .withTree fun t => .of_eq (serveResume_roster ..)
  | setEnrolment => exact .request fun u => .withTree fun t => .of_eq (serveSetEnrolment_roster ..)
  | hunt => exact .request fun u => .withTree fun t => .serveHunt ..
  | abortHunt => exact .request fun u => .withTree fun t => .serveAbort ..
  | readTree | readPlan | readEnrolment | readLight | readHunt => exact .request fun u => .withTree fun t => answered ..
  | provision => exact .request fun u => .withTree fun t => .withProfile fun _ => .serveProvision ..
  | assignProfile =>
    exact .request fun u => .withTag fun k => .withProfile fun _ => .needRecord fun known => .serveAssign _ _ _ known
  | retire => exact .request fun u => .withTag fun k => .needRecord fun known => .serveRetire _ _ _ known
  | rerange => exact .request fun u => .withTag fun k => .needRecord fun _ => .serveRerange ..
  | restore => exact .request fun u => .withTag fun k => .needRecord fun _ => .serveRestore ..
  | collect => exact .request fun u => .withTag fun k => .needRecord fun _ => .serveCollect ..
  | readRecord | readTracking | readLive => exact .request fun u => .withTag fun k => .needRecord fun _ => answered ..
  | setProfile => exact .request fun u => .withProfile fun low => .serveSetProfile _ _ _ low
  | readProfile => exact .request fun u => .withProfile fun _ => answered ..
  | findSerial => exact .request fun u => .of_eq (serveFind_roster ..)
  | dismissStranger => exact .request fun u => .of_eq (serveDismiss_roster ..)
  | readObservation => exact .request fun u => .of_eq (serveReadObservation_roster ..)
  | clearObservation => exact .request fun u => .of_eq (serveClearObservation_roster ..)
  | closePeriod => exact .request fun u => .serveClose ..
  | setAttentionMask => exact .request fun u => .of_eq (serveMask_roster ..)
  | clearOverflow => exact .request fun u => answered { u with overflow := false } ..
  | readAttention => exact .request fun u => answered (u.modLink ..) ..
  | readStranger | readLogStatus | readPeriod | readLinks => exact .request fun u => answered ..
  | _ => exact .refl s

theorem State.RosterTo.writeOctets (s : State) (l : LinkId) (octets : List Byte) : s.RosterTo (s.writeOctets l octets) := by
  unfold State.writeOctets
  split
  · exact .transaction (.refl s)
  · split
    · exact .requestStep ..
    · split
      · exact .write fun u => .of_eq rfl
      · exact .write fun u => .of_eq (answer_roster ..)

theorem State.RosterTo.of_live {s next u : State} (e : live s next = .next u) (h : s.RosterTo next) : s.RosterTo u := by
  rcases live_cases e with rfl | rfl
  · exact .refl _
  · exact h

theorem State.RosterTo.resetWith (s : State) (roles : Vector Role 3) (selected : Vector Bool 3) (freeCount : Nat)
    (pending : List Instr) : s.RosterTo (State.resetWith roles selected freeCount pending) := by
  have record (k : Nat) : (State.resetWith roles selected freeCount pending).record k = .vacant := by
    simp [State.resetWith, State.record, readAt_replicate]
  have load (t : Tree) : (State.resetWith roles selected freeCount pending).load t = .reset := by
    simp [State.resetWith, State.load]
  exact .of_step (.reset (fun k => congrArg DropRecord.standing (record k)) fun t =>
    ⟨congrArg Load.committed (load t), congrArg Load.release (load t)⟩)

/-- Every command that is no request. -/
theorem State.RosterTo.of_exec {s u : State} (i : Instr) (noRequest : i.requestSource = none) (e : exec i s = .next u) :
    s.RosterTo u := by
  cases i with
  | powerOnReset | resetN =>
    cases e
    exact .resetWith s (s.links.map (·.role)) (Vector.replicate 3 false) s.freeCount s.pending
  | release straps selected =>
    cases e
    split
    · exact .resetWith s (straps.map Straps.role) selected s.freeCount s.pending
    · exact .refl _
  | frameBoundary => exact .of_live e (.boundary s)
  | compileReadRecord => exact .of_live e (.of_eq (readNext_roster ..))
  | compileEnd => exact .of_live e (.of_eq (endCompile_roster ..))
  | offerDelivered => exact .of_live e (.of_eq (modRecord_roster _ _ _ rfl))
  | settleMarkSettled => exact .of_live e (.of_eq (modTracker_roster ..))
  | departureClears => exact .of_live e (.of_eq (modRecord_roster _ _ _ rfl))
  | rxResetPulse => exact .of_live e (.of_eq ((pulse_roster ..).trans (advance_roster ..)))
  | inputSample =>
    exact .of_live e (.of_eq
      ((State.OnlyJudges.deliverLight.roster.trans (filterInputs_roster ..)).trans (advance_roster ..)))
  | cutInAssertion =>
    refine .of_live e ?_
    split
    · rename_i taken
      exact (State.RosterTo.of_eq (takeCutReport_roster _ _ taken)).trans (.cutAsserted ..)
    · exact .refl _
  | cutInDeassertion t =>
    refine .of_live e ?_
    cases taken : s.takeCutReport t false with
    | none => exact .refl _
    | some v => exact .of_eq (takeCutReport_roster _ _ taken)
  | autoHuntTrigger =>
    refine .of_live e ?_
    split
    · exact .refl _
    · dsimp only
      split
      · exact .startHunt (s.modMail _) _
      · exact .of_eq (modMail_roster ..)
  | lockCapture t offset =>
    refine .of_live e ?_
    split
    · exact .of_eq (advance_roster ..)
    · exact .of_eq (capture_roster (s.advance offset) ..)
  | headerReceipt =>
    refine .of_live e ?_
    split
    · exact .refl _
    · rename_i taken
      exact .of_eq ((resolve_roster ..).trans (withoutReception_roster _ _ taken))
  | announcePayloadEnd =>
    refine .of_live e ?_
    split
    · exact .refl _
    · rename_i taken
      exact .of_eq ((tellDiscovery_roster ..).trans (withoutReception_roster _ _ taken))
  | planLeavesList t offset =>
    exact .of_live e (.of_eq ((State.EndsPlans.leavePlan (s.advance offset) t).roster.trans (advance_roster ..)))
  | validBurstReport =>
    refine .of_live e ?_
    split
    · exact .refl _
    · exact .of_eq (takeValid_roster (s.modMail _) _)
  | missReport =>
    refine .of_live e ?_
    split
    · exact .refl _
    · exact .takeMiss (s.modMail _) _
  | delaySample =>
    refine .of_live e ?_
    split
    · exact .refl _
    · exact .takeSample (s.modMail _) _
  | stateChangeReport =>
    refine .of_live e ?_
    split
    · exact .refl _
    · exact .of_eq (takeChange_roster (s.modMail _) _)
  | lightWatchReport =>
    refine .of_live e ?_
    split
    · exact .refl _
    · exact .of_eq (takeLight_roster (s.modMail _) _)
  | strike =>
    refine .of_live e ?_
    split
    · exact .refl _
    · exact .takeStrike (s.modMail _) _
  | cleanRun =>
    refine .of_live e ?_
    split
    · exact .refl _
    · dsimp only
      split
      · refine .of_eq ((modRecord_roster _ _ _ ?_).trans (modMail_roster ..))
        unfold DropRecord.clean
        split <;> rfl
      · exact .of_eq (modMail_roster ..)
  | discoveryReport =>
    refine .of_live e ?_
    split
    · exact .refl _
    · rename_i taken
      split
      · exact .refl _
      · exact (State.RosterTo.of_eq (takeDiscoveryMsg_roster _ _ taken)).trans (.takeDiscovery ..)
  | discoveryWindowEnd =>
    refine .of_live e ?_
    split
    · exact .refl _
    · rename_i taken
      split
      · exact .of_eq ((endDiscovery_roster ..).trans (takeDiscoveryMsg_roster _ _ taken))
      · exact .refl _
  | rangingAttemptReport =>
    refine .of_live e ?_
    split
    · exact .refl _
    · exact .takeRanging (s.modMail _) _ _
  | darkWindowEnd =>
    refine .of_live e ?_
    split
    · exact .refl _
    · exact .darkEnd (s.modMail _) _ _
  | directiveRetry => exact .of_live e (.retry ..)
  | downstreamPacketArrival => exact .of_live e (.of_eq (packetArrival_roster ..))
  | tallyUpOctets =>
    refine .of_live e ?_
    split
    · exact .refl _
    · exact .of_eq (takeUp_roster (s.modMail _) _)
  | tallyDownOctets =>
    refine .of_live e ?_
    split
    · exact .refl _
    · exact .of_eq (takeDown_roster (s.modMail _) _)
  | tallyDispatch =>
    refine .of_live e ?_
    split
    · exact .refl _
    · exact .of_eq (takeDispatch_roster (s.modMail _) _)
  | attentionLatch =>
    refine .of_live e ?_
    split
    · exact .refl _
    · exact .of_eq (takeReport_roster (s.modMail _) _)
  | writeDiscarded =>
    refine .of_live e (.transaction ?_)
    split
    · exact .of_eq (modLink_roster ..)
    · exact .refl _
  | readTransaction => exact .of_live e (.transaction (.of_eq (modLink_roster ..)))
  | disregardedTransaction =>
    refine .of_live e ?_
    split
    · exact .refl _
    · exact .transaction (.of_eq (modLink_roster ..))
  | malformedRequest => exact .of_live e (.writeOctets ..)
  | _ => cases noRequest

/-- What one step can do to the roster. -/
theorem State.RosterTo.of_step_eq {s u : State} (e : step s = .next u) : s.RosterTo u := by
  unfold step at e
  split at e
  · cases e
    exact .refl _
  · rename_i c rest _
    have queue : s.RosterTo { s with pending := rest } := .of_eq rfl
    by_cases request : c.requestSource = none
    · exact queue.trans (.of_exec c request e)
    · rw [exec_eq_requestStep c _ request] at e
      exact queue.trans (.of_live e (.requestStep ..))

theorem Roster.invariant_of_moves {P : Roster → Prop} (keeps : ∀ {r u : Roster}, r.Step u → P r → P u) {r u : Roster}
    (path : Relation.ReflTransGen Roster.Step r u) (h : P r) : P u := by
  induction path with
  | refl => exact h
  | tail _ move ih => exact keeps move ih

/-- A property of the roster that each move keeps, every step keeps. -/
theorem roster_invariant {P : Roster → Prop} (keeps : ∀ {r u : Roster}, r.Step u → P r → P u) {s u : State}
    (e : step s = .next u) (h : P s.roster) : P u.roster :=
  Roster.invariant_of_moves keeps (State.RosterTo.of_step_eq e) h

/-- Settles O7: of the moves of the roster, the one that takes a record for a serial finds it in no record of the lookup. -/
theorem everyStepKeepsTheLookupUnique : Obligations.EveryStepKeepsTheLookupUnique := fun _ _ h e =>
  (lookupInv_iff _).mpr (roster_invariant Roster.Unique.step e ((lookupInv_iff _).mp h))

/-- Settles O42: each move of the roster changes a committed load by what the terms of its records change. -/
theorem everyStepKeepsTheBudget : Obligations.EveryStepKeepsTheBudget := fun _ _ h e =>
  (budgetInv_iff _).mpr (roster_invariant Roster.Budget.step e ((budgetInv_iff _).mp h))

end Sys2Proof.Machine

/-! ## ASSIGN_PROFILE and SET_PROFILE (R53, R54, R59, R176, R177) -/

namespace Sys2Proof.Machine

/-! ### The over flag (R176) -/

/-- The over flag of a record under a profile (R176). -/
def State.overWith (s : State) (k : Nat) (p : Profile) : Bool :=
  decide (p.q ≠ 0 ∧ p.q * 1048576 ≤ (s.tally k).live.up)

theorem overNow_eq (s : State) (k : Nat) : s.overNow k = s.overWith k (s.profile (s.record k).profile) := by
  unfold State.overNow State.overWith threshold
  rw [Bool.decide_and, decide_not]
  rfl

/-- The report of an over flag that has risen (R176). -/
def allowanceReports (before after : Bool) : List LinkReport :=
  if after = true ∧ before = false then [.event .allowance] else []

theorem evalOver_eq (s : State) (k : Nat) : s.evalOver k =
    (s.modRecord k fun r => { r with isOver := s.overNow k }).modMail fun m =>
      { m with attention := m.attention ++ allowanceReports (s.record k).isOver (s.overNow k) } := by
  unfold State.evalOver allowanceReports
  dsimp only
  by_cases rise : s.overNow k = true ∧ (s.record k).isOver = false
  · rw [if_pos rise, if_pos (by simp [rise])]
    rfl
  · rw [if_neg rise, if_neg (by simpa using rise)]
    simp [State.modMail, State.modRecord]

/-! ### ASSIGN_PROFILE (R59) -/

section
variable {s : State} {l : LinkId} {seq k n : Nat} {t : Tree}

theorem writeProfileOf_eq (tag : 1 ≤ k ∧ k ≤ 256) : s.writeProfileOf k n =
    (s.modRecord k fun r =>
      { r with profile := n, provisioned := true, isOver := s.overWith k (s.profile n) }).modMail fun m =>
        { m with attention := m.attention ++ allowanceReports (s.record k).isOver (s.overWith k (s.profile n)) } := by
  have record : (s.modRecord k fun r => { r with profile := n, provisioned := true }).record k =
      { s.record k with profile := n, provisioned := true } := by rw [modRecord_record, if_pos ⟨rfl, tag⟩]
  have flag : (s.modRecord k fun r => { r with profile := n, provisioned := true }).overNow k =
      s.overWith k (s.profile n) := by
    rw [overNow_eq, record]
    rfl
  rw [State.writeProfileOf, evalOver_eq, flag, record, modRecord_modRecord]

/-- The load of the record's tree once the record names profile `n` (R54, R59). -/
def State.assignedLoad (s : State) (t : Tree) (k n : Nat) : Load :=
  if (s.record k).state = .active then
    ⟨(s.load t).committed + (s.profile n).share - (s.profile (s.record k).profile).share,
      (s.load t).release + ((s.profile (s.record k).profile).share - (s.profile n).share), (s.load t).scanDue⟩
  else if (s.record k).state = .parked then { s.load t with scanDue := true }
  else s.load t

/-- The record names profile `n`, and its tree's load follows. -/
def State.assigned (s : State) (t : Tree) (k n : Nat) : State :=
  (s.modLoad t fun _ => s.assignedLoad t k n).writeProfileOf k n

/-- A rise of F + A that the budget of the record's tree does not take (R54). -/
def State.overBudget (s : State) (t : Tree) (k n : Nat) : Prop :=
  (s.record k).state = .active ∧ (s.profile (s.record k).profile).share < (s.profile n).share ∧
    (s.engine t).params.k < (s.load t).committed + (s.load t).release +
      ((s.profile n).share - (s.profile (s.record k).profile).share)

theorem modLoad_congr {f g : Load → Load} (h : f (s.load t) = g (s.load t)) : s.modLoad t f = s.modLoad t g := by
  simp only [State.modLoad, h]

theorem serveAssign_taken (tree : (s.record k).tree = some t) (kept : (s.record k).state ≠ .retired)
    (budget : ¬ s.overBudget t k n) : s.serveAssign l k n = (s.assigned t k n).answer l .ok .none := by
  have treeNo : (s.record k).treeNo = t := by simp [DropRecord.treeNo, tree]
  have assigned {f : Load → Load} (h : f (s.load t) = s.assignedLoad t k n) :
      ((s.modLoad t f).writeProfileOf k n).answer l .ok .none = (s.assigned t k n).answer l .ok .none := by
    rw [State.assigned, modLoad_congr (g := fun _ => s.assignedLoad t k n) h]
  have same (idle : (s.record k).state ≠ .active) (other : (s.record k).state ≠ .parked) :
      (s.writeProfileOf k n).answer l .ok .none = (s.assigned t k n).answer l .ok .none := by
    rw [State.assigned, State.assignedLoad, if_neg idle, if_neg other, modLoad_eq_self rfl]
  unfold State.serveAssign
  simp only [treeNo]
  split
  · exact absurd ‹_› kept
  · rename_i active
    split
    · rename_i up
      rw [if_pos]
      · refine assigned ?_
        simp only [State.assignedLoad, if_pos active, Load.add, Load.mk.injEq, and_true]
        omega
      · exact decide_eq_true (not_lt.mp fun past => budget ⟨active, up, past⟩)
    · refine assigned ?_
      simp only [State.assignedLoad, if_pos active, Load.drop, Load.mk.injEq, and_true]
      omega
  · rename_i parked
    refine assigned ?_
    rw [State.assignedLoad, if_neg (by rw [parked]; nofun), if_pos parked]
  all_goals
    rename_i other
    exact same (by rw [other]; nofun) (by rw [other]; nofun)

theorem serveAssign_overBudget (tree : (s.record k).tree = some t) (fails : s.overBudget t k n) :
    s.serveAssign l k n = s.answer l .overBudget (s.budgetData t) := by
  have treeNo : (s.record k).treeNo = t := by simp [DropRecord.treeNo, tree]
  obtain ⟨active, up, past⟩ := fails
  unfold State.serveAssign
  simp only [treeNo, active]
  rw [if_pos up, if_neg (by simpa [State.fits] using past)]

theorem exec_assignProfile_eq (h : s.Serves l .control) (low : n < 16) (known : (s.record k).state ≠ .vacant) :
    exec (.assignProfile l seq k n) s = .next ((s.asked l (.assignProfile l seq k n)).serveAssign l k n) := by
  show live s _ = _
  rw [live_out _ _ h.1.1, State.reqAssignProfile, request_serves _ _ _ _ _ h, withTag_mem _ _ _ _ (record_tag_range known),
    State.withProfile, if_pos low, State.needRecord, if_neg (by simpa using known)]

/-- What an accepted ASSIGN_PROFILE leaves, on the link answered OK. -/
theorem assigned_answer (tag : 1 ≤ k ∧ k ≤ 256) (l : LinkId) (status : Status) (data : ResponseData) :
    (s.assigned t k n).answer l status data = (s.answer l status data).assigned t k n := by
  unfold State.assigned
  rw [writeProfileOf_eq tag, writeProfileOf_eq tag]
  rfl

theorem assigned_effect {u : State} (tag : 1 ≤ k ∧ k ≤ 256) (own : s.assigned t k n = u) :
    u.record k = { s.record k with profile := n, provisioned := true, isOver := s.overWith k (s.profile n) } ∧
      (∀ j, j ≠ k → u.record j = s.record j) ∧ u.load t = s.assignedLoad t k n ∧ (∀ x, x ≠ t → u.load x = s.load x) ∧
      u = { s with
        records := u.records
        loads := u.loads
        mail := { s.mail with
          attention := s.mail.attention ++ allowanceReports (s.record k).isOver (s.overWith k (s.profile n)) } } := by
  rw [State.assigned, writeProfileOf_eq tag] at own
  subst own
  refine ⟨?_, fun j other => ?_, ?_, fun x other => ?_, rfl⟩
  · rw [modMail_record, modRecord_record, if_pos ⟨rfl, tag⟩]
    rfl
  · rw [modMail_record, modRecord_record, if_neg fun h => other h.1]
    rfl
  · rw [modMail_load, modRecord_load, modLoad_load_self]
  · rw [modMail_load, modRecord_load, modLoad_load, if_neg other]

end

/-! ### SET_PROFILE (R53, R177) -/

section
variable {s : State} {l : LinkId} {seq n : Nat}

theorem evalOver_record (s : State) (k j : Nat) : (s.evalOver k).record j =
    if j = k then { s.record j with isOver := s.overNow j } else s.record j := by
  rw [evalOver_eq, modMail_record, modRecord_record]
  by_cases own : j = k
  · subst own
    by_cases tag : 1 ≤ j ∧ j ≤ 256
    · rw [if_pos ⟨rfl, tag⟩, if_pos rfl]
    · have vacant : s.record j = .vacant := readAt_of_not_mem _ _ _ tag
      have live : (s.tally j).live.up = 0 := by rw [State.tally, readAt_of_not_mem _ _ _ tag]; rfl
      have flag : s.overNow j = false := by
        rw [overNow_eq, State.overWith, live]
        simp
      rw [if_neg fun h => tag h.2, if_pos rfl, flag, vacant]
      rfl
  · rw [if_neg fun h => own h.1, if_neg own]

/-- The over flags of several records, each evaluated as if it were the only one (R177). -/
theorem evalOvers_effect (ks : List Nat) : ∀ s : State, ∃ u records attention,
    ks.foldl (fun s k => s.evalOver k) s = u ∧
      u = { s with records := records, mail := { s.mail with attention := attention } } ∧
      ∀ j, u.record j = if j ∈ ks then { s.record j with isOver := s.overNow j } else s.record j := by
  induction ks with
  | nil => exact fun s => ⟨s, s.records, s.mail.attention, rfl, rfl, fun j => by simp⟩
  | cons k ks ih =>
    intro s
    obtain ⟨u, records, attention, own, shape, record⟩ := ih (s.evalOver k)
    have first := evalOver_eq s k
    refine ⟨u, records, attention, own, by rw [shape, first]; rfl, fun j => ?_⟩
    have flag : (s.evalOver k).overNow j = s.overNow j := by
      have profile : ((s.evalOver k).record j).profile = (s.record j).profile := by
        rw [evalOver_record]
        split <;> rfl
      rw [overNow_eq, overNow_eq, profile, first]
      rfl
    rw [record, flag, evalOver_record]
    by_cases here : j = k <;> by_cases later : j ∈ ks <;> simp [here, later]

theorem mem_namers_iff (s : State) (n k : Nat) :
    k ∈ (numbersWhere s.records fun _ r => r.profile == n) ↔ (1 ≤ k ∧ k ≤ 256) ∧ (s.record k).profile = n := by
  rw [mem_numbersWhere _ _ _ DropRecord.vacant, beq_iff_eq]
  rfl

theorem evalProfile_effect {u : State} (own : s.evalProfile n = u) :
    u = { s with records := u.records, mail := { s.mail with attention := u.mail.attention } } ∧
      ∀ k, u.record k = { s.record k with
        isOver := if (s.record k).profile = n then s.overWith k (s.profile n) else (s.record k).isOver } := by
  obtain ⟨v, records, attention, h, shape, record⟩ :=
    evalOvers_effect (numbersWhere s.records fun _ r => r.profile == n) s
  obtain rfl : v = u := h.symm.trans own
  refine ⟨by rw [shape], fun k => ?_⟩
  rw [record]
  by_cases named : (s.record k).profile = n
  · by_cases tag : 1 ≤ k ∧ k ≤ 256
    · rw [if_pos ((mem_namers_iff ..).mpr ⟨tag, named⟩), if_pos named, overNow_eq, named]
    · have vacant : s.record k = .vacant := readAt_of_not_mem _ _ _ tag
      have live : (s.tally k).live.up = 0 := by rw [State.tally, readAt_of_not_mem _ _ _ tag]; rfl
      rw [if_neg fun mem => tag ((mem_namers_iff ..).mp mem).1, if_pos named, State.overWith, live, vacant]
      simp [DropRecord.vacant]
  · rw [if_neg fun mem => named ((mem_namers_iff ..).mp mem).2, if_neg named]

/-- The six values of a profile after a SET_PROFILE (R53). -/
def profileAfter (q : Profile) (v : ProfileValues) : Profile where
  f := valueAfter 0 4000 v.f q.f
  a := valueAfter 0 4000 v.a q.a
  m := valueAfter 1 8000 v.m q.m
  w := valueAfter 1 15 v.w q.w
  mt := valueAfter 1 8000 v.mt q.mt
  q := valueAfter 0 65535 v.q q.q

/-- A value that a SET_PROFILE names was clamped (R53). -/
def profileClamped (v : ProfileValues) (p : Profile) : Prop :=
  ∃ x ∈ [(v.f, p.f), (v.a, p.a), (v.m, p.m), (v.w, p.w), (v.mt, p.mt), (v.q, p.q)], ∃ i, x.1 = some i ∧ x.2 ≠ i

theorem profile_set_eq (q : Profile) (v : ProfileValues) :
    (q.set v).1 = profileAfter q v ∧ ((q.set v).2 = true ↔ profileClamped v (profileAfter q v)) := by
  refine ⟨?_, ?_⟩
  · simp only [Profile.set, profileAfter, named_eq_valueAfter _ _ _ _ (Nat.zero_le _),
      named_eq_valueAfter 1 8000 _ _ (by decide), named_eq_valueAfter 1 15 _ _ (by decide)]
  · simp only [Profile.set, Bool.or_eq_true, profileClamped, List.exists_mem_cons_iff, List.not_mem_nil, false_and,
      exists_false, or_false, profileAfter, or_assoc]
    rw [outside_iff_changed 0 4000 v.f q.f, outside_iff_changed 0 4000 v.a q.a, outside_iff_changed 1 8000 v.m q.m,
      outside_iff_changed 1 15 v.w q.w, outside_iff_changed 1 8000 v.mt q.mt, outside_iff_changed 0 65535 v.q q.q]

theorem exec_setProfile_eq {v : ProfileValues} (h : s.Serves l .control) (low : n < 16) :
    exec (.setProfile l seq n v) s = .next ((s.asked l (.setProfile l seq n v)).serveSetProfile l n v) := by
  show live s _ = _
  rw [live_out _ _ h.1.1, State.reqSetProfile, request_serves _ _ _ _ _ h, State.withProfile, if_pos low]

theorem emptyProfile_iff (v : ProfileValues) : emptySelection v.toList = true ↔ v = {} := by
  cases v
  simp [emptySelection, ProfileValues.toList]

/-- A tree fails the budget check of a SET_PROFILE (R53). -/
def State.failsBudget (s : State) (n : Nat) (p : Profile) (t : Tree) : Prop :=
  (s.load t).committed < s.loadWith t n p ∧ (s.engine t).params.k < s.loadWith t n p + (s.load t).release

theorem budgetPasses_iff (p : Profile) (t : Tree) : s.budgetPasses n p t = true ↔ ¬ s.failsBudget n p t := by
  simp only [State.budgetPasses, State.failsBudget, Bool.or_eq_true, decide_eq_true_eq]
  omega

theorem allTrees_split (t : Tree) : ∃ pre post, allTrees = pre ++ t :: post ∧ ∀ x ∈ pre, x < t :=
  match t with
  | 0 => ⟨[], [1, 2, 3], rfl, by decide⟩
  | 1 => ⟨[0], [2, 3], rfl, by decide⟩
  | 2 => ⟨[0, 1], [3], rfl, by decide⟩
  | 3 => ⟨[0, 1, 2], [], rfl, by decide⟩

theorem serveSetProfile_overBudget {v : ProfileValues} {t : Tree} (some : v ≠ {})
    (fails : s.failsBudget n (profileAfter (s.profile n) v) t)
    (least : ∀ x, x < t → ¬ s.failsBudget n (profileAfter (s.profile n) v) x) :
    s.serveSetProfile l n v = s.answer l .overBudget (s.budgetData t) := by
  have first : (allTrees.find? fun t => !s.budgetPasses n (profileAfter (s.profile n) v) t) = Option.some t := by
    obtain ⟨pre, post, trees, before⟩ := allTrees_split t
    have failing : (!s.budgetPasses n (profileAfter (s.profile n) v) t) = true := by
      rw [Bool.not_eq_true', Bool.eq_false_iff, Ne, budgetPasses_iff]
      exact not_not.mpr fails
    rw [trees, List.find?_append, List.find?_eq_none.mpr fun x hx => by
      rw [Bool.not_eq_true, Bool.not_eq_false', budgetPasses_iff]
      exact least x (before x hx), List.find?_cons, failing]
    rfl
  unfold State.serveSetProfile
  rw [if_neg fun empty => some ((emptyProfile_iff v).mp empty)]
  simp only [(profile_set_eq ..).1, first]

theorem serveSetProfile_taken {v : ProfileValues} (some : v ≠ {})
    (pass : ∀ t, ¬ s.failsBudget n (profileAfter (s.profile n) v) t) :
    s.serveSetProfile l n v = ((s.reprofiled n (profileAfter (s.profile n) v)).evalProfile n).answer l
      (if ((s.profile n).set v).2 then .okAdjusted else .ok) (.profile (profileAfter (s.profile n) v)) := by
  have none : (allTrees.find? fun t => !s.budgetPasses n (profileAfter (s.profile n) v) t) = Option.none := by
    refine List.find?_eq_none.mpr fun t _ => ?_
    rw [Bool.not_eq_true, Bool.not_eq_false', budgetPasses_iff]
    exact pass t
  unfold State.serveSetProfile
  rw [if_neg fun empty => some ((emptyProfile_iff v).mp empty)]
  simp only [(profile_set_eq ..).1, none]
  rfl

end

/-- What a SET_PROFILE that passes leaves, with its link answered (R53, R177). -/
theorem reprofiled_effect {s u : State} {l : LinkId} {n : Nat} {p : Profile} {status : Status} {data : ResponseData}
    (low : n < 16) (own : ((s.reprofiled n p).evalProfile n).answer l status data = u) :
    u.profile n = p ∧ (∀ m, m ≠ n → u.profile m = s.profile m) ∧ (∀ t, u.load t = s.loadAfter n p t) ∧
      (∀ k, u.record k = { s.record k with
        isOver := if (s.record k).profile = n then s.overWith k p else (s.record k).isOver }) ∧
      u = { s.answer l status data with
        profiles := u.profiles
        loads := u.loads
        records := u.records
        mail := { s.mail with attention := u.mail.attention } } := by
  obtain ⟨loads, profiles, written⟩ := reprofiled_shape s n p
  obtain ⟨shape, record⟩ := evalProfile_effect (s := s.reprofiled n p) (n := n) rfl
  have profile (m : Nat) : u.profile m = if m = n then p else s.profile m := by
    rw [← own, ← reprofiled_profile s p low, shape]
    rfl
  refine ⟨by rw [profile, if_pos rfl], fun m other => by rw [profile, if_neg other], fun t => ?_, fun k => ?_, ?_⟩
  · rw [← own, ← reprofiled_load, shape]
    rfl
  · have before (j : Nat) : (s.reprofiled n p).record j = s.record j := by rw [written]; rfl
    have flag : (s.reprofiled n p).overWith k p = s.overWith k p := by rw [written]; rfl
    have one := record k
    rw [before, reprofiled_profile s p low, if_pos rfl, flag] at one
    exact own ▸ one
  · rw [← own, shape, written]
    rfl

/-- Settles O39: each request by its refusals, and by what it leaves where it is taken. -/
theorem profileChangesAreTestedAgainstTheBudget : Obligations.ProfileChangesAreTestedAgainstTheBudget := by
  refine ⟨fun l seq k n t s h low known tree => ?_, fun l seq n v s h low => ?_⟩
  · have tag := record_tag_range known
    have answered (status : Status) (data : ResponseData) :
        (s.asked l (.assignProfile l seq k n)).answer l status data = s.served l 7 seq status data := asked_answer ..
    intro r old new isOver loadAfter
    refine ⟨fun retired => ?_, fun active up past => ?_, fun kept budget => ?_⟩
    · rw [exec_assignProfile_eq h low known, State.serveAssign, asked_record,
        show (s.record k).state = .retired from retired]
      exact congrArg _ (answered ..)
    · rw [exec_assignProfile_eq h low known,
        serveAssign_overBudget (s := s.asked l (.assignProfile l seq k n)) tree ⟨active, up, past⟩, answered]
      rfl
    · have pass : ¬ (s.asked l (.assignProfile l seq k n)).overBudget t k n := fun ⟨active, up, past⟩ =>
        absurd past (not_lt.mpr (budget active up))
      obtain ⟨record, others, load, loads, shape⟩ :=
        assigned_effect (s := s.served l 7 seq .ok .none) (t := t) (n := n) tag rfl
      refine ⟨(s.served l 7 seq .ok .none).assigned t k n, ?_, record, others, load, loads, shape⟩
      rw [exec_assignProfile_eq h low known,
        serveAssign_taken (s := s.asked l (.assignProfile l seq k n)) tree kept pass, assigned_answer tag, answered]
  · have answered (status : Status) (data : ResponseData) :
        (s.asked l (.setProfile l seq n v)).answer l status data = s.served l 11 seq status data := asked_answer ..
    intro q p newLoad fails
    have after : profileAfter q v = p := rfl
    refine ⟨fun empty => ?_, fun t some fail least => ?_, fun some pass => ?_⟩
    · rw [exec_setProfile_eq h low, State.serveSetProfile, if_pos ((emptyProfile_iff v).mpr empty), answered]
    · rw [exec_setProfile_eq h low,
        serveSetProfile_overBudget (s := s.asked l (.setProfile l seq n v)) some fail least, answered]
      rfl
    · have taken := serveSetProfile_taken (s := s.asked l (.setProfile l seq n v)) (l := l) some pass
      obtain ⟨profile, others, load, record, shape⟩ := reprofiled_effect low taken.symm
      refine ⟨_, _, exec_setProfile_eq h low, ?_, ?_, profile, others, load, record, answered .. ▸ shape⟩
      · refine Iff.trans ?_ (profile_set_eq q v).2
        show (if (q.set v).2 = true then Status.okAdjusted else Status.ok) = .okAdjusted ↔ (q.set v).2 = true
        cases (q.set v).2 <;> decide
      · split <;> simp

end Sys2Proof.Machine

/-! ## RERANGE and RESTORE (R61, R63, R103, R193) -/

namespace Sys2Proof.Machine

/-! ### What leaves a state with no queue and no kept directive (R43) -/

section
variable {s : State} {l : LinkId} {seq k : Nat} {t : Tree}

theorem treeNo_of_tree {r : DropRecord} (tree : r.tree = some t) : r.treeNo = t := by
  rw [DropRecord.treeNo, tree, Option.getD_some]

/-- A record of these states leaves nothing behind but the load it holds (R43). -/
theorem leaving_of_unqueued {new : RecState} (queue : (s.record k).state ∉ [RecState.announced, .ranging, .suspended]) :
    s.leaving k new = s.leaveActive k new := by
  simp only [List.mem_cons, List.not_mem_nil, or_false, not_or] at queue
  obtain ⟨announced, ranging, suspended⟩ := queue
  have record : (s.leaveActive k new).record k = s.record k := by
    obtain ⟨_, h⟩ := leaveActive_shape s k new
    rw [h]
    rfl
  have still : (s.leaveActive k new).leaveQueue k new = s.leaveActive k new := by
    unfold State.leaveQueue
    dsimp only
    rw [record]
    exact if_neg fun both => both.1.elim announced ranging
  rw [State.leaving, still, State.leaveSuspended, record, if_neg suspended]

theorem leaving_of_settled {new : RecState}
    (state : (s.record k).state ∉ [RecState.active, .announced, .ranging, .suspended]) : s.leaving k new = s := by
  simp only [List.mem_cons, List.not_mem_nil, or_false, not_or] at state
  obtain ⟨active, announced, ranging, suspended⟩ := state
  rw [leaving_of_unqueued (by simp [announced, ranging, suspended]), State.leaveActive, if_neg fun both => active both.1]

/-! ### RERANGE (R61) -/

/-- The load of a tree once its record `k` has left ACTIVE, if it was in it (R43). -/
def State.loadWithout (s : State) (t : Tree) (k : Nat) : Load :=
  if (s.record k).state = .active then (s.load t).drop (s.loadOf k) else s.load t

/-- A served record sent back to ranging (R61, R81). -/
def State.reranged (s : State) (t : Tree) (k : Nat) : State :=
  (((s.modLoad t fun _ => s.loadWithout t k).modRecord k fun r =>
    { r with state := .announced, rangeAttempts := 0, offer := .none }).modEnrol t (·.enqueue k)).reportChange k
      (s.record k).state .announced true

theorem serveRerange_eq (tree : (s.record k).tree = some t)
    (state : (s.record k).state = .active ∨ (s.record k).state = .parked) :
    s.serveRerange l k = (s.answer l .ok .none).reranged t k := by
  have served : (s.record k).state ∉ [RecState.announced, .ranging, .suspended] := by
    rcases state with h | h <;> rw [h] <;> decide
  have other : (s.record k).state ≠ .announced := fun h => served (by rw [h]; decide)
  have left : s.leaving k .announced = s.modLoad t fun _ => s.loadWithout t k := by
    rw [leaving_of_unqueued served, leaveActive_announced tree]
    exact modLoad_congr (by rfl)
  have written := modRecord_modRecord (s.modLoad t fun _ => s.loadWithout t k) k (·.enter .announced)
    fun r => { r with offer := .none }
  rw [State.serveRerange, if_pos state, changeState_eq true other, treeNo_of_tree tree, left]
  exact congrArg (fun u : State => ((u.modEnrol t (·.enqueue k)).reportChange k (s.record k).state .announced true).answer l
    .ok .none) written

theorem exec_rerange_eq (h : s.Serves l .control) (known : (s.record k).state ≠ .vacant) :
    exec (.rerange l seq k) s = .next ((s.asked l (.rerange l seq k)).serveRerange l k) := by
  show live s _ = _
  rw [live_out _ _ h.1.1, State.reqRerange, request_serves _ _ _ _ _ h, withTag_mem _ _ _ _ (record_tag_range known),
    State.needRecord, if_neg (by simpa using known)]

theorem samples_met (s : State) (k : Nat) :
    (if (s.record k).state = .active then s.mail.samples.map (·.meet k) else s.mail.samples) =
      s.mail.samples.map fun y => if (s.record k).state = .active ∧ y.tag = k then { y with met := true } else y := by
  by_cases active : (s.record k).state = .active <;> simp [active, SampleReport.meet]

theorem reranged_effect {u : State} (tag : 1 ≤ k ∧ k ≤ 256) (own : s.reranged t k = u) :
    u.record k = { s.record k with state := .announced, rangeAttempts := 0, offer := .none } ∧
      (∀ j, j ≠ k → u.record j = s.record j) ∧ u.enrol t = (s.enrol t).enqueue k ∧ (∀ x, x ≠ t → u.enrol x = s.enrol x) ∧
      (∀ x, u.load x = if x = t then s.loadWithout t k else s.load x) ∧
      u = { s with
        records := u.records
        enrols := u.enrols
        loads := u.loads
        mail := { s.mail with
          changes := s.mail.changes ++ [⟨k, (s.record k).state, .announced⟩]
          attention := s.mail.attention ++ [.change k (s.record k).state .announced true]
          samples := s.mail.samples.map fun y =>
            if (s.record k).state = .active ∧ y.tag = k then { y with met := true } else y } } := by
  rw [← samples_met]
  subst own
  have record (j : Nat) := modRecord_record (s.modLoad t fun _ => s.loadWithout t k) k j
    fun r => { r with state := .announced, rangeAttempts := 0, offer := .none }
  have enrol (x : Tree) := modEnrol_enrol s t x (·.enqueue k)
  refine ⟨(record k).trans (if_pos ⟨rfl, tag⟩), fun j other => (record j).trans (if_neg fun h => other h.1),
    (enrol t).trans (if_pos rfl), fun x other => (enrol x).trans (if_neg other),
    fun x => modLoad_load s t x fun _ => s.loadWithout t k, rfl⟩

/-! ### RESTORE (R63, R193) -/

theorem isRestore_iff (k : Nat) (x : Kept) : Kept.isRestore k x = true ↔ ∃ m, x.entry = ⟨.shutLift k, .restore m⟩ := by
  obtain ⟨t, ⟨dir, origin⟩, due⟩ := x
  cases origin <;> cases dir <;> simp [Kept.isRestore, Directive.isShutLift]

theorem exec_restore_eq (h : s.Serves l .control) (known : (s.record k).state ≠ .vacant) :
    exec (.restore l seq k) s = .next ((s.asked l (.restore l seq k)).serveRestore l k) := by
  show live s _ = _
  rw [live_out _ _ h.1.1, State.reqRestore, request_serves _ _ _ _ _ h, withTag_mem _ _ _ _ (record_tag_range known),
    State.needRecord, if_neg (by simpa using known)]

/-- A producer keeps no directive for a tree (R16). -/
def State.KeepsNone (s : State) (t : Tree) (p : Producer) : Prop :=
  ∀ x ∈ s.kept, x.tree = t → x.entry.origin.producer ≠ p

theorem retryDue_of_keepsNone {p : Producer} (none : s.KeepsNone t p) : s.retryDue t p = false := by
  rw [Bool.eq_false_iff, Ne, retryDue_iff]
  exact fun ⟨x, hx, tree, producer, _⟩ => none x hx tree producer

/-- A DEPART offered for a tree for which the roster keeps nothing (R16, R62). -/
theorem offerDepart_of_keepsNone {origin : Origin} (enabled : (s.engine t).state ≠ .disabled)
    (roster : origin.producer = .roster) (none : s.KeepsNone t .roster) : s.offerDepart t k origin =
      if (s.engine t).normal.length < 32 then
        s.modEngine t fun e => { e with normal := e.normal ++ [⟨.depart k, origin⟩] }
      else { s with kept := s.kept ++ [⟨t, ⟨.depart k, origin⟩, false⟩] } := by
  have idle : (s.kept.any fun y => y.tree == t && y.entry.origin.producer == origin.producer) = false := by
    rw [List.any_eq_false]
    intro x hx both
    simp only [Bool.and_eq_true, beq_iff_eq, roster] at both
    exact none x hx both.1 both.2
  have full : (s.engine t).laneFull (.depart k) = true ↔ ¬ (s.engine t).normal.length < 32 := by
    rw [laneFull_iff]
    simp [Directive.urgent]
  have notHunt : origin ≠ .huntRound := fun h => by rw [h] at roster; cases roster
  unfold State.offerDepart State.laneAnswer
  rw [if_neg enabled, idle, Bool.or_false]
  by_cases room : (s.engine t).normal.length < 32
  · rw [if_neg fun h => full.mp h room, if_pos room]
    rfl
  · rw [if_pos (full.mpr room), if_neg room]
    show s.keep t ⟨.depart k, origin⟩ = _
    rw [State.keep, if_neg notHunt, roster, retryDue_of_keepsNone none]

/-- The record of an accepted RESTORE (R63). -/
def State.restored (s : State) (k : Nat) : State :=
  (s.modRecord k fun r => { r with state := .suspended, strikes := 0, cleanRun := 0 }).reportChange k .rogue .suspended true

theorem restoreAccepted_eq (rogue : (s.record k).state = .rogue) :
    s.restoreAccepted t k = (s.restored k).offerDepart t k .departSuspend := by
  have written := modRecord_modRecord s k (·.enter .suspended) fun r => { r with strikes := 0, cleanRun := 0 }
  rw [State.restoreAccepted, if_pos rogue, changeState_eq true (by rw [rogue]; decide),
    leaving_of_settled (by rw [rogue]; decide), rogue]
  exact congrArg (fun u : State => (u.reportChange k .rogue .suspended true).offerDepart t k .departSuspend) written

/-- What an accepted RESTORE adds to a normal lane of `n` directives (R63, R103). -/
def restoreEntries (l : LinkId) (k n : Nat) : List LaneEntry :=
  ⟨.shutLift k, .restore l⟩ :: if n + 1 < 32 then [⟨.depart k, .departSuspend⟩] else []

/-- An accepted RESTORE, with room for its DEPART in the lane or not (R63, R103). -/
theorem restored_of_room (rogue : (s.record k).state = .rogue) (enabled : (s.engine t).state ≠ .disabled)
    (none : s.KeepsNone t .roster) : s.acceptEntry t ⟨.shutLift k, .restore l⟩ =
      { (((s.answer l .ok .none).restored k).modEngine t fun e =>
          { e with normal := e.normal ++ restoreEntries l k e.normal.length }) with
        kept := s.kept ++
          if (s.engine t).normal.length + 1 < 32 then [] else [⟨t, ⟨.depart k, .departSuspend⟩, false⟩] } := by
  let pushed (e : Engine) : Engine := { e with normal := e.normal ++ [⟨.shutLift k, .restore l⟩] }
  let filled (e : Engine) : Engine := { e with normal := e.normal ++ restoreEntries l k e.normal.length }
  let u := (s.answer l .ok .none).restored k
  have engine : u.engine t = s.engine t := rfl
  have length : (((s.modEngine t pushed).restored k).engine t).normal.length = (s.engine t).normal.length + 1 := by
    show ((s.modEngine t pushed).engine t).normal.length = _
    rw [modEngine_engine_self]
    exact List.length_append
  have departs := offerDepart_of_keepsNone (s := (s.modEngine t pushed).restored k) (t := t) (k := k)
    (origin := .departSuspend) (by
      show ((s.modEngine t pushed).engine t).state ≠ .disabled
      rw [modEngine_engine_self]
      exact enabled) rfl none
  have whole : s.acceptEntry t ⟨.shutLift k, .restore l⟩ =
      (((s.modEngine t pushed).restored k).offerDepart t k .departSuspend).answer l .ok .none :=
    congrArg (fun u : State => u.answer l .ok .none) (restoreAccepted_eq (s := s.modEngine t pushed) rogue)
  rw [whole, departs, length]
  by_cases room : (s.engine t).normal.length + 1 < 32
  · have lane : (u.modEngine t pushed).modEngine t
        (fun e => { e with normal := e.normal ++ [⟨.depart k, .departSuspend⟩] }) = u.modEngine t filled := by
      rw [modEngine_modEngine]
      refine modEngine_congr ?_
      simp only [pushed, filled, engine, restoreEntries, if_pos room, List.append_assoc, List.singleton_append]
    rw [if_pos room, if_pos room, List.append_nil]
    exact lane
  · have lane : u.modEngine t pushed = u.modEngine t filled := by
      refine modEngine_congr ?_
      simp only [pushed, filled, engine, restoreEntries, if_neg room]
    rw [if_neg room, if_neg room]
    exact congrArg (fun u : State => { u with kept := s.kept ++ [(⟨t, ⟨.depart k, .departSuspend⟩, false⟩ : Kept)] }) lane

theorem laneBlocked_roster {origin : Origin} {d : Directive} (roster : origin.producer = .roster)
    (normal : d.urgent = false) : s.laneBlocked t ⟨d, origin⟩ ↔
      32 ≤ (s.engine t).normal.length ∨ ∃ x ∈ s.kept, x.tree = t ∧ x.entry.origin.producer = .roster := by
  simp [State.laneBlocked, laneFull_iff, normal, roster]

end

/-- Settles O41: RERANGE by the state it finds; RESTORE refused, kept, or accepted with its DEPART. -/
theorem rerangeAndRestoreBringAHomeBack : Obligations.RerangeAndRestoreBringAHomeBack := by
  refine ⟨fun l seq k t s h tree => ⟨fun state => ?_, fun state => ?_⟩, fun l seq k t s h known tree => ?_⟩
  · have known : (s.record k).state ≠ .vacant := by rcases state with h | h <;> rw [h] <;> decide
    have answered : (s.asked l (.rerange l seq k)).answer l .ok .none = s.served l 9 seq .ok .none := asked_answer ..
    obtain ⟨record, others, queue, queues, load, shape⟩ :=
      reranged_effect (s := s.served l 9 seq .ok .none) (t := t) (record_tag_range known) rfl
    refine ⟨(s.served l 9 seq .ok .none).reranged t k, ?_, record, others, queue, queues, fun x => ?_, shape⟩
    · rw [exec_rerange_eq h known, serveRerange_eq (s := s.asked l (.rerange l seq k)) tree state, answered]
    · rw [load]
      by_cases here : x = t
      · subst here
        simp only [if_true, true_and]
        rfl
      · simp [here]
        rfl
  · simp only [List.mem_cons, List.not_mem_nil, or_false, not_or] at state
    obtain ⟨known, active, parked⟩ := state
    have answered : (s.asked l (.rerange l seq k)).answer l .state .none = s.served l 9 seq .state .none := asked_answer ..
    rw [exec_rerange_eq h known, State.serveRerange, asked_record, if_neg (not_or.mpr ⟨active, parked⟩), answered]
  · have answered (status : Status) (data : ResponseData) :
        (s.asked l (.restore l seq k)).answer l status data = s.served l 10 seq status data := asked_answer ..
    have treeNo := treeNo_of_tree tree
    intro waiting
    have refused : (s.kept.any (Kept.isRestore k) = true) ↔ waiting := by
      rw [List.any_eq_true]
      exact exists_congr fun x => and_congr_right fun _ => isRestore_iff k x
    have offered (rogue : (s.record k).state = .rogue) (enabled : (s.engine t).state ≠ .disabled) (none : ¬ waiting) :
        exec (.restore l seq k) s = .next ((s.asked l (.restore l seq k)).offer t ⟨.shutLift k, .restore l⟩) := by
      rw [exec_restore_eq h known, State.serveRestore]
      simp only [asked_record, asked_engine, asked_kept, treeNo, refused]
      rw [if_neg (by simp [rogue, enabled, none])]
    refine ⟨fun refuses => ?_, fun rogue enabled none full => ?_, fun rogue enabled room idle none => ?_⟩
    · rw [exec_restore_eq h known, State.serveRestore]
      simp only [asked_record, asked_engine, asked_kept, treeNo, refused]
      rw [if_pos refuses, answered]
    · rw [offered rogue enabled none, offer_full (s.asked l (.restore l seq k)) t _ enabled
        ((laneBlocked_roster (by rfl) (by rfl)).mpr full)]
      rfl
    · have free : ¬ (s.asked l (.restore l seq k)).laneBlocked t ⟨.shutLift k, .restore l⟩ := by
        rw [laneBlocked_roster (by rfl) (by rfl)]
        rintro (full | ⟨x, hx, own, roster⟩)
        · exact absurd room (not_lt.mpr full)
        · exact idle x hx own roster
      refine ⟨_, offered rogue enabled none, ?_⟩
      rw [offer_accepted (s.asked l (.restore l seq k)) t _ enabled free,
        restored_of_room (s := s.asked l (.restore l seq k)) rogue enabled idle, answered]
      have record (j : Nat) := modRecord_record s k j fun r => { r with state := .suspended, strikes := 0, cleanRun := 0 }
      exact ⟨(record k).trans (if_pos ⟨rfl, record_tag_range known⟩),
        fun j other => (record j).trans (if_neg fun own => other own.1), rfl⟩

end Sys2Proof.Machine

/-! ## RETIRE (R43, R45, R60, R62, R63) -/

namespace Sys2Proof.Machine

/-! ### A record withdrawn -/

section
variable {s : State} {l m : LinkId} {seq k : Nat} {t : Tree} {new : RecState} {f : Link → Link}

/-- A record leaves the lookup, its home told so (R60, R62). -/
def State.dismissed (s : State) (k : Nat) (new : RecState) : State :=
  if (s.record k).state.departs ∧ (s.engine (s.record k).treeNo).state ≠ .disabled then
    (s.changeState k new true).offerDepart (s.record k).treeNo k .departRetire
  else s.changeState k new true

theorem withdraw_eq (s : State) (k : Nat) (new : RecState) : s.withdraw k new = (s.endRestore k).dismissed k new := by
  obtain ⟨links, kept, ended⟩ := endRestore_shape s k
  have record : (s.endRestore k).record k = s.record k := by rw [ended]; rfl
  have engine (t : Tree) : (s.endRestore k).engine t = s.engine t := by rw [ended]; rfl
  have changed (t : Tree) : ((s.endRestore k).changeState k new true).engine t = s.engine t :=
    (engine_congr (changeState_engines _ k new true) t).trans (engine t)
  unfold State.withdraw State.dismissed
  simp only [record, engine, changed]

/-- Where no RESTORE of the record is kept, none ends (R63). -/
theorem endRestore_of_none (none : ∀ x ∈ s.kept, ¬ Kept.isRestore k x = true) : s.endRestore k = s := by
  have empty : s.kept.filter (Kept.isRestore k) = [] := List.filter_eq_nil_iff.mpr none
  have whole : s.dropKept (Kept.isRestore k) = s := by
    have all : s.kept.filter (fun x => !Kept.isRestore k x) = s.kept :=
      List.filter_eq_self.mpr fun x hx => by simpa using none x hx
    rw [State.dropKept, all]
  unfold State.endRestore
  rw [empty, whole]
  rfl

/-! ### Links are not read by a state change -/

theorem leaving_modLink : (s.modLink m f).leaving k new = (s.leaving k new).modLink m f := by
  have active (s : State) : (s.modLink m f).leaveActive k new = (s.leaveActive k new).modLink m f := by
    unfold State.leaveActive
    rw [apply_ite (State.modLink · m f)]
    rfl
  have queue (s : State) : (s.modLink m f).leaveQueue k new = (s.leaveQueue k new).modLink m f := by
    unfold State.leaveQueue
    dsimp only
    rw [apply_ite (State.modLink · m f), apply_ite (State.modLink · m f)]
    rfl
  have suspended (s : State) : (s.modLink m f).leaveSuspended k = (s.leaveSuspended k).modLink m f := by
    unfold State.leaveSuspended
    rw [apply_ite (State.modLink · m f)]
    rfl
  rw [State.leaving, active, queue, suspended, State.leaving]

theorem enterState_modLink : (s.modLink m f).enterState t k new = (s.enterState t k new).modLink m f := by
  cases new <;> rfl

theorem changeState_modLink (byRequest : Bool) :
    (s.modLink m f).changeState k new byRequest = (s.changeState k new byRequest).modLink m f := by
  by_cases same : (s.record k).state = new
  · subst same
    exact (changeState_same (s.modLink m f) k byRequest).trans
      (congrArg (State.modLink · m f) (changeState_same s k byRequest).symm)
  · rw [changeState_eq byRequest same, changeState_eq (s := s.modLink m f) byRequest same, leaving_modLink]
    exact congrArg (State.reportChange · k (s.record k).state new byRequest)
      (enterState_modLink (s := (s.leaving k new).modRecord k (·.enter new)))

theorem offerDepart_modLink (origin : Origin) :
    (s.modLink m f).offerDepart t k origin = (s.offerDepart t k origin).modLink m f := by
  have keep : (s.modLink m f).keep t ⟨.depart k, origin⟩ = (s.keep t ⟨.depart k, origin⟩).modLink m f := by
    unfold State.keep
    dsimp only
    rw [apply_ite (State.modLink · m f)]
    rfl
  unfold State.offerDepart
  rw [show (s.modLink m f).laneAnswer t ⟨.depart k, origin⟩ = s.laneAnswer t ⟨.depart k, origin⟩ from rfl]
  cases s.laneAnswer t ⟨.depart k, origin⟩ with
  | accepted => rfl
  | full => exact keep
  | notAccepted => rfl

theorem dismissed_modLink : (s.modLink m f).dismissed k new = (s.dismissed k new).modLink m f := by
  unfold State.dismissed
  rw [apply_ite (State.modLink · m f), changeState_modLink, offerDepart_modLink]
  rfl

/-! ### What a withdrawn record leaves -/

theorem offerDepart_roster_shape {origin : Origin} (notHunt : origin ≠ .huntRound) :
    ∃ engines kept, s.offerDepart t k origin = { s with engines := engines, kept := kept } := by
  unfold State.offerDepart
  split
  · exact ⟨_, s.kept, rfl⟩
  · exact ⟨s.engines, _, if_neg notHunt⟩
  · exact ⟨s.engines, s.kept, rfl⟩

theorem offerDepart_joins (origin : Origin) (enabled : (s.engine t).state ≠ .disabled) :
    ((s.offerDepart t k origin).engine t).normal = (s.engine t).normal ++ [⟨.depart k, origin⟩] ∨
      ∃ due, ⟨t, ⟨.depart k, origin⟩, due⟩ ∈ (s.offerDepart t k origin).kept := by
  unfold State.offerDepart
  split
  · exact .inl (congrArg Engine.normal (modEngine_engine_self s t (·.push ⟨.depart k, origin⟩)))
  · refine .inr ⟨s.retryDue t origin.producer, ?_⟩
    rw [keep_kept]
    exact List.mem_append_right _ (List.mem_singleton_self _)
  · rename_i refused
    unfold State.laneAnswer at refused
    rw [if_neg enabled] at refused
    split at refused <;> cases refused

theorem dismissed_shape : ∃ engines kept,
    s.dismissed k new = { s.changeState k new true with engines := engines, kept := kept } := by
  unfold State.dismissed
  split
  · exact offerDepart_roster_shape (by decide)
  · exact ⟨_, _, rfl⟩

theorem leaving_load (tree : (s.record k).tree = some t) (inactive : new ≠ .active) :
    (s.leaving k new).load t = s.loadWithout t k := by
  have same : (s.leaving k new).load t = (s.leaveActive k new).load t := by
    obtain ⟨_, _, queue⟩ := leaveQueue_shape (s.leaveActive k new) k new
    obtain ⟨_, suspended⟩ := leaveSuspended_shape ((s.leaveActive k new).leaveQueue k new) k
    rw [State.leaving, suspended, queue]
    rfl
  rw [same, State.leaveActive, State.loadWithout, treeNo_of_tree tree]
  by_cases active : (s.record k).state = .active
  · rw [if_pos ⟨active, inactive⟩, if_pos active, modLoad_load_self]
  · rw [if_neg fun both => active both.1, if_neg active]

theorem leaving_dequeues (tree : (s.record k).tree = some t) (queued : (s.record k).state ∈ [RecState.announced, .ranging])
    (other : new ≠ .ranging) : k ∉ ((s.leaving k new).enrol t).queue := by
  obtain ⟨_, active⟩ := leaveActive_shape s k new
  obtain ⟨_, suspended⟩ := leaveSuspended_shape ((s.leaveActive k new).leaveQueue k new) k
  have record : (s.leaveActive k new).record k = s.record k := by rw [active]; rfl
  have state : (s.record k).state = .announced ∨ (s.record k).state = .ranging := by simpa using queued
  have same : (s.leaving k new).enrol t = ((s.leaveActive k new).leaveQueue k new).enrol t := by
    rw [State.leaving, suspended]
    rfl
  rw [same]
  unfold State.leaveQueue
  dsimp only
  rw [record, if_pos ⟨state, other⟩, treeNo_of_tree tree]
  split
  · rw [dropKept_enrol, modEnrol_enrol_self]
    simp
  · rw [modEnrol_enrol_self]
    simp

theorem enterState_withdrawn_shape (withdrawn : new = .vacant ∨ new = .retired) :
    ∃ kept trackers tallies mail, s.enterState t k new =
      { s with kept := kept, trackers := trackers, tallies := tallies, mail := mail } := by
  rcases withdrawn with rfl | rfl
  · exact ⟨_, _, _, _, rfl⟩
  · exact ⟨_, s.trackers, s.tallies, s.mail, rfl⟩

/-- A state change to RETIRED or VACANT leaves the loads and queues as the record's departure from its state left them. -/
theorem changeState_withdrawn (withdrawn : new = .vacant ∨ new = .retired) (other : (s.record k).state ≠ new) :
    (s.changeState k new true).loads = (s.leaving k new).loads ∧
      (s.changeState k new true).enrols = (s.leaving k new).enrols := by
  obtain ⟨_, _, _, _, entered⟩ := enterState_withdrawn_shape (s := (s.leaving k new).modRecord k (·.enter new))
    (t := (s.record k).treeNo) (k := k) withdrawn
  rw [changeState_eq true other, entered]
  exact ⟨rfl, rfl⟩

theorem samples_released (xs : List SampleReport) (k : Nat) :
    (xs.filter (·.tag != k)).map (·.meet k) = xs.filter (·.tag != k) := by
  refine (List.map_congr_left fun x hx => ?_).trans (List.map_id' _)
  exact if_neg (by simpa using (List.mem_filter.mp hx).2)

/-- The reports in flight after a record became VACANT (R36, R42, R45). -/
theorem changeState_vacant_mail (other : (s.record k).state ≠ .vacant) :
    let mail := (s.changeState k .vacant true).mail
    mail.attention = s.mail.attention ++ [.change k (s.record k).state .vacant true] ∧
      mail.valids = s.mail.valids.filter (·.tag != k) ∧ mail.misses = s.mail.misses.filter (·.tag != k) ∧
      mail.samples = s.mail.samples.filter (·.tag != k) ∧ mail.ups = s.mail.ups.filter (·.tag != k) ∧
      mail.downs = s.mail.downs.filter (·.tag != k) ∧ mail.cleans = s.mail.cleans.filter (·.tag != k) ∧
      mail.dispatches = s.mail.dispatches.filter (·.tag != k) := by
  intro mail
  obtain ⟨_, _, _, left⟩ := leaving_shape s k .vacant
  have whole : mail = _ := congrArg State.mail (changeState_eq true other)
  rw [left] at whole
  have samples : (if (s.record k).state = .active then (s.mail.samples.filter (·.tag != k)).map (·.meet k)
      else s.mail.samples.filter (·.tag != k)) = s.mail.samples.filter (·.tag != k) := by
    rw [samples_released, ite_self]
  rw [whole]
  exact ⟨rfl, rfl, rfl, samples, rfl, rfl, rfl, rfl⟩

theorem changeState_retired_mail (other : (s.record k).state ≠ .retired) :
    (s.changeState k .retired true).mail.attention = s.mail.attention ++ [.change k (s.record k).state .retired true] := by
  obtain ⟨_, _, _, left⟩ := leaving_shape s k .retired
  rw [changeState_eq true other, left]
  rfl

/-- The tally sets after a record became VACANT (R170). -/
theorem changeState_vacant_tally (other : (s.record k).state ≠ .vacant) (j : Nat) :
    (s.changeState k .vacant true).tally j = if j = k ∧ 1 ≤ k ∧ k ≤ 256 then .reset else s.tally j := by
  obtain ⟨_, _, _, left⟩ := leaving_shape s k .vacant
  rw [changeState_eq true other, left]
  exact modTally_tally s k j fun _ => .reset

theorem changeState_retired_tally (other : (s.record k).state ≠ .retired) (j : Nat) :
    (s.changeState k .retired true).tally j = s.tally j := by
  obtain ⟨_, _, _, left⟩ := leaving_shape s k .retired
  rw [changeState_eq true other, left]
  rfl

theorem dismissed_links : (s.dismissed k new).links = s.links := by
  obtain ⟨_, _, h⟩ := dismissed_shape (s := s) (k := k) (new := new)
  rw [h]
  exact changeState_links s k new true

/-! ### RETIRE (R60, R63) -/

theorem exec_retire_eq (h : s.Serves l .control) (known : (s.record k).state ≠ .vacant) :
    exec (.retire l seq k) s = .next ((s.asked l (.retire l seq k)).serveRetire l k) := by
  show live s _ = _
  rw [live_out _ _ h.1.1, State.reqRetire, request_serves _ _ _ _ _ h, withTag_mem _ _ _ _ (record_tag_range known),
    State.needRecord, if_neg (by simpa using known)]

/-- The state a retired record reaches (R60). -/
def State.withdrawn (s : State) (k : Nat) : RecState := if s.settled k then .vacant else .retired

theorem withdrawn_cases (s : State) (k : Nat) : s.withdrawn k = .vacant ∨ s.withdrawn k = .retired := by
  unfold State.withdrawn
  split
  · exact .inl rfl
  · exact .inr rfl

theorem serveRetire_eq (live : (s.record k).state ≠ .retired) : s.serveRetire l k =
    ((s.endRestore k).dismissed k (s.withdrawn k)).answer l .ok (.recState (s.withdrawn k)) := by
  rw [State.serveRetire, if_neg live]
  exact congrArg (fun u : State => u.answer l .ok (.recState (s.withdrawn k))) (withdraw_eq ..)

/-- RETIRE of a record with no RESTORE kept for it: its link answered, the record withdrawn (R60). -/
theorem exec_retire_of_none (h : s.Serves l .control) (known : (s.record k).state ≠ .vacant)
    (live : (s.record k).state ≠ .retired) (none : ∀ x ∈ s.kept, ¬ Kept.isRestore k x = true)
    (reached : s.withdrawn k = new) : exec (.retire l seq k) s = .next ((s.served l 8 seq .ok (.recState new)).dismissed k new) := by
  have answered : (s.asked l (.retire l seq k)).answer l .ok (.recState new) = s.served l 8 seq .ok (.recState new) :=
    asked_answer ..
  have whole := serveRetire_eq (s := s.asked l (.retire l seq k)) (l := l) live
  have same : (s.asked l (.retire l seq k)).withdrawn k = new := reached
  rw [exec_retire_eq h known, whole, same, endRestore_of_none (s := s.asked l (.retire l seq k)) none, ← answered]
  exact congrArg Host.Outcome.next dismissed_modLink.symm

theorem settled_iff (s : State) (k : Nat) : s.settled k = true ↔
    (s.tally k).live.up = 0 ∧ (s.tally k).live.down = 0 ∧ (s.tally k).live.granted = 0 ∧
      (s.tally k).live.withheld = 0 ∧ (s.tally k).live.overFrames = 0 ∧ (s.tally k).closed.collected = true := by
  simp [State.settled, TallySet.isZero, and_assoc]

/-- The one kept RESTORE of a record ends, and its link is answered (R63). -/
theorem endRestore_of_one {x : Tree} {due : Bool} {before after : List Kept}
    (kept : s.kept = before ++ ⟨x, ⟨.shutLift k, .restore m⟩, due⟩ :: after)
    (others : ∀ y ∈ before ++ after, ¬ Kept.isRestore k y = true) :
    s.endRestore k = ({ s with kept := before ++ after } : State).answer m .state .none := by
  have one : Kept.isRestore k ⟨x, ⟨.shutLift k, .restore m⟩, due⟩ = true := (isRestore_iff ..).mpr ⟨m, rfl⟩
  have none (xs : List Kept) (sub : ∀ y ∈ xs, y ∈ before ++ after) : xs.filter (Kept.isRestore k) = [] :=
    List.filter_eq_nil_iff.mpr fun y hy => others y (sub y hy)
  have all (xs : List Kept) (sub : ∀ y ∈ xs, y ∈ before ++ after) : xs.filter (fun y => !Kept.isRestore k y) = xs :=
    List.filter_eq_self.mpr fun y hy => by simpa using others y (sub y hy)
  have left (y : Kept) (hy : y ∈ before) : y ∈ before ++ after := List.mem_append_left _ hy
  have right (y : Kept) (hy : y ∈ after) : y ∈ before ++ after := List.mem_append_right _ hy
  have ended : s.kept.filter (Kept.isRestore k) = [⟨x, ⟨.shutLift k, .restore m⟩, due⟩] := by
    rw [kept, List.filter_append, none before left, List.filter_cons_of_pos one, none after right, List.nil_append]
  have stays : s.kept.filter (fun y => !Kept.isRestore k y) = before ++ after := by
    rw [kept, List.filter_append, all before left, List.filter_cons_of_neg (by simp [one]), all after right]
  unfold State.endRestore
  rw [ended, State.dropKept, stays]
  rfl

theorem modLink_comm {g : Link → Link} (other : m ≠ l) :
    (s.modLink m f).modLink l g = (s.modLink l g).modLink m f := by
  have places : m.val ≠ l.val := fun h => other (Fin.ext h)
  have first : (s.modLink m f).link l = s.link l := by rw [modLink_link, if_neg other.symm]
  have second : (s.modLink l g).link m = s.link m := by rw [modLink_link, if_neg other]
  rw [State.modLink, first, State.modLink.eq_1 (s.modLink l g), second]
  exact congrArg (fun links => { s with links := links }) (Vector.set_comm _ _ places)

/-- A record that RETIRE makes VACANT (R36, R45, R60). -/
theorem dismissed_vacant_effect (tag : 1 ≤ k ∧ k ≤ 256) (other : (s.record k).state ≠ .vacant) :
    let u := s.dismissed k .vacant
    u.record k = (s.record k).enter .vacant ∧ u.tally k = .reset ∧
      u.mail.attention = s.mail.attention ++ [.change k (s.record k).state .vacant true] ∧
      u.mail.valids = s.mail.valids.filter (·.tag != k) ∧ u.mail.misses = s.mail.misses.filter (·.tag != k) ∧
      u.mail.samples = s.mail.samples.filter (·.tag != k) ∧ u.mail.ups = s.mail.ups.filter (·.tag != k) ∧
      u.mail.downs = s.mail.downs.filter (·.tag != k) ∧ u.mail.cleans = s.mail.cleans.filter (·.tag != k) ∧
      u.mail.dispatches = s.mail.dispatches.filter (·.tag != k) := by
  obtain ⟨_, _, shape⟩ := dismissed_shape (s := s) (k := k) (new := .vacant)
  dsimp only
  rw [shape]
  exact ⟨(changeState_record s k k .vacant true).trans (if_pos ⟨rfl, other, tag⟩),
    (changeState_vacant_tally other k).trans (if_pos ⟨rfl, tag⟩), changeState_vacant_mail other⟩

/-- A record that RETIRE makes RETIRED (R60). -/
theorem dismissed_retired_effect (tag : 1 ≤ k ∧ k ≤ 256) (other : (s.record k).state ≠ .retired) :
    let u := s.dismissed k .retired
    u.record k = { s.record k with state := .retired } ∧ u.tally k = s.tally k ∧
      u.mail.attention = s.mail.attention ++ [.change k (s.record k).state .retired true] := by
  obtain ⟨_, _, shape⟩ := dismissed_shape (s := s) (k := k) (new := .retired)
  dsimp only
  rw [shape]
  exact ⟨(changeState_record s k k .retired true).trans (if_pos ⟨rfl, other, tag⟩), changeState_retired_tally other k,
    changeState_retired_mail other⟩

/-- What a withdrawn record leaves of the other records, its tree's load and queue, and the lanes (R43, R60, R62). -/
theorem dismissed_effect {u : State} (tree : (s.record k).tree = some t) (withdrawn : new = .vacant ∨ new = .retired)
    (other : (s.record k).state ≠ new) (own : s.dismissed k new = u) :
    (∀ j, j ≠ k → u.record j = s.record j ∧ u.tally j = s.tally j) ∧ u.load t = s.loadWithout t k ∧
      ((s.record k).state ∈ [RecState.announced, .ranging] → k ∉ (u.enrol t).queue) ∧
      ((s.record k).state.departs = true → (s.engine t).state ≠ .disabled →
        (u.engine t).normal = (s.engine t).normal ++ [⟨.depart k, .departRetire⟩] ∨
          ∃ due, ⟨t, ⟨.depart k, .departRetire⟩, due⟩ ∈ u.kept) ∧
      ((s.record k).state = .expected ∨ (s.engine t).state = .disabled → u.engines = s.engines) ∧
      u.links = s.links ∧
      u = { s with
        engines := u.engines
        loads := u.loads
        enrols := u.enrols
        records := u.records
        trackers := u.trackers
        tallies := u.tallies
        kept := u.kept
        mail := u.mail } := by
  obtain ⟨engines, kept, shape⟩ := dismissed_shape (s := s) (k := k) (new := new)
  obtain ⟨loads, enrols, _, _, _, _, _, changed⟩ := changeState_shape s k new true
  obtain ⟨load, queue⟩ := changeState_withdrawn withdrawn other
  have left := leaving_load tree (new := new) (by rcases withdrawn with rfl | rfl <;> decide)
  have engine : (s.changeState k new true).engine t = s.engine t := engine_congr (changeState_engines s k new true) t
  have departs : s.dismissed k new = if (s.record k).state.departs ∧ (s.engine t).state ≠ .disabled then
      (s.changeState k new true).offerDepart t k .departRetire else s.changeState k new true := by
    rw [State.dismissed, treeNo_of_tree tree]
  refine ⟨fun j hj => ⟨?_, ?_⟩, ?_, fun queued => ?_, fun told enabled => ?_, fun silent => ?_, ?_, ?_⟩
  · rw [← own, shape]
    exact (changeState_record s j k new true).trans (if_neg fun h => hj h.1)
  · rw [← own, shape]
    rcases withdrawn with rfl | rfl
    · exact (changeState_vacant_tally other j).trans (if_neg fun h => hj h.1)
    · exact changeState_retired_tally other j
  · rw [← own, shape, ← left]
    exact congrArg (fun loads => loads[t.val]) load
  · rw [← own, shape]
    show k ∉ ((s.changeState k new true).enrol t).queue
    rw [enrol_congr queue]
    exact leaving_dequeues tree queued (by rcases withdrawn with rfl | rfl <;> decide)
  · rw [← own, departs, if_pos ⟨told, enabled⟩, ← engine]
    exact offerDepart_joins _ (by rwa [engine])
  · have quiet : ¬ ((s.record k).state.departs ∧ (s.engine t).state ≠ .disabled) := by
      rintro ⟨told, enabled⟩
      rcases silent with expected | disabled
      · rw [expected] at told
        cases told
      · exact enabled disabled
    rw [← own, departs, if_neg quiet, changeState_engines]
  · rw [← own, dismissed_links]
  · rw [← own, shape, changed]

end

/-- Settles O40: RETIRE of a record with no RESTORE kept, and with one. -/
theorem retireVacatesASettledRecord : Obligations.RetireVacatesASettledRecord := by
  refine ⟨fun l seq k t s h known tree none => ?_, fun l m seq k t x due before after q s h known live tree kept none other
    asked => ?_⟩
  · have unkept (x : Kept) (hx : x ∈ s.kept) : ¬ Kept.isRestore k x = true := fun restore =>
      (isRestore_iff ..).mp restore |>.elim (none x hx)
    have tag := record_tag_range known
    intro r live settled
    refine ⟨fun retired => ?_, fun notRetired => ?_⟩
    · have answered : (s.asked l (.retire l seq k)).answer l .state .none = s.served l 8 seq .state .none := asked_answer ..
      rw [exec_retire_eq h known, State.serveRetire, asked_record, if_pos retired, answered]
    · obtain ⟨new, reached⟩ : ∃ new, s.withdrawn k = new := ⟨_, rfl⟩
      have withdrawn := reached ▸ withdrawn_cases s k
      have other : r.state ≠ new := by
        rcases withdrawn with rfl | rfl
        · exact known
        · exact notRetired
      let w := s.served l 8 seq .ok (.recState new)
      obtain ⟨others, load, queue, departs, silent, links, shape⟩ :=
        dismissed_effect (s := w) (k := k) tree withdrawn other rfl
      have link (j : LinkId) : (w.dismissed k new).link j =
          if j = l then (s.link l).served 8 (BitVec.ofNat 8 seq) .ok (.recState new) else s.link j :=
        (congrArg (fun links => links[j.val]) links).trans
          (modLink_link s l j (·.served 8 (BitVec.ofNat 8 seq) .ok (.recState new)))
      refine ⟨w.dismissed k new, exec_retire_of_none h known notRetired unkept reached, fun zero => ?_, fun some => ?_,
        others, fun active => load.trans (if_pos active), fun inactive => load.trans (if_neg inactive), queue,
        fun told => departs ?_, silent, fun j hj => (link j).trans (if_neg hj), shape.trans ?_⟩
      · obtain rfl : new = .vacant := reached.symm.trans (if_pos ((settled_iff s k).mpr zero))
        obtain ⟨record, tally, mail⟩ := dismissed_vacant_effect (s := w) tag other
        exact ⟨record, tally, (link l).trans (if_pos rfl), mail⟩
      · obtain rfl : new = .retired := reached.symm.trans (if_neg fun zero => some ((settled_iff s k).mp zero))
        obtain ⟨record, tally, attention⟩ := dismissed_retired_effect (s := w) tag other
        exact ⟨record, tally, (link l).trans (if_pos rfl), attention⟩
      · simp only [List.mem_cons, List.not_mem_nil, or_false] at told
        rcases told with h | h | h | h | h | h <;> exact (congrArg RecState.departs h).trans rfl
      · rw [links]
        rfl
  · have unkept (y : Kept) (hy : y ∈ before ++ after) : ¬ Kept.isRestore k y = true := fun restore =>
      (isRestore_iff ..).mp restore |>.elim (none y hy)
    let others : State := { s with kept := before ++ after }
    let v := (others.served l 8 seq .ok (.recState (s.withdrawn k))).dismissed k (s.withdrawn k)
    have ended := endRestore_of_one (s := s.asked l (.retire l seq k)) kept unkept
    have whole : exec (.retire l seq k) s = .next (v.answer m .state .none) := by
      have answered : (others.asked l (.retire l seq k)).answer l .ok (.recState (s.withdrawn k)) =
        others.served l 8 seq .ok (.recState (s.withdrawn k)) := asked_answer ..
      have retired := serveRetire_eq (s := s.asked l (.retire l seq k)) (l := l) live
      rw [exec_retire_eq h known, retired, ended]
      refine congrArg Host.Outcome.next ?_
      show State.modLink (State.dismissed (State.modLink (others.asked l (.retire l seq k)) m _) k (s.withdrawn k)) l _ =
        State.modLink (State.dismissed _ k (s.withdrawn k)) m _
      rw [dismissed_modLink, modLink_comm other, ← dismissed_modLink, ← answered]
      rfl
    have link : v.link m = s.link m := by
      have links := congrArg (fun links => links[m.val]) (dismissed_links
        (s := others.served l 8 seq .ok (.recState (s.withdrawn k))) (k := k) (new := s.withdrawn k))
      exact links.trans ((modLink_link others l m (·.served 8 (BitVec.ofNat 8 seq) .ok
        (.recState (s.withdrawn k)))).trans (if_neg other))
    have own : (v.answer m .state .none).link m = (s.link m).answered .state .none := by
      rw [State.answer, modLink_link_self, link]
    refine ⟨_, v, whole, exec_retire_of_none (s := others) h known live unkept rfl, ?_, ?_⟩
    · rw [own, Link.answered, asked]
    · rw [own, ← link]
      rfl

end Sys2Proof.Machine

/-! ## A report of a ranging attempt (R56, R84 to R86, R91) -/

namespace Sys2Proof.Machine

section
variable {s : State} {k : Nat} {t : Tree} {new : RecState}

theorem modRecord_congr {f g : DropRecord → DropRecord} (h : f (s.record k) = g (s.record k)) :
    s.modRecord k f = s.modRecord k g := by
  unfold State.modRecord updateAt
  split
  · rename_i range
    have own : s.records[k - 1] = s.record k := by simp [State.record, readAt, range]
    simp only [own, h]
  · rfl

/-! ### A record that leaves RANGING (R43, R81, R88) -/

theorem leaving_of_ranging (tree : (s.record k).tree = some t) (ranging : (s.record k).state = .ranging)
    (other : new ≠ .ranging) : s.leaving k new =
      (s.modEnrol t fun e => { e with queue := e.queue.filter (· != k), attempt := none }).dropKept (Kept.isRanged k) := by
  have active : s.leaveActive k new = s := if_neg fun both => absurd (ranging.symm.trans both.1) (by decide)
  have suspended (u : State) (h : (u.record k).state = .ranging) : u.leaveSuspended k = u :=
    if_neg fun own => absurd (h.symm.trans own) (by decide)
  have queue : s.leaveQueue k new =
      (s.modEnrol t fun e => { e with queue := e.queue.filter (· != k), attempt := none }).dropKept (Kept.isRanged k) := by
    unfold State.leaveQueue
    dsimp only
    rw [if_pos ⟨.inr ranging, other⟩, if_pos ranging, treeNo_of_tree tree]
    simp only [ranging, if_true]
  rw [State.leaving, active, queue]
  exact suspended _ ranging

/-- What a state change tells the link unit (R42). -/
theorem changeState_attention (byRequest : Bool) (other : (s.record k).state ≠ new) :
    (s.changeState k new byRequest).mail.attention =
      s.mail.attention ++ [.change k (s.record k).state new byRequest] := by
  obtain ⟨_, _, _, left⟩ := leaving_shape s k new
  rw [changeState_eq byRequest other, left]
  cases new <;> rfl

theorem enterState_enrols (other : new ≠ .announced) : (s.enterState t k new).enrols = s.enrols := by
  cases new with
  | announced => exact absurd rfl other
  | _ => rfl

/-- A record that leaves RANGING leaves its ranging queue, and its attempt ends (R43, R88). -/
theorem changeState_of_ranging_enrol (byRequest : Bool) (tree : (s.record k).tree = some t)
    (ranging : (s.record k).state = .ranging) (other : new ≠ .ranging) (away : new ≠ .announced) :
    let e := (s.changeState k new byRequest).enrol t
    e.attempt = none ∧ k ∉ e.queue := by
  intro e
  have own : e = { s.enrol t with queue := (s.enrol t).queue.filter (· != k), attempt := none } := by
    have entered := enterState_enrols (s := (s.leaving k new).modRecord k (·.enter new)) (t := (s.record k).treeNo)
      (k := k) away
    have same : e = ((s.modEnrol t fun e => { e with queue := e.queue.filter (· != k), attempt := none }).dropKept
        (Kept.isRanged k)).enrol t := by
      rw [← leaving_of_ranging tree ranging other]
      refine enrol_congr ?_ t
      rw [changeState_eq byRequest (by rw [ranging]; exact other.symm)]
      exact entered
    rw [same, dropKept_enrol, modEnrol_enrol_self]
  rw [own]
  exact ⟨rfl, by simp⟩

/-! ### A failed attempt (R86) -/

/-- A failure that leaves the record attempts (R86). -/
theorem rangingFailed_of_more (tag : 1 ≤ k ∧ k ≤ 256) (more : (s.record k).rangeAttempts < 2) :
    s.rangingFailed t k = (s.modEnrol t fun e => { e with attempt := none }).modRecord k fun x =>
      { x with rangeAttempts := x.rangeAttempts + 1 } := by
  have counted := modRecord_congr (s := s.modEnrol t fun e => { e with attempt := none }) (k := k)
    (f := fun r => { r with rangeAttempts := min 3 (r.rangeAttempts + 1) })
    (g := fun r => { r with rangeAttempts := r.rangeAttempts + 1 })
    (by rw [modEnrol_record, Nat.min_eq_right (by omega)])
  unfold State.rangingFailed
  dsimp only
  rw [counted, if_neg]
  rw [modRecord_record, if_pos ⟨rfl, tag⟩, modEnrol_record]
  dsimp only
  omega

/-- The third failure (R86). -/
theorem rangingFailed_of_last (tag : 1 ≤ k ∧ k ≤ 256) (last : (s.record k).rangeAttempts = 2)
    (ranging : (s.record k).state = .ranging) (tree : (s.record k).tree = some t) : s.rangingFailed t k =
      (((s.modEnrol t fun e => { e with attempt := none }).modRecord k fun r => { r with rangeAttempts := 3 }).changeState k
        .suspended false).offerDepart t k .departSuspend := by
  have counted := modRecord_congr (s := s.modEnrol t fun e => { e with attempt := none }) (k := k)
    (f := fun r => { r with rangeAttempts := min 3 (r.rangeAttempts + 1) })
    (g := fun r => { r with rangeAttempts := 3 }) (by rw [modEnrol_record, last]; rfl)
  have record : ((s.modEnrol t fun e => { e with attempt := none }).modRecord k fun r =>
      { r with rangeAttempts := 3 }).record k = { s.record k with rangeAttempts := 3 } := by
    rw [modRecord_record, if_pos ⟨rfl, tag⟩, modEnrol_record]
  unfold State.rangingFailed
  dsimp only
  rw [counted, record, if_pos (le_refl 3), State.suspendFrom, record, if_pos ranging,
    treeNo_of_tree (t := t) (by exact tree)]

/-- What the suspension of a RANGING record leaves (R43, R86, R103). -/
theorem suspended_of_ranging_effect {u : State} (tag : 1 ≤ k ∧ k ≤ 256) (ranging : (s.record k).state = .ranging)
    (tree : (s.record k).tree = some t)
    (own : (s.changeState k .suspended false).offerDepart t k .departSuspend = u) :
    u.record k = { s.record k with state := .suspended } ∧ (∀ j, j ≠ k → u.record j = s.record j) ∧
      (u.enrol t).attempt = none ∧ k ∉ (u.enrol t).queue ∧
      u.mail.attention = s.mail.attention ++ [.change k .ranging .suspended false] := by
  obtain ⟨_, _, shape⟩ := offerDepart_roster_shape (s := s.changeState k .suspended false) (t := t) (k := k)
    (origin := .departSuspend) (by decide)
  have other : (s.record k).state ≠ .suspended := by rw [ranging]; decide
  obtain ⟨attempt, queue⟩ := changeState_of_ranging_enrol (new := .suspended) false tree ranging (by decide) (by decide)
  have attention := changeState_attention false other
  rw [ranging] at attention
  rw [← own, shape]
  exact ⟨(changeState_record s k k .suspended false).trans (if_pos ⟨rfl, other, tag⟩),
    fun j hj => (changeState_record s j k .suspended false).trans (if_neg fun h => hj h.1), attempt, queue, attention⟩

/-! ### A record that becomes ACTIVE (R43, R90) -/

theorem enter_active_loadOf (s : State) (k : Nat) : (s.modRecord k (·.enter .active)).loadOf k = s.loadOf k := by
  unfold State.loadOf
  by_cases tag : 1 ≤ k ∧ k ≤ 256
  · rw [modRecord_record, if_pos ⟨rfl, tag⟩]
    rfl
  · rw [modRecord_record, if_neg fun h => tag h.2]
    rfl

/-- A record that becomes ACTIVE takes its load, and its tracker forgets its samples (R43, R90). -/
theorem entered_active (s : State) (t : Tree) (k : Nat) : (s.modRecord k (·.enter .active)).enterState t k .active =
    ((s.modRecord k (·.enter .active)).modLoad t (·.add (s.loadOf k))).modTracker k fun x => { x with samples := [] } := by
  rw [← enter_active_loadOf]
  rfl

/-- The settle mark of a record is kept as it comes into service (R90). -/
theorem enterState_tracker (occupied : new ≠ .vacant) :
    ((s.enterState t k new).tracker k).mark = (s.tracker k).mark ∧
      ((s.enterState t k new).tracker k).cause = (s.tracker k).cause := by
  cases new with
  | vacant => exact absurd rfl occupied
  | active =>
    have read := modTracker_tracker (s.modLoad t (·.add (s.loadOf k))) k k fun x => { x with samples := [] }
    show (((s.modLoad t (·.add (s.loadOf k))).modTracker k fun x => { x with samples := [] }).tracker k).mark = _ ∧
      (((s.modLoad t (·.add (s.loadOf k))).modTracker k fun x => { x with samples := [] }).tracker k).cause = _
    rw [read]
    split <;> exact ⟨rfl, rfl⟩
  | _ => exact ⟨rfl, rfl⟩

/-! ### An accepted attempt (R56, R85) -/

/-- What a RANGING record brings with it into service (R43, R56, R90). -/
theorem changeState_of_ranging_effect {u : State} {fits : Prop} [Decidable fits] (tag : 1 ≤ k ∧ k ≤ 256)
    (ranging : (s.record k).state = .ranging) (tree : (s.record k).tree = some t)
    (own : s.changeState k (if fits then .active else .parked) false = u) :
    u.record k = { s.record k with
      state := if fits then .active else .parked, missRun := if fits then 0 else (s.record k).missRun } ∧
      (∀ j, j ≠ k → u.record j = s.record j) ∧
      (u.load t).committed = (s.load t).committed + (if fits then s.loadOf k else 0) ∧ u.engines = s.engines ∧
      (u.enrol t).attempt = none ∧ k ∉ (u.enrol t).queue ∧ (u.tracker k).mark = (s.tracker k).mark ∧
      (u.tracker k).cause = (s.tracker k).cause ∧
      u.mail.attention = s.mail.attention ++ [.change k .ranging (if fits then .active else .parked) false] := by
  have other : (s.record k).state ≠ if fits then .active else .parked := by rw [ranging]; split <;> decide
  obtain ⟨attempt, queue⟩ := changeState_of_ranging_enrol (new := if fits then .active else .parked) false tree ranging
    (by split <;> decide) (by split <;> decide)
  have attention := changeState_attention false other
  have record := (changeState_record s k k _ false).trans (if_pos ⟨rfl, other, tag⟩)
  let left := s.leaving k (if fits then .active else .parked)
  have leaves : left = (s.modEnrol t fun e => { e with queue := e.queue.filter (· != k), attempt := none }).dropKept
      (Kept.isRanged k) := leaving_of_ranging tree ranging (by split <;> decide)
  have whole := changeState_eq false other
  rw [treeNo_of_tree tree] at whole
  obtain ⟨mark, cause⟩ := enterState_tracker (s := left.modRecord k (·.enter (if fits then .active else .parked))) (t := t)
    (k := k) (new := if fits then .active else .parked) (by split <;> decide)
  have load : ((s.changeState k (if fits then .active else .parked) false).load t).committed =
      (s.load t).committed + if fits then s.loadOf k else 0 := by
    rw [whole]
    show ((State.enterState (left.modRecord k _) t k _).load t).committed = _
    rw [leaves]
    by_cases fitting : fits
    · rw [if_pos fitting, if_pos fitting, entered_active, modTracker_load, modLoad_load_self]
      rfl
    · rw [if_neg fitting, if_neg fitting]
      rfl
  rw [ranging] at attention
  subst own
  refine ⟨?_, fun j hj => (changeState_record s j k _ false).trans (if_neg fun h => hj h.1), load, changeState_engines ..,
    attempt, queue, ?_, ?_, attention⟩
  · rw [record]
    split <;> rfl
  · rw [whole]
    refine Eq.trans mark ?_
    rw [leaves]
    rfl
  · rw [whole]
    refine Eq.trans cause ?_
    rw [leaves]
    rfl

end


/-! ### The report of an attempt (R84 to R86) -/

section
variable {s : State} {k : Nat} {t : Tree} {m : RangingMsg} {before after : List RangingMsg} {delta : Int} {delay : Nat}

theorem exec_rangingReport_eq (live : s.OutOfReset) (reports : s.mail.ranging = before ++ m :: after) (tree : m.tree = t)
    (first : ∀ x ∈ before, x.tree ≠ t) : exec (.rangingAttemptReport t) s =
      .next (({ s with mail := { s.mail with ranging := before ++ after } } : State).takeRanging t m) := by
  show Machine.live s _ = _
  rw [live_out _ _ live, reports, takeFirst_split (by simpa using tree) fun y hy => by simpa using first y hy]
  rfl

/-- A burst that passes the checks of an attempt (R84, R85). -/
def State.RangesWell (s : State) (t : Tree) (m : RangingMsg) : Prop :=
  ∃ at' delta backlog, m.body = .capture at' delta (some (m.rangeTag, backlog)) ∧
    |delta| ≤ (8 * ((s.engine t).params.wr / 2 - (s.engine t).params.p - 3) : Nat) ∧
    0 ≤ ((s.record m.rangeTag).delay : Int) - delta ∧ ((s.record m.rangeTag).delay : Int) - delta ≤ (s.engine t).params.z

theorem takeRanging_of_other (h : (s.enrol t).attempt ≠ some m.frame ∨ m.body = .windowEnd false) :
    s.takeRanging t m = s := by
  unfold State.takeRanging
  split
  · rename_i unresolved
    rw [h.resolve_left (not_not.mpr unresolved)]
  · rfl

theorem takeRanging_of_failure (unresolved : (s.enrol t).attempt = some m.frame) (fails : ¬ s.RangesWell t m)
    (reported : m.body ≠ .windowEnd false) : s.takeRanging t m = s.rangingFailed t m.rangeTag := by
  unfold State.takeRanging
  rw [if_pos unresolved]
  split
  · rename_i at' delta header body
    split
    · rename_i burst
      obtain ⟨own, within⟩ := burst
      obtain ⟨⟨tag, backlog⟩, rfl, rfl⟩ := Option.map_eq_some_iff.mp own
      exact if_neg fun range => fails ⟨at', delta, backlog, body, within, range⟩
    · rfl
  · rfl
  · exact absurd ‹_› reported

theorem takeRanging_of_success {at' : Nat} {backlog : Nat} (unresolved : (s.enrol t).attempt = some m.frame)
    (body : m.body = .capture at' delta (some (m.rangeTag, backlog))) (good : s.RangesWell t m) :
    s.takeRanging t m = (s.modEnrol t fun e => { e with attempt := none }).offer t
      ⟨.setDelay m.rangeTag (((s.record m.rangeTag).delay : Int) - delta).toNat, .ranged⟩ := by
  obtain ⟨_, _, _, same, within, range⟩ := good
  cases body.symm.trans same
  unfold State.takeRanging
  rw [if_pos unresolved, body]
  dsimp only
  rw [if_pos ⟨rfl, within⟩, State.rangingAccepted, if_pos range]

/-- The record and its tracker as the SET_DELAY of a ranging is accepted (R56, R85, R91). -/
def State.delayed (s : State) (t : Tree) (k delay : Nat) : State :=
  ((s.modEngine t fun e => { e with normal := e.normal ++ [⟨.setDelay k delay, .ranged⟩] }).modTracker k
    (·.accept .ranged)).modRecord k fun r => { r with delay := delay }

theorem delayed_record (tag : 1 ≤ k ∧ k ≤ 256) (j : Nat) : (s.delayed t k delay).record j =
    if j = k then { s.record k with delay := delay } else s.record j := by
  rw [State.delayed, modRecord_record]
  by_cases own : j = k
  · rw [if_pos ⟨own, tag⟩, if_pos own]
    rfl
  · rw [if_neg fun h => own h.1, if_neg own]
    rfl

theorem delayed_engine : (s.delayed t k delay).engine t =
    { s.engine t with normal := (s.engine t).normal ++ [⟨.setDelay k delay, .ranged⟩] } :=
  modEngine_engine_self s t fun e => { e with normal := e.normal ++ [⟨.setDelay k delay, .ranged⟩] }

theorem delayed_loadOf (tag : 1 ≤ k ∧ k ≤ 256) (tree : (s.record k).tree = some t) :
    (s.delayed t k delay).loadOf k = s.loadOf k := by
  have treeNo : (s.record k).treeNo = t := treeNo_of_tree tree
  have moved : ({ s.record k with delay := delay } : DropRecord).treeNo = t := treeNo_of_tree tree
  unfold State.loadOf
  rw [delayed_record tag, if_pos rfl]
  dsimp only
  rw [moved, treeNo, delayed_engine]
  rfl

theorem acceptEntry_ranged (tag : 1 ≤ k ∧ k ≤ 256) (ranging : (s.record k).state = .ranging)
    (tree : (s.record k).tree = some t) : s.acceptEntry t ⟨.setDelay k delay, .ranged⟩ =
      (s.delayed t k delay).changeState k
        (if (s.load t).committed + (s.load t).release + s.loadOf k ≤ (s.engine t).params.k then .active else .parked)
        false := by
  refine Eq.trans (if_pos ⟨ranging, tree⟩) ?_
  show (s.delayed t k delay).changeState k
    (if (s.delayed t k delay).fits t ((s.delayed t k delay).loadOf k) then .active else .parked) false = _
  simp only [State.fits, decide_eq_true_eq, delayed_loadOf tag tree, delayed_engine]
  rfl

end

/-- Settles O48: the report of no attempt, of one accepted, and of one that fails. -/
theorem aRangingReportResolvesItsAttempt : Obligations.ARangingReportResolvesItsAttempt := by
  intro t m before after s live reports own first taken p k r good
  have report := exec_rangingReport_eq live reports own first
  refine ⟨fun other => ?_, fun at' delta backlog unresolved body well ranging tree enabled room idle => ?_,
    fun unresolved fails reported more low high => ?_, fun unresolved fails reported last ranging tree => ?_⟩
  · rw [report, takeRanging_of_other (by exact other)]
  · let delay := ((r.delay : Int) - delta).toNat
    let w : State := taken.modEnrol t fun e => { e with attempt := none }
    have tag : 1 ≤ k ∧ k ≤ 256 := record_tag_range (s := s) (by rw [show (s.record k).state = .ranging from ranging]; decide)
    have resolved := takeRanging_of_success (s := taken) (by exact unresolved) body (by exact well)
    have free : ¬ w.laneBlocked t ⟨.setDelay k delay, .ranged⟩ := by
      rintro (full | ⟨x, hx, _, enrolment⟩)
      · rcases (laneFull_iff ..).mp full with ⟨urgent, _⟩ | ⟨_, full⟩
        · cases urgent
        · exact absurd room (not_lt.mpr full)
      · exact idle x hx enrolment
    have activated := acceptEntry_ranged (s := w) (delay := delay) tag (by exact ranging) (by exact tree)
    intro fits
    have delayed := delayed_record (s := w) (t := t) (delay := delay) tag
    have own := (delayed k).trans (if_pos rfl)
    obtain ⟨record, others, load, engines, attempt, queue, mark, cause, attention⟩ := changeState_of_ranging_effect
      (s := w.delayed t k delay) (k := k) (t := t) (fits := fits) tag
      ((congrArg DropRecord.state own).trans ranging) ((congrArg DropRecord.tree own).trans tree) rfl
    have settling := modTracker_tracker (w.modEngine t fun e =>
      { e with normal := e.normal ++ [⟨.setDelay k delay, .ranged⟩] }) k k (·.accept .ranged)
    rw [if_pos ⟨rfl, tag⟩] at settling
    have lane : w.offer t ⟨.setDelay k delay, .ranged⟩ =
        (w.delayed t k delay).changeState k (if fits then .active else .parked) false :=
      (offer_accepted w t _ (by exact enabled) free).trans activated
    refine ⟨(w.delayed t k delay).changeState k (if fits then .active else .parked) false, ?_, ?_,
      fun j hj => (others j hj).trans ((delayed j).trans (if_neg hj)), ?_, ?_, attempt, queue,
      fun _ _ => ⟨mark.trans (congrArg Tracker.mark settling), cause.trans (congrArg Tracker.cause settling)⟩, attention⟩
    · rw [report, resolved]
      exact congrArg Host.Outcome.next lane
    · rw [record, own]
      rfl
    · rw [load, delayed_loadOf tag (by exact tree)]
      rfl
    · rw [engine_congr engines, delayed_engine]
      rfl
  · rw [report, takeRanging_of_failure (by exact unresolved) (by exact fails) reported,
      rangingFailed_of_more ⟨low, high⟩ (by exact more)]
  · have tag : 1 ≤ k ∧ k ≤ 256 := record_tag_range (s := s) (by rw [show (s.record k).state = .ranging from ranging]; decide)
    let w : State :=
      (taken.modEnrol t fun e => { e with attempt := none }).modRecord k fun r => { r with rangeAttempts := 3 }
    have read (j : Nat) := modRecord_record (taken.modEnrol t fun e => { e with attempt := none }) k j
      fun r => { r with rangeAttempts := 3 }
    have counted : w.record k = { r with rangeAttempts := 3 } := (read k).trans (if_pos ⟨rfl, tag⟩)
    obtain ⟨record, others, attempt, queue, attention⟩ := suspended_of_ranging_effect (s := w) (k := k) (t := t) tag
      ((congrArg DropRecord.state counted).trans ranging) ((congrArg DropRecord.tree counted).trans tree) rfl
    refine ⟨_, ?_, record.trans ?_, fun j hj => (others j hj).trans ?_, attempt, queue, attention⟩
    · rw [report, takeRanging_of_failure (by exact unresolved) (by exact fails) reported,
        rangingFailed_of_last tag (by exact last) (by exact ranging) (by exact tree)]
    · rw [counted]
    · exact (read j).trans (if_neg fun h => hj h.1)

end Sys2Proof.Machine

/-! ## Strikes and clean runs (R46, R137 to R139) -/

namespace Sys2Proof.Machine

section
variable {s : State} {k index : Nat} {t : Tree} {r : StrikeReport}

theorem exec_strike_eq (live : s.OutOfReset) (report : s.mail.strikes[index]? = some r) : exec (.strike index) s =
    .next (({ s with mail := { s.mail with strikes := s.mail.strikes.eraseIdx index } } : State).takeStrike r) := by
  show Machine.live s _ = _
  rw [live_out _ _ live, takeNth_of_getElem? report]
  rfl

theorem isShut_iff (k : Nat) (d : Directive) : d.isShut k = true ↔ d = .laserShut k := by
  cases d <;> simp [Directive.isShut]

theorem shutStands_iff (s : State) (t : Tree) (k : Nat) : s.shutStands t k = true ↔
    (∃ y ∈ s.kept, y.entry.dir = .laserShut k) ∨ ∃ y ∈ (s.engine t).urgent, y.dir = .laserShut k := by
  simp [State.shutStands, isShut_iff]

/-- A strike written to its record (R137). -/
def State.struck (s : State) (k : Nat) : State :=
  s.modRecord k fun x => { x with strikes := min 15 ((s.record k).strikes + 1), cleanRun := 0 }

theorem struck_record (tag : 1 ≤ k ∧ k ≤ 256) (j : Nat) : (s.struck k).record j =
    if j = k then { s.record k with strikes := min 15 ((s.record k).strikes + 1), cleanRun := 0 } else s.record j := by
  rw [State.struck, modRecord_record]
  by_cases own : j = k
  · rw [if_pos ⟨own, tag⟩, if_pos own]
  · rw [if_neg fun h => own h.1, if_neg own]

theorem takeStrike_of_other (other : ¬ ((s.record r.tag).state = .active ∧ (s.record r.tag).tree = some r.tree)) :
    s.takeStrike r = s :=
  if_neg fun h => other ⟨h.1, ((isRecordOf_iff ..).mp h.2).2⟩

/-- A strike for an ACTIVE record, with the LASER_SHUT it offers at the strike limit (R137, R138). -/
theorem takeStrike_of_active (active : (s.record r.tag).state = .active) (tree : (s.record r.tag).tree = some r.tree) :
    s.takeStrike r =
      if (s.engine r.tree).params.strikeLim ≤ min 15 ((s.record r.tag).strikes + 1) ∧ s.shutStands r.tree r.tag = false then
        (s.struck r.tag).offer r.tree ⟨.laserShut r.tag, .strikeShut⟩
      else s.struck r.tag := by
  have occupied : (s.record r.tag).state ≠ .vacant := by rw [active]; decide
  have written : s.modRecord r.tag (·.strike) = s.struck r.tag := modRecord_congr (by rfl)
  have strikes : ((s.struck r.tag).record r.tag).strikes = min 15 ((s.record r.tag).strikes + 1) := by
    rw [struck_record (record_tag_range occupied), if_pos rfl]
  unfold State.takeStrike
  rw [if_pos ⟨active, (isRecordOf_iff ..).mpr ⟨occupied, tree⟩⟩]
  dsimp only
  rw [written, strikes]
  rfl

/-! ### The isolation of a record (R46, R138) -/

theorem changeState_rogue_of_active (active : (s.record k).state = .active) (tree : (s.record k).tree = some t) :
    s.changeState k .rogue false =
      ((s.modLoad t (·.drop (s.loadOf k))).modRecord k fun r => { r with state := .rogue }).reportChange k .active .rogue
        false := by
  have left : s.leaving k .rogue = s.modLoad t (·.drop (s.loadOf k)) := by
    rw [leaving_of_unqueued (by rw [active]; decide), State.leaveActive, if_pos ⟨active, by decide⟩, treeNo_of_tree tree]
  rw [changeState_eq false (by rw [active]; decide), left, active]
  rfl

/-- The state as the accepted LASER_SHUT of an ACTIVE record is written, before it is observed (R46, R138). -/
def State.isolated (s : State) (t : Tree) (k : Nat) : State :=
  (s.modEngine t (·.push ⟨.laserShut k, .strikeShut⟩)).writeRogue t k

theorem acceptEntry_strikeShut (active : (s.record k).state = .active) : s.acceptEntry t ⟨.laserShut k, .strikeShut⟩ =
    (s.isolated t k).observe (.of .huntIsolated t (some k) (s.record k).serial (some .tail) s.frame) := by
  unfold State.acceptEntry State.onAccept
  dsimp only
  rw [modEngine_record, if_neg (by rw [active]; decide)]
  rfl

theorem isolated_effect (tag : 1 ≤ k ∧ k ≤ 256) (active : (s.record k).state = .active)
    (tree : (s.record k).tree = some t) :
    let u := s.isolated t k
    u.record k = { s.record k with state := .rogue } ∧ (∀ j, j ≠ k → u.record j = s.record j) ∧
      (u.engine t).urgent = (s.engine t).urgent ++ [⟨.laserShut k, .strikeShut⟩] ∧
      (u.load t).committed = (s.load t).committed - s.loadOf k ∧ u.log = s.log ∧
      u.mail.attention = s.mail.attention ++ [.change k .active .rogue false] := by
  let w := s.modEngine t (·.push ⟨.laserShut k, .strikeShut⟩)
  have engine : w.engine t = { s.engine t with urgent := (s.engine t).urgent ++ [⟨.laserShut k, .strikeShut⟩] } :=
    modEngine_engine_self s t (·.push ⟨.laserShut k, .strikeShut⟩)
  have load : w.loadOf k = s.loadOf k := by
    unfold State.loadOf
    rw [modEngine_record]
    dsimp only
    rw [treeNo_of_tree tree, engine]
    rfl
  have whole : s.isolated t k = (((w.modLoad t (·.drop (s.loadOf k))).modRecord k fun r =>
      { r with state := .rogue }).reportChange k .active .rogue false).modEngine t fun e =>
        { e with normal := e.normal.filter fun x => !x.dir.isShutLift k } := by
    have changed := changeState_rogue_of_active (s := w) active tree
    rw [load] at changed
    rw [← changed]
    exact if_neg (by rw [modEngine_record, active]; decide)
  have record (j : Nat) := modRecord_record s k j fun r => { r with state := .rogue }
  dsimp only
  rw [whole]
  refine ⟨(record k).trans (if_pos ⟨rfl, tag⟩), fun j hj => (record j).trans (if_neg fun h => hj h.1), ?_, ?_, rfl, rfl⟩
  · rw [modEngine_engine_self]
    exact congrArg Engine.urgent engine
  · exact congrArg Load.committed (modLoad_load_self s t (·.drop (s.loadOf k)))

theorem struck_loadOf (tag : 1 ≤ k ∧ k ≤ 256) : (s.struck k).loadOf k = s.loadOf k := by
  unfold State.loadOf
  rw [struck_record tag, if_pos rfl]
  rfl

/-! ### Clean runs (R139) -/

theorem clean_eq (x : DropRecord) : x.clean =
    { x with cleanRun := min 1024 (x.cleanRun + 1), strikes := if x.cleanRun = 1023 then 0 else x.strikes } := by
  unfold DropRecord.clean
  split
  · rename_i full
    rw [Nat.min_eq_left (by omega), if_neg (by omega)]
  · rename_i short
    rw [Nat.min_eq_right (by omega)]
    simp only [Nat.reduceEqDiff]

end

/-- Settles O54: a strike by its record, the limit and the LASER_SHUT that stands; a clean run by its count. -/
theorem strikesIsolateAndCleanRunsClear : Obligations.StrikesIsolateAndCleanRunsClear := by
  refine ⟨fun index r s live report => ?_, fun index r s live report => ?_⟩
  · intro taken struck written active stands
    have strike := exec_strike_eq live report
    have standing : taken.shutStands r.tree r.tag = true ↔ stands := shutStands_iff ..
    refine ⟨fun other => ?_, fun ⟨state, tree⟩ quiet => ?_, fun ⟨state, tree⟩ limit none enabled => ?_⟩
    · rw [strike, takeStrike_of_other (by exact other)]
    · have silent : ¬ ((taken.engine r.tree).params.strikeLim ≤ min 15 ((taken.record r.tag).strikes + 1) ∧
          taken.shutStands r.tree r.tag = false) := by
        rintro ⟨reached, absent⟩
        rcases quiet with short | stands
        · exact absurd reached (not_le.mpr short)
        · rw [standing.mpr stands] at absent
          cases absent
      rw [strike, takeStrike_of_active (by exact state) (by exact tree), if_neg silent]
      rfl
    · have tag : 1 ≤ r.tag ∧ r.tag ≤ 256 := record_tag_range (s := s) (by rw [state]; decide)
      have offered : exec (.strike index) s =
          .next ((taken.struck r.tag).offer r.tree ⟨.laserShut r.tag, .strikeShut⟩) := by
        rw [strike, takeStrike_of_active (by exact state) (by exact tree), if_pos]
        exact ⟨limit, by rwa [← Bool.not_eq_true, standing]⟩
      refine ⟨fun full => ?_, fun room idle => ?_⟩
      · have blocked : (taken.struck r.tag).laneBlocked r.tree ⟨.laserShut r.tag, .strikeShut⟩ :=
          .inl ((laneFull_iff ..).mpr (.inl ⟨rfl, full⟩))
        rw [offered, offer_full (taken.struck r.tag) r.tree _ (by exact enabled) blocked]
        rfl
      · have free : ¬ (taken.struck r.tag).laneBlocked r.tree ⟨.laserShut r.tag, .strikeShut⟩ := by
          rintro (full | ⟨x, hx, own, watch⟩)
          · rcases (laneFull_iff ..).mp full with ⟨_, full⟩ | ⟨normal, _⟩
            · exact absurd room (not_lt.mpr full)
            · exact normal rfl
          · exact idle x hx own watch
        have own := (struck_record (s := taken) tag r.tag).trans (if_pos rfl)
        obtain ⟨record, others, urgent, load, log, attention⟩ := isolated_effect (s := taken.struck r.tag) (t := r.tree) tag
          ((congrArg DropRecord.state own).trans state) ((congrArg DropRecord.tree own).trans tree)
        have isolates := acceptEntry_strikeShut (s := taken.struck r.tag) (t := r.tree)
          ((congrArg DropRecord.state own).trans state)
        rw [congrArg DropRecord.serial own] at isolates
        let x := (taken.struck r.tag).isolated r.tree r.tag
        let o : Observation := ⟨.huntIsolated, r.tree, some r.tag, (s.record r.tag).serial, some .tail, s.frame, s.frame, 0⟩
        obtain ⟨_, _, _, observed⟩ := observe_shape x o
        have records (j : Nat) : (x.observe o).record j = x.record j := by rw [observed]; rfl
        refine ⟨x.observe o, ?_, ?_, fun j hj => (records j).trans ((others j hj).trans ?_), ?_, ?_, x, rfl, log, attention⟩
        · rw [offered, offer_accepted (taken.struck r.tag) r.tree _ (by exact enabled) free, isolates]
          rfl
        · rw [records, record, own]
          rfl
        · exact (struck_record (s := taken) tag j).trans (if_neg hj)
        · rw [observed]
          exact urgent
        · rw [observed]
          refine load.trans ?_
          rw [struck_loadOf tag]
          rfl
  · show Machine.live s _ = _
    rw [live_out _ _ live, takeNth_of_getElem? report]
    have cleaned : DropRecord.clean = fun x : DropRecord =>
        { x with cleanRun := min 1024 (x.cleanRun + 1), strikes := if x.cleanRun = 1023 then 0 else x.strikes } :=
      funext clean_eq
    simp only [cleaned]
    rfl

end Sys2Proof.Machine

/-! ## The promotion scan (R43, R55) -/

namespace Sys2Proof.Machine

section
variable {s : State} {t : Tree} {k : Nat}

/-- A PARKED record of the tree that becomes ACTIVE (R43, R55). -/
def State.activated (s : State) (t : Tree) (k : Nat) : State :=
  (((s.modRecord k fun r => { r with state := .active, missRun := 0 }).modLoad t (·.add (s.loadOf k))).modTracker k fun x =>
    { x with samples := [] }).modMail fun m =>
      { m with
        changes := m.changes ++ [⟨k, .parked, .active⟩]
        attention := m.attention ++ [.change k .parked .active false] }

theorem promote_eq (parked : s.parkedOn t k) : s.promote k =
    if (s.load t).committed + (s.load t).release + s.loadOf k ≤ (s.engine t).params.k then s.activated t k else s := by
  obtain ⟨state, tree⟩ := parked
  have changed : s.changeState k .active false = s.activated t k := by
    rw [changeState_eq false (by rw [state]; decide), leaving_of_settled (by rw [state]; decide), treeNo_of_tree tree,
      entered_active, state]
    rfl
  unfold State.promote
  rw [treeNo_of_tree tree, changed]
  simp only [State.fits, decide_eq_true_eq]

theorem activated_load (s : State) (t : Tree) (k : Nat) (x : Tree) : (s.activated t k).load x =
    if x = t then (s.load t).add (s.loadOf k) else s.load x := modLoad_load s t x (·.add (s.loadOf k))

theorem activated_record (tag : 1 ≤ k ∧ k ≤ 256) (j : Nat) : (s.activated t k).record j =
    if j = k then { s.record k with state := .active, missRun := 0 } else s.record j := by
  have written := modRecord_record s k j fun r => { r with state := .active, missRun := 0 }
  simp only [tag, and_true] at written
  exact written

theorem activated_tracker (tag : 1 ≤ k ∧ k ≤ 256) (j : Nat) : (s.activated t k).tracker j =
    if j = k then { s.tracker k with samples := [] } else s.tracker j := by
  have written := modTracker_tracker s k j fun x => { x with samples := [] }
  simp only [tag, and_true] at written
  exact written

/-! ### The scan's running sum -/

/-- The committed load of a tree as its promotion scan comes to record `k` (R55). -/
def State.scanSum (s : State) (t : Tree) : Nat → Nat
  | 0 => (s.load t).committed
  | k + 1 =>
    if (s.record k).state = .parked ∧ (s.record k).tree = some t ∧
        s.scanSum t k + s.loadOf k ≤ (s.engine t).params.k then
      s.scanSum t k + s.loadOf k
    else s.scanSum t k

/-- The promotion scan takes record `k` (R55). -/
def State.promotes (s : State) (t : Tree) (k : Nat) : Bool :=
  decide ((s.record k).state = .parked ∧ (s.record k).tree = some t ∧
    s.scanSum t k + s.loadOf k ≤ (s.engine t).params.k)

theorem scanSum_succ (s : State) (t : Tree) (k : Nat) : s.scanSum t (k + 1) =
    if s.promotes t k then s.scanSum t k + s.loadOf k else s.scanSum t k := by
  simp only [State.promotes, decide_eq_true_eq]
  rfl

/-- There is no record 0. -/
theorem scanSum_one (s : State) (t : Tree) : s.scanSum t 1 = (s.load t).committed :=
  if_neg fun h => absurd h.1 (by rw [show s.record 0 = .vacant from rfl]; decide)

/-- The records of the first `n` tags that the scan takes (R55). -/
def State.promotedTo (s : State) (t : Tree) (n : Nat) : List Nat := (List.range' 1 n).filter (s.promotes t)

theorem promotedTo_succ (s : State) (t : Tree) (n : Nat) : s.promotedTo t (n + 1) =
    s.promotedTo t n ++ if s.promotes t (n + 1) then [n + 1] else [] := by
  rw [State.promotedTo, List.range'_1_concat, List.filter_append, Nat.add_comm 1 n, List.filter_singleton,
    Bool.cond_eq_ite]
  rfl

theorem not_mem_promotedTo (s : State) (t : Tree) {n k : Nat} (past : n < k) : k ∉ s.promotedTo t n := fun h => by
  have range := List.mem_range'_1.mp (List.mem_filter.mp h).1
  omega

/-- The state `u` of a scan of the state `s` that has examined the first `n` tags (R55). -/
structure State.ScannedTo (s : State) (t : Tree) (n : Nat) (u : State) : Prop where
  load : u.load t = ⟨s.scanSum t (n + 1), 0, false⟩
  loads : ∀ x, x ≠ t → u.load x = s.load x
  record : ∀ k, u.record k =
    if k ∈ s.promotedTo t n then { s.record k with state := .active, missRun := 0 } else s.record k
  tracker : ∀ k, u.tracker k = if k ∈ s.promotedTo t n then { s.tracker k with samples := [] } else s.tracker k
  rest : u = { s with
    loads := u.loads
    records := u.records
    trackers := u.trackers
    mail := { s.mail with
      changes := s.mail.changes ++ (s.promotedTo t n).map fun k => ⟨k, .parked, .active⟩
      attention := s.mail.attention ++ (s.promotedTo t n).map fun k => .change k .parked .active false } }

theorem scannedTo_zero (s : State) (t : Tree) :
    s.ScannedTo t 0 (s.modLoad t fun l => { l with release := 0, scanDue := false }) where
  load := by rw [modLoad_load_self, scanSum_one]
  loads x other := by rw [modLoad_load, if_neg other]
  record _ := rfl
  tracker _ := rfl
  rest := by
    simp only [State.promotedTo, List.range'_zero, List.filter_nil, List.map_nil, List.append_nil]
    rfl

/-- The scan comes to the next tag (R55). -/
def State.examine (s u : State) (t : Tree) (k : Nat) : State :=
  if (s.record k).state == .parked && (s.record k).tree == some t then u.promote k else u

theorem State.ScannedTo.own {u : State} {n : Nat} (h : s.ScannedTo t n u) (past : n < k) :
    u.record k = s.record k ∧ u.loadOf k = s.loadOf k := by
  have record : u.record k = s.record k := (h.record k).trans (if_neg (not_mem_promotedTo s t past))
  have profile (n : Nat) : u.profile n = s.profile n := by rw [h.rest]; rfl
  have engine (i : Tree) : u.engine i = s.engine i := by rw [h.rest]; rfl
  exact ⟨record, by simp only [State.loadOf, record, profile, engine]⟩

theorem examine_eq {u : State} {n : Nat} (h : s.ScannedTo t n u) :
    s.examine u t (n + 1) = if s.promotes t (n + 1) then u.activated t (n + 1) else u := by
  obtain ⟨record, load⟩ := h.own (Nat.lt_succ_self n)
  have engine : u.engine t = s.engine t := by rw [h.rest]; rfl
  unfold State.examine State.promotes
  by_cases parked : s.parkedOn t (n + 1)
  · have onTree : u.parkedOn t (n + 1) := by rw [State.parkedOn, record]; exact parked
    rw [if_pos (by simp [parked.1, parked.2]), promote_eq onTree, h.load, load, engine]
    simp only [parked.1, parked.2, true_and, decide_eq_true_eq, Nat.add_zero]
  · rw [if_neg (by simpa [State.parkedOn] using parked), if_neg]
    simp only [decide_eq_true_eq]
    exact fun both => parked ⟨both.1, both.2.1⟩

theorem State.ScannedTo.examine {u : State} {n : Nat} (h : s.ScannedTo t n u) (low : n < 256) :
    s.ScannedTo t (n + 1) (s.examine u t (n + 1)) := by
  obtain ⟨record, load⟩ := h.own (Nat.lt_succ_self n)
  have tag : 1 ≤ n + 1 ∧ n + 1 ≤ 256 := ⟨by omega, low⟩
  rw [examine_eq h]
  by_cases taken : s.promotes t (n + 1) = true
  · have members (k : Nat) : k ∈ s.promotedTo t (n + 1) ↔ k ∈ s.promotedTo t n ∨ k = n + 1 := by
      rw [promotedTo_succ, if_pos taken, List.mem_append, List.mem_singleton]
    have fresh := not_mem_promotedTo s t (Nat.lt_succ_self n)
    rw [if_pos taken]
    refine ⟨?_, fun x other => ?_, fun k => ?_, fun k => ?_, ?_⟩
    · rw [activated_load, if_pos rfl, h.load, load, scanSum_succ s t (n + 1), if_pos taken]
      rfl
    · rw [activated_load, if_neg other, h.loads x other]
    · rw [activated_record tag]
      by_cases own : k = n + 1
      · subst own
        rw [if_pos rfl, if_pos ((members _).mpr (.inr rfl)), record]
      · rw [if_neg own, h.record k]
        simp only [members, own, or_false]
    · rw [activated_tracker tag]
      by_cases own : k = n + 1
      · subst own
        rw [if_pos rfl, if_pos ((members _).mpr (.inr rfl)), h.tracker, if_neg fresh]
      · rw [if_neg own, h.tracker k]
        simp only [members, own, or_false]
    · rw [promotedTo_succ, if_pos taken, List.map_append, List.map_append, ← List.append_assoc, ← List.append_assoc]
      have rest := h.rest
      rw [State.activated, rest]
      rfl
  · rw [if_neg taken]
    have same : s.promotedTo t (n + 1) = s.promotedTo t n := by rw [promotedTo_succ, if_neg taken, List.append_nil]
    have sum : s.scanSum t (n + 1 + 1) = s.scanSum t (n + 1) := by rw [scanSum_succ, if_neg taken]
    exact ⟨by rw [sum]; exact h.load, h.loads, by rw [same]; exact h.record, by rw [same]; exact h.tracker, by
      rw [same]; exact h.rest⟩

theorem scannedTo_range (s : State) (t : Tree) : ∀ n, n ≤ 256 →
    s.ScannedTo t n ((List.range' 1 n).foldl (fun u k => s.examine u t k)
      (s.modLoad t fun l => { l with release := 0, scanDue := false })) := by
  intro n
  induction n with
  | zero => exact fun _ => scannedTo_zero s t
  | succ n ih =>
    intro low
    rw [List.range'_1_concat, List.foldl_append, Nat.add_comm 1 n]
    exact (ih (by omega)).examine (by omega)

theorem promotionScan_scanned (due : 0 < (s.load t).release ∨ (s.load t).scanDue = true) :
    s.ScannedTo t 256 (s.promotionScan t) := by
  have whole : s.promotionScan t = (List.range' 1 256).foldl (fun u k => s.examine u t k)
      (s.modLoad t fun l => { l with release := 0, scanDue := false }) := by
    unfold State.promotionScan
    dsimp only
    rw [if_pos due, numbersWhere_eq _ _ DropRecord.vacant, List.foldl_filter]
    rfl
  rw [whole]
  exact scannedTo_range s t 256 le_rfl

/-! ### What the scan leaves of the rest of a turn -/

/-- After its scan a tree has no release pending and no scan due (R55). -/
theorem promotionScan_load (s : State) (t : Tree) :
    ((s.promotionScan t).load t).release = 0 ∧ ((s.promotionScan t).load t).scanDue = false := by
  by_cases due : 0 < (s.load t).release ∨ (s.load t).scanDue = true
  · rw [(promotionScan_scanned due).load]
    exact ⟨rfl, rfl⟩
  · rw [State.promotionScan, if_neg due]
    simpa using due

theorem enterState_loads {new : RecState} (inactive : new ≠ .active) : (s.enterState t k new).loads = s.loads := by
  cases new with
  | active => exact absurd rfl inactive
  | _ => rfl

/-- A record that is not ACTIVE and does not become so holds no load (R43). -/
theorem changeState_loads_of_inactive {new : RecState} (byRequest : Bool) (state : (s.record k).state ≠ .active)
    (inactive : new ≠ .active) : (s.changeState k new byRequest).loads = s.loads := by
  by_cases same : (s.record k).state = new
  · rw [← same, changeState_same]
  · obtain ⟨_, _, queue⟩ := leaveQueue_shape (s.leaveActive k new) k new
    obtain ⟨_, suspended⟩ := leaveSuspended_shape ((s.leaveActive k new).leaveQueue k new) k
    have left : (s.leaving k new).loads = s.loads := by
      rw [State.leaving, suspended, queue, State.leaveActive, if_neg fun both => state both.1]
    rw [changeState_eq byRequest same]
    exact (enterState_loads inactive).trans left

theorem rangingDue_inactive {m : FrameNo} (due : s.rangingDue t m = some k) : (s.record k).state ≠ .active := by
  unfold State.rangingDue at due
  split at due
  · cases due
  · split at due
    · split at due
      · rename_i ranging
        cases due
        rw [ranging]
        decide
      · split at due
        · rename_i announced
          cases due
          rw [announced.1]
          decide
        · cases due
    · cases due

theorem startCompile_loads (s : State) (t : Tree) (m : FrameNo) : (s.startCompile t m).loads = s.loads := by
  unfold State.startCompile
  dsimp only
  split
  · rfl
  · split
    · rfl
    · split
      · rfl
      · split
        · rename_i k due
          exact changeState_loads_of_inactive false (rangingDue_inactive due) (by decide)
        · rfl

theorem counted_loads (s : State) (t : Tree) (enabled : Bool) : (s.counted t enabled).loads = (s.scanned t).loads := by
  unfold State.counted
  cases enabled with
  | false => rw [if_neg (by decide), modEnrol_loads]
  | true => rw [if_pos rfl]

theorem runTree_load (s : State) (t : Tree) (enabled : Bool) :
    ((s.runTree t enabled).load t).release = 0 ∧ ((s.runTree t enabled).load t).scanDue = false := by
  have same : (s.runTree t enabled).loads = ((s.modEngine t (·.forgetAnnounce s.frame)).scanned t).loads := by
    rw [runTree_eq]
    exact (startCompile_loads ..).trans (counted_loads ..)
  unfold State.load
  rw [same]
  exact promotionScan_load ..

theorem boundary_load {u : State} (live : s.OutOfReset) (boundary : exec .frameBoundary s = .next u)
    (enabled : (u.engine t).state ≠ .disabled) : (u.load t).release = 0 ∧ (u.load t).scanDue = false := by
  rw [exec_frameBoundary_iff live] at boundary
  obtain ⟨v, -, -, after⟩ := exists_turn s t
  rw [boundary] at after
  have ran : ((v.changeTree t).1.engine t).state ≠ .disabled := fun disabled => enabled (by
    rw [after.engine, boundaryTree_eq, if_pos disabled, disabled])
  rw [after.load, boundaryTree_eq, if_neg ran]
  exact runTree_load ..

end

end Sys2Proof.Machine

/-! ## The downstream frame (R20, R40, R203) -/

namespace Sys2Proof.Machine

/-! ### The packets of a frame (R40) -/

/-- The octets of the payload space that packets take, each with its head of 4 octets (R40, R203). -/
def payloadUsed (ys : List Packet) : Nat := (ys.map fun y => 4 + y.octets.length).sum

theorem payloadUsed_cons (y : Packet) (ys : List Packet) :
    payloadUsed (y :: ys) = 4 + y.octets.length + payloadUsed ys := by
  simp [payloadUsed]

/-- What a frame takes from the head of a queue: the packets of the records that take data, up to the first that would pass
the payload space (R40). -/
theorem fillFrame_split (takes : Nat → Bool) (queue : List Packet) : ∀ used, used ≤ 156000 → ∃ examined rest,
    queue = examined ++ rest ∧ fillFrame takes used queue = (examined.filter fun y => takes y.tag, rest) ∧
      used + payloadUsed (examined.filter fun y => takes y.tag) ≤ 156000 ∧
      ∀ y ys, rest = y :: ys → takes y.tag = true ∧
        156000 < used + payloadUsed (examined.filter fun y => takes y.tag) + (4 + y.octets.length) := by
  induction queue with
  | nil => exact fun used room => ⟨[], [], rfl, rfl, room, fun _ _ h => by cases h⟩
  | cons x queue ih =>
    intro used room
    by_cases taken : takes x.tag = true
    · by_cases fits : used + 4 + x.octets.length ≤ 156000
      · obtain ⟨examined, rest, split, filled, within, stops⟩ := ih (used + 4 + x.octets.length) fits
        have placed : ((x :: examined).filter fun y => takes y.tag) = x :: examined.filter fun y => takes y.tag :=
          List.filter_cons_of_pos taken
        refine ⟨x :: examined, rest, by rw [split]; rfl, ?_, ?_, fun y ys h => ⟨(stops y ys h).1, ?_⟩⟩
        · rw [placed, fillFrame, if_pos taken, frameCapacity, if_pos fits, filled]
        · rw [placed, payloadUsed_cons]
          omega
        · have past := (stops y ys h).2
          rw [placed, payloadUsed_cons]
          omega
      · refine ⟨[], x :: queue, rfl, ?_, room, fun y ys h => ?_⟩
        · rw [fillFrame, if_pos taken, frameCapacity, if_neg fits]
          rfl
        · cases h
          refine ⟨taken, ?_⟩
          show 156000 < used + 0 + _
          omega
    · obtain ⟨examined, rest, split, filled, within, stops⟩ := ih used room
      have passed : ((x :: examined).filter fun y => takes y.tag) = examined.filter fun y => takes y.tag :=
        List.filter_cons_of_neg taken
      exact ⟨x :: examined, rest, by rw [split]; rfl, by rw [passed, fillFrame, if_neg taken, filled], by rwa [passed],
        by rwa [passed]⟩

/-! ### The octets of a payload space (R203) -/

theorem filled_length (d : DownFrame) : d.filled.length = payloadUsed d.packets := by
  rw [DownFrame.filled, List.length_flatMap, payloadUsed]
  refine congrArg List.sum (List.map_congr_left fun y _ => ?_)
  rw [packetOctets, List.length_append, List.length_append]
  rfl

theorem payload_length {d : DownFrame} (fits : payloadUsed d.packets ≤ 156000) : d.payload.length = 156000 := by
  rw [DownFrame.payload, List.length_append, List.length_replicate, filled_length, frameCapacity]
  omega

/-! ### The places of a frame (R20) -/

theorem carried_of_frame {y : Place} {now : FrameNo} {j : Nat} (low : j < 3) (later : now = y.carriage + BitVec.ofNat 24 j) :
    Place.carried now (some y) = some (y.entry.dir, j + 1) := by
  have distance : (now - y.carriage).toInt = j := by
    have gap : now - y.carriage = BitVec.ofNat 24 j := by rw [later]; bv_omega
    rw [gap]
    interval_cases j <;> rfl
  rw [Place.carried, Option.map_some, frameDist, distance]
  rfl

section
variable {s : State} {t : Tree}

theorem takesDataOn_eq (s : State) (t : Tree) (k : Nat) : s.takesDataOn t k =
    decide (((s.record k).state = .active ∨ (s.record k).state = .parked) ∧ (s.record k).tree = some t) := by
  rw [Bool.eq_iff_iff, decide_eq_true_eq, State.takesDataOn, Bool.and_eq_true, takesData_iff, beq_iff_eq]

/-- The downstream frame of a plan in force and packets (R20). -/
def State.frameOf (s : State) (t : Tree) (x : Plan) (packets : List Packet) : DownFrame where
  frame := s.frame
  g := (s.engine t).params.g
  p := (s.engine t).params.p
  z := (s.engine t).params.z
  window := x.window
  entries := x.entries
  places := (s.engine t).places.toList.map (Place.carried s.frame)
  packets := packets

theorem sendFrame_eq {x : Plan} {packets rest : List Packet} (plan : (s.engine t).planForce = some x)
    (filled : fillFrame (s.takesDataOn t) 0 (s.engine t).queue = (packets, rest)) : s.sendFrame t =
      (s.modEngine t fun e => { e with queue := rest, down := some (s.frameOf t x packets) }).modMail fun m =>
        { m with downs := m.downs ++ packets.map fun y => ⟨t, y.tag, y.octets.length⟩ } := by
  unfold State.sendFrame
  simp only [filled, plan]
  rfl

theorem frameOf_places (s : State) (t : Tree) (x : Plan) (packets : List Packet) (i : Fin 4) :
    (s.frameOf t x packets).places[i.val]? = some (Place.carried s.frame (s.engine t).places[i.val]) := by
  simp [State.frameOf]

end

/-- Settles O25: the scan tag by tag, the loads after a boundary, and the downstream frame from the head of its queue. -/
theorem aBoundaryPromotesRecordsAndFillsItsDownstreamFrame :
    Obligations.ABoundaryPromotesRecordsAndFillsItsDownstreamFrame := by
  refine ⟨fun s t => ⟨fun release scan => ?_, fun due => ?_⟩, fun s u t live boundary enabled =>
    boundary_load live boundary enabled, fun s t x plan => ?_⟩
  · refine if_neg (not_or.mpr ⟨?_, ?_⟩)
    · exact Nat.not_lt.mpr (Nat.le_of_eq release)
    · exact Bool.eq_false_iff.mp scan
  · obtain ⟨load, loads, record, tracker, rest⟩ := promotionScan_scanned due
    exact ⟨s.scanSum t, scanSum_one s t, fun k _ _ => scanSum_succ s t k, load, loads, record, tracker, rest⟩
  · obtain ⟨examined, rest, split, filled, within, stops⟩ :=
      fillFrame_split (s.takesDataOn t) (s.engine t).queue 0 (by omega)
    simp only [Nat.zero_add, takesDataOn_eq] at filled within stops
    let d := s.frameOf t x (examined.filter fun y => decide
      (((s.record y.tag).state = .active ∨ (s.record y.tag).state = .parked) ∧ (s.record y.tag).tree = some t))
    have whole := sendFrame_eq plan filled
    have engine (z : Tree) := modEngine_engine s t z fun e => { e with queue := rest, down := some d }
    refine ⟨d, examined, rest, split, ?_, fun z other => ?_, rfl, rfl, rfl, rfl, rfl, rfl, fun i => ⟨fun empty => ?_,
      fun y j held low later => ?_⟩, rfl, within, payload_length within, stops, ?_⟩
    · rw [whole]
      exact (engine t).trans (if_pos rfl)
    · rw [whole]
      exact (engine z).trans (if_neg other)
    · rw [frameOf_places, empty]
      rfl
    · rw [frameOf_places, held, carried_of_frame low later]
    · rw [whole]
      rfl

end Sys2Proof.Machine

/-! ## Numbered vectors as lists of their positions, counting from 0 -/

namespace Sys2Proof.Machine

section
variable {α : Type} {n : Nat} (v : Vector α n) (absent : α)

theorem zipIdx_toList_eq : v.toList.zipIdx = (List.range n).map fun k => (readAt v (k + 1) absent, k) := by
  apply List.ext_getElem
  · simp
  · intro i h1 h2
    have hi : i < n := by simpa using h2
    simp [readAt, hi]

theorem toList_eq : v.toList = (List.range n).map fun k => readAt v (k + 1) absent := by
  have fst := congrArg (List.map Prod.fst) (zipIdx_toList_eq v absent)
  rwa [List.zipIdx_map_fst, List.map_map] at fst

/-- The lowest position that passes a test. -/
theorem findIdx?_toList_eq (test : α → Bool) :
    v.toList.findIdx? test = (List.range n).find? fun k => test (readAt v (k + 1) absent) := by
  rw [List.findIdx?_eq_fst_find?_zipIdx, zipIdx_toList_eq v absent, List.find?_map, Option.map_map]
  exact Option.map_id'

theorem countP_toList_eq (test : α → Bool) :
    v.toList.countP test = ((List.range n).filter fun k => test (readAt v (k + 1) absent)).length := by
  rw [toList_eq v absent, List.countP_map, List.countP_eq_length_filter]
  rfl

end

end Sys2Proof.Machine

/-! ## Reads of enrolment, strangers, tracking, light, log and hunts (R80, R89, R104, R143, R146, R169; log entry 32) -/

namespace Sys2Proof.Machine

/-! ### One equation for each read, on a link that serves it -/

section
variable {s : State} {l : LinkId} {seq : Nat} {t : Tree}

theorem exec_readEnrolment_eq (h : s.Serves l .read) :
    exec (.readEnrolment l seq t.val) s = .next (s.served l 16 seq .ok (.enrolment (s.enrolView t))) := by
  show live s _ = _
  rw [live_out _ _ h.1.1, State.reqReadEnrolment, request_serves _ _ _ _ _ h, withTree_fin, asked_answer]
  rfl

theorem exec_readStranger_eq (h : s.Serves l .read) :
    exec (.readStranger l seq) s =
      .next (s.served l 18 seq .ok (.strangers s.strangerEntries (16 - s.strangerEntries.length))) := by
  show live s _ = _
  rw [live_out _ _ h.1.1, State.reqReadStranger, request_serves _ _ _ _ _ h, asked_answer]
  rfl

theorem exec_readTracking_eq {k : Nat} (h : s.Serves l .read) (known : (s.record k).state ≠ .vacant) :
    exec (.readTracking l seq k) s = .next (s.served l 19 seq .ok (.tracking (s.trackingView k))) := by
  show live s _ = _
  rw [live_out _ _ h.1.1, State.reqReadTracking, request_serves _ _ _ _ _ h,
    withTag_mem _ _ _ _ (record_tag_range known), State.needRecord, asked_record, if_neg known, asked_answer]
  rfl

theorem exec_readLight_eq (h : s.Serves l .read) :
    exec (.readLight l seq t.val) s = .next (s.served l 20 seq .ok (.light (s.lightView t))) := by
  show live s _ = _
  rw [live_out _ _ h.1.1, State.reqReadLight, request_serves _ _ _ _ _ h, withTree_fin, asked_answer]
  rfl

theorem exec_readLogStatus_eq (h : s.Serves l .read) :
    exec (.readLogStatus l seq) s = .next (s.served l 21 seq .ok
      (.logStatus (s.log.toList.countP (·.isSome)) (s.log.toList.findIdx? (·.isSome)) s.overflow)) := by
  show live s _ = _
  rw [live_out _ _ h.1.1, State.reqReadLogStatus, request_serves _ _ _ _ _ h, asked_answer]
  rfl

theorem exec_readObservation_eq {n : Nat} (h : s.Serves l .read) :
    exec (.readObservation l seq n) s =
      .next (if 16 ≤ n then s.served l 22 seq .badRequest .none
        else match s.logRecord n with
          | some o => s.served l 22 seq .ok (.observation o)
          | none => s.served l 22 seq .noData .none) := by
  have log : (s.asked l (.readObservation l seq n)).logRecord n = s.logRecord n := rfl
  show live s _ = _
  rw [live_out _ _ h.1.1, State.reqReadObservation, request_serves _ _ _ _ _ h, State.serveReadObservation, log]
  simp only [asked_answer]
  rfl

theorem exec_readHunt_eq (h : s.Serves l .read) :
    exec (.readHunt l seq t.val) s = .next (s.served l 28 seq .ok (.hunt (s.huntView t))) := by
  show live s _ = _
  rw [live_out _ _ h.1.1, State.reqReadHunt, request_serves _ _ _ _ _ h, withTree_fin, asked_answer]
  rfl

end

/-! ### The items of the reads -/

section
variable (s : State) (t : Tree) (k : Nat)

/-- The ranging in progress is that of the head of the ranging queue, where its record is RANGING (R89). -/
theorem rangingView_eq :
    s.rangingView t = ((s.enrol t).queue.head?.filter fun k => (s.record k).state == .ranging).map fun k =>
      ((s.enrol t).attempt, s.kept.any (Kept.isRanged k)) := by
  unfold State.rangingView
  cases (s.enrol t).queue with
  | nil => rfl
  | cons k rest => by_cases ranging : (s.record k).state = .ranging <;> simp [ranging]

theorem strangerCount_eq :
    (s.strangers.toList.filterMap id).countP (fun x => x.tree == t) =
      ((List.range 16).filter fun n => (s.stranger n).any fun x => x.tree == t).length := by
  have any (x : Option Stranger) : (x.map fun y => y.tree == t).getD false = x.any fun y => y.tree == t := by
    cases x <;> rfl
  rw [List.countP_filterMap, countP_toList_eq s.strangers none]
  simp only [id_eq, any]
  rfl

theorem strangerEntries_eq :
    s.strangerEntries = (List.range 16).filterMap fun n => (s.stranger n).map fun x => (n, x) := by
  rw [State.strangerEntries, zipIdx_toList_eq s.strangers none, List.filterMap_map]
  rfl

/-- The positions that hold no entry are the rest of the sixteen (R80). -/
theorem emptyStrangers_eq :
    16 - s.strangerEntries.length = ((List.range 16).filter fun n => (s.stranger n).isNone).length := by
  have empty (n : Nat) : decide (¬ (s.stranger n).isSome = true) = (s.stranger n).isNone := by
    cases s.stranger n <;> rfl
  have split := List.length_eq_countP_add_countP (fun n => (s.stranger n).isSome) (l := List.range 16)
  simp only [List.length_range, empty] at split
  rw [strangerEntries_eq, List.length_filterMap_eq_countP, ← List.countP_eq_length_filter]
  simp only [Option.isSome_map]
  omega

theorem isCorrection_iff (x : Kept) : x.isCorrection k = true ↔ ∃ e, x.entry = ⟨.setDelay k e, .corrected⟩ := by
  obtain ⟨_, ⟨dir, origin⟩, _⟩ := x
  cases dir <;> simp [Kept.isCorrection, Directive.isSetDelay, and_comm]

/-- The tag that a LASER_SHUT names. -/
def Directive.shutTag : Directive → Option Nat
  | .laserShut k => some k
  | _ => none

theorem shutTag_eq_some_iff (d : Directive) : d.shutTag = some k ↔ d = .laserShut k := by
  cases d <;> simp [Directive.shutTag]

theorem keptShuts_eq : s.keptShuts t =
    (s.kept.filter fun x => x.tree == t && x.entry.origin == .strikeShut).filterMap (·.entry.dir.shutTag) := rfl

theorem mem_keptShuts_iff : k ∈ s.keptShuts t ↔ ∃ x ∈ s.kept, x.tree = t ∧ x.entry = ⟨.laserShut k, .strikeShut⟩ := by
  have entry (x : LaneEntry) : x = ⟨.laserShut k, .strikeShut⟩ ↔ x.origin = .strikeShut ∧ x.dir = .laserShut k := by
    obtain ⟨dir, origin⟩ := x
    simp [and_comm]
  simp only [keptShuts_eq, List.mem_filterMap, List.mem_filter, Bool.and_eq_true, beq_iff_eq, shutTag_eq_some_iff, entry,
    and_assoc]

theorem isEnding_iff (x : Kept) : x.isEnding t = true ↔
    x.tree = t ∧ (x.entry.origin = .huntRelease ∨ ∃ a b, x.entry.origin = .huntShut a b) := by
  obtain ⟨_, ⟨_, origin⟩, _⟩ := x
  cases origin <;> simp [Kept.isEnding]

end

section
variable {s : State} {k : Nat}

theorem keptCorrection_of_none (none : ∀ x ∈ s.kept, ∀ e, x.entry ≠ ⟨.setDelay k e, .corrected⟩) :
    s.keptCorrection k = .none := by
  have absent : s.kept.find? (Kept.isCorrection k) = .none := List.find?_eq_none.mpr fun x hx own => by
    obtain ⟨e, entry⟩ := (isCorrection_iff ..).mp own
    exact none x hx e entry
  rw [State.keptCorrection, absent, Option.bind_none]

theorem keptCorrection_of_first {before after : List Kept} {e : Nat} {u : Tree} {due : Bool}
    (kept : s.kept = before ++ ⟨u, ⟨.setDelay k e, .corrected⟩, due⟩ :: after)
    (first : ∀ x ∈ before, ∀ e, x.entry ≠ ⟨.setDelay k e, .corrected⟩) : s.keptCorrection k = some e := by
  have found : s.kept.find? (Kept.isCorrection k) = some ⟨u, ⟨.setDelay k e, .corrected⟩, due⟩ :=
    List.find?_eq_some_iff_append.mpr ⟨(isCorrection_iff ..).mpr ⟨e, rfl⟩, before, after, kept, fun x hx => by
      rw [Bool.not_eq_true', ← Bool.not_eq_true, isCorrection_iff]
      exact fun ⟨e, entry⟩ => first x hx e entry⟩
  rw [State.keptCorrection, found, Option.bind_some]

end

/-- Settles O59: each read by the equation of its step, and its lists by what they hold. -/
theorem readsOfWatchAndEnrolmentChangeNothing : Obligations.ReadsOfWatchAndEnrolmentChangeNothing := by
  refine fun l seq s h => ⟨fun t => ?_, ?_, fun k t known tree => ?_, fun t => ?_, ?_,
    fun n => ⟨fun high => ?_, fun low free => ?_, fun low o own => ?_⟩, fun t => ?_⟩
  · rw [exec_readEnrolment_eq h, State.enrolView, rangingView_eq, strangerCount_eq]
    rfl
  · rw [exec_readStranger_eq h, emptyStrangers_eq, strangerEntries_eq]
  · refine ⟨s.keptCorrection k, ?_, keptCorrection_of_none, fun _ _ _ _ _ => keptCorrection_of_first⟩
    rw [exec_readTracking_eq h known, State.trackingView, treeNo_of_tree tree, tree]
  · exact ⟨s.keptShuts t, exec_readLight_eq h, fun k => mem_keptShuts_iff s t k⟩
  · rw [exec_readLogStatus_eq h, countP_toList_eq s.log none, findIdx?_toList_eq s.log none]
    rfl
  · rw [exec_readObservation_eq h, if_pos high]
  · rw [exec_readObservation_eq h, if_neg (not_le.mpr low), free]
  · rw [exec_readObservation_eq h, if_neg (not_le.mpr low), own]
  · refine ⟨_, exec_readHunt_eq h, fun d => ?_⟩
    simp only [List.mem_map, List.mem_filter, isEnding_iff]
    exact exists_congr fun x => by tauto

end Sys2Proof.Machine

/-! ## The enrolment mode, the stranger list and the end of a discovery window (R66, R70, R77 to R79) -/

namespace Sys2Proof.Machine

/-! ### Positions of the stranger list -/

/-- One position of the stranger list written. -/
def State.modStranger (s : State) (n : Nat) (f : Option Stranger → Option Stranger) : State :=
  { s with strangers := updateAt s.strangers (n + 1) f }

section
variable {s : State} {n : Nat} {x : Stranger}

theorem stranger_range (held : s.stranger n = some x) : n < 16 := by
  by_contra high
  rw [State.stranger, readAt_of_not_mem _ _ _ (by omega)] at held
  cases held

theorem modStranger_stranger (low : n < 16) (f : Option Stranger → Option Stranger) (m : Nat) :
    (s.modStranger n f).stranger m = if m = n then f (s.stranger n) else s.stranger m :=
  (readAt_updateAt s.strangers (m + 1) (n + 1) f none).trans (if_congr (by omega) rfl rfl)

/-- What a write of one position leaves: its own value, and every other position as it was. -/
theorem modStranger_effect (low : n < 16) (f : Option Stranger → Option Stranger) :
    (s.modStranger n f).stranger n = f (s.stranger n) ∧ ∀ m, m ≠ n → (s.modStranger n f).stranger m = s.stranger m :=
  ⟨(modStranger_stranger low f n).trans (if_pos rfl), fun m hm => (modStranger_stranger low f m).trans (if_neg hm)⟩

end

/-! ### SET_ENROLMENT and DISMISS_STRANGER (R66, R79) -/

section
variable {s : State} {l : LinkId} {seq n : Nat} {t : Tree}

theorem exec_setEnrolment_eq (h : s.Serves l .control) :
    exec (.setEnrolment l seq t.val n) s =
      .next (match enrolModeOf n with
        | some mode => (s.served l 15 seq .ok (.mode mode)).modEnrol t fun e => { e with mode := mode }
        | none => s.served l 15 seq .badRequest .none) := by
  have written (mode : EnrolMode) : ((s.asked l (.setEnrolment l seq t.val n)).modEnrol t fun e =>
        { e with mode := mode }).answer l .ok (.mode mode) =
      ((s.asked l (.setEnrolment l seq t.val n)).answer l .ok (.mode mode)).modEnrol t fun e => { e with mode := mode } := rfl
  show live s _ = _
  rw [live_out _ _ h.1.1, State.reqSetEnrolment, request_serves _ _ _ _ _ h, withTree_fin, State.serveSetEnrolment]
  simp only [written, asked_answer]
  rfl

theorem enrolModeOf_above (high : 3 ≤ n) : enrolModeOf n = none := by
  match n with
  | n + 3 => rfl

theorem exec_dismissStranger_eq (h : s.Serves l .control) :
    exec (.dismissStranger l seq n) s =
      .next (if 16 ≤ n then s.served l 17 seq .badRequest .none
        else match s.stranger n with
          | some x => (s.served l 17 seq .ok (.stranger x)).modStranger n fun _ => none
          | none => s.served l 17 seq .noData .none) := by
  have list : (s.asked l (.dismissStranger l seq n)).stranger n = s.stranger n := rfl
  have removed (x : Stranger) :
      ({ s.asked l (.dismissStranger l seq n) with
        strangers := updateAt (s.asked l (.dismissStranger l seq n)).strangers (n + 1) fun _ => none } : State).answer l .ok
          (.stranger x) =
      ((s.asked l (.dismissStranger l seq n)).answer l .ok (.stranger x)).modStranger n fun _ => none := rfl
  show live s _ = _
  rw [live_out _ _ h.1.1, State.reqDismissStranger, request_serves _ _ _ _ _ h, State.serveDismiss, list]
  simp only [removed, asked_answer]
  rfl

end

/-! ### The stranger list at an announcement (R77) -/

section
variable {s : State} {t : Tree} {f : FrameNo} {serial : Serial} {reason : StrangerReason} {delta : Int} {n : Nat}

/-- Position `n` holds the entry of a serial and tree. -/
def State.listsStranger (s : State) (serial : Serial) (t : Tree) (n : Nat) : Prop :=
  ∃ x, s.stranger n = some x ∧ x.serial = serial ∧ x.tree = t

theorem listsStranger_iff : ((s.stranger n).map (Stranger.isOf serial t)).getD false = true ↔ s.listsStranger serial t n := by
  unfold State.listsStranger
  cases s.stranger n <;> simp [Stranger.isOf]

theorem enterStranger_of_listed (own : s.listsStranger serial t n) (first : ∀ m, m < n → ¬ s.listsStranger serial t m) :
    s.enterStranger t f serial reason delta =
      s.modStranger n (Option.map (·.seenAgain reason f (s.enrol t).seqNo delta)) := by
  have low : n < 16 := own.elim fun _ held => stranger_range held.1
  have found : s.strangers.toList.findIdx? (fun x => (x.map (Stranger.isOf serial t)).getD false) = some n := by
    rw [findIdx?_toList_eq s.strangers none, List.find?_range_eq_some]
    exact ⟨listsStranger_iff.mpr own, List.mem_range.mpr low, fun m hm => by
      rw [Bool.not_eq_true', ← Bool.not_eq_true]
      exact mt listsStranger_iff.mp (first m hm)⟩
  rw [State.enterStranger, found]
  rfl

theorem not_listed (none : ∀ m, ¬ s.listsStranger serial t m) :
    s.strangers.toList.findIdx? (fun x => (x.map (Stranger.isOf serial t)).getD false) = .none := by
  rw [findIdx?_toList_eq s.strangers .none, List.find?_eq_none]
  exact fun m _ => mt listsStranger_iff.mp (none m)

/-- The entry of a serial and tree that the list did not hold (R77). -/
def Stranger.firstSeenAt (t : Tree) (f : FrameNo) (serial : Serial) (reason : StrangerReason) (seqNo : Nat)
    (delta : Int) : Stranger := ⟨serial, t, reason, f, f, seqNo, 1, delta⟩

theorem enterStranger_of_room (none : ∀ m, ¬ s.listsStranger serial t m) (low : n < 16) (free : s.stranger n = .none)
    (first : ∀ m, m < n → s.stranger m ≠ .none) :
    s.enterStranger t f serial reason delta =
      (s.modStranger n fun _ => some (.firstSeenAt t f serial reason (s.enrol t).seqNo delta)).raise .stranger := by
  have found : s.strangers.toList.findIdx? (·.isNone) = some n := by
    rw [findIdx?_toList_eq s.strangers .none, List.find?_range_eq_some]
    exact ⟨Option.isNone_iff_eq_none.mpr free, List.mem_range.mpr low, fun m hm => by
      rw [Bool.not_eq_true', Option.isNone_eq_false_iff]
      exact Option.isSome_iff_ne_none.mpr (first m hm)⟩
  rw [State.enterStranger, not_listed none, found]
  rfl

theorem enterStranger_of_full (none : ∀ m, ¬ s.listsStranger serial t m) (full : ∀ n, n < 16 → s.stranger n ≠ .none) :
    s.enterStranger t f serial reason delta = s := by
  have found : s.strangers.toList.findIdx? (·.isNone) = .none := by
    rw [findIdx?_toList_eq s.strangers .none, List.find?_eq_none]
    exact fun m hm => mt Option.isNone_iff_eq_none.mp (full m (List.mem_range.mp hm))
  rw [State.enterStranger, not_listed none, found]

end

/-! ### The end of a discovery window (R70, R78) -/

section
variable {s : State} {t : Tree} {f : FrameNo}

/-- DISCOVERY_WINDOW_END takes the oldest message of the tree, a window end (R69, R70). -/
theorem exec_discoveryWindowEnd_eq {before after : List DiscoveryMsg} (h : s.OutOfReset)
    (mail : s.mail.discovery = before ++ ⟨t, f, .windowEnd⟩ :: after) (first : ∀ x ∈ before, x.tree ≠ t) :
    exec (.discoveryWindowEnd t) s =
      .next (({ s with mail := { s.mail with discovery := before ++ after } } : State).endDiscovery t f) := by
  have found : s.takeDiscoveryMsg t =
      some (⟨t, f, .windowEnd⟩, { s with mail := { s.mail with discovery := before ++ after } }) := by
    rw [State.takeDiscoveryMsg, mail, takeFirst_split (by simp) fun x hx => by simpa using first x hx]
    rfl
  show live s _ = _
  rw [live_out _ _ h, found]
  rfl

/-- The interval of a tree at the end of a window, whose note is then closed (R70). -/
theorem endDiscovery_enrol (s : State) (t x : Tree) (f : FrameNo) : (s.endDiscovery t f).enrol x =
    if x = t then
      { s.enrol t with
        d := nextInterval (s.enrol t).d (s.engine t).params.d ((s.enrol t).noteOf f)
        notes := (s.enrol t).notes.filter (·.frame != f) }
    else s.enrol x :=
  modEnrol_enrol s t x fun e =>
    { e with
      d := nextInterval e.d (s.engine t).params.d (e.noteOf f)
      notes := e.notes.filter (·.frame != f) }

/-- The strangers of a tree that were last seen 64 or more discovery frames ago are removed (R78). -/
theorem endDiscovery_stranger (s : State) (t : Tree) (f : FrameNo) (n : Nat) : (s.endDiscovery t f).stranger n =
    (s.stranger n).filter fun x =>
      decide (¬ (x.tree = t ∧ 64 ≤ ((s.enrol t).seqNo + 65536 - x.seenInDiscovery) % 65536)) := by
  have aged (x : Stranger) : (!x.aged t (s.enrol t).seqNo) =
      decide (¬ (x.tree = t ∧ 64 ≤ ((s.enrol t).seqNo + 65536 - x.seenInDiscovery) % 65536)) := by
    rw [decide_not, Bool.decide_and]
    rfl
  refine (dropStrangers_stranger ..).trans ?_
  rw [modEnrol_enrol_self]
  exact congrArg (fun test => (s.stranger n).filter test) (funext aged)

end

/-- Settles O46: the answers of the two requests, the stranger list by its entries, and a window end by what it held. -/
theorem enrolmentModeIntervalAndStrangersChange : Obligations.EnrolmentModeIntervalAndStrangersChange := by
  refine ⟨fun l seq t n s h => ⟨fun mode value => ?_, fun high => ?_, fun high => ?_, fun low empty => ?_,
    fun low x held => ?_⟩, fun t f serial reason delta s => ?_, fun t f before after s h mail first => ?_⟩
  · have named : enrolModeOf n = some mode := by
      simp only [List.mem_cons, Prod.mk.injEq, List.not_mem_nil, or_false] at value
      rcases value with ⟨rfl, rfl⟩ | ⟨rfl, rfl⟩ | ⟨rfl, rfl⟩ <;> rfl
    rw [exec_setEnrolment_eq h, named]
  · rw [exec_setEnrolment_eq h, enrolModeOf_above high]
  · rw [exec_dismissStranger_eq h, if_pos high]
  · rw [exec_dismissStranger_eq h, if_neg (not_le.mpr low), empty]
  · obtain ⟨own, others⟩ := modStranger_effect (s := s.served l 17 seq .ok (.stranger x)) low fun _ => none
    exact ⟨_, by rw [exec_dismissStranger_eq h, if_neg (not_le.mpr low), held], own, others, rfl⟩
  · intro isOf seqNo
    refine ⟨fun n x held own least => ?_, fun n none low free least => ?_, fun none full => enterStranger_of_full none full⟩
    · obtain ⟨written, others⟩ := modStranger_effect (s := s) (stranger_range held)
        (Option.map (·.seenAgain reason f (s.enrol t).seqNo delta))
      rw [enterStranger_of_listed own least]
      refine ⟨written.trans ?_, others, rfl⟩
      obtain ⟨y, held', rfl, rfl⟩ := own
      obtain rfl : x = y := Option.some.inj (held.symm.trans held')
      rw [held]
      rfl
    · obtain ⟨written, others⟩ := modStranger_effect (s := s) low
        fun _ => some (.firstSeenAt t f serial reason (s.enrol t).seqNo delta)
      rw [enterStranger_of_room none low free least]
      exact ⟨written, others, rfl⟩
  · intro e held
    let taken : State := { s with mail := { s.mail with discovery := before ++ after } }
    have enrol : (taken.endDiscovery t f).enrol t = { e with
        d := nextInterval e.d (s.engine t).params.d held
        notes := e.notes.filter (·.frame != f) } := (endDiscovery_enrol taken t t f).trans (if_pos rfl)
    refine ⟨taken.endDiscovery t f, exec_discoveryWindowEnd_eq h mail first, fun collision => ?_,
      fun clear announced => ?_, fun clear silent => ?_, ?_, fun x hx => ?_, fun n => endDiscovery_stranger taken t f n, rfl⟩
    · rw [enrol, nextInterval, if_pos collision]
    · rw [enrol, nextInterval, if_neg (by rw [clear]; decide), if_pos announced]
    · rw [enrol, nextInterval, if_neg (by rw [clear]; decide), if_neg (by rw [silent]; decide)]
    · rw [enrol]
    · exact (endDiscovery_enrol taken t x f).trans (if_neg hx)

end Sys2Proof.Machine

/-! ## Hunts started and ended (R87, R136, R148 to R150, R161, R162; log entries 12 and 40) -/

namespace Sys2Proof.Machine

/-! ### The start of a hunt (R87, R136, R148, R149) -/

/-- A hunt controller as its hunt starts (R149). -/
def Hunt.started (h : Hunt) : Hunt where
  state := .confirming
  suspects := some (1, 256)
  hold := none
  round := 0
  count := 0
  verified := none
  tests := []
  requested := 0
  firstLit := false
  pendingTest := .atOnce
  roundDirs := []
  cutPending := h.cutPending
  outcome := h.outcome

/-- The stray history of a tree emptied (R136). -/
def LightWatch.emptied (w : LightWatch) : LightWatch := { w with closed := [], current := none }

theorem startHunt_eq (s : State) (t : Tree) :
    s.startHunt t = ((s.modHunt t (·.started)).modLight t (·.emptied)).abandonRanging t := rfl

/-- A start request is taken: the tree is RUNNING, its hunt IDLE, with no cut pending and no ending directive kept (R148). -/
def State.CanStartHunt (s : State) (t : Tree) : Prop :=
  (s.engine t).state = .running ∧ (s.hunt t).state = .idle ∧ (s.hunt t).cutPending = false ∧
    ¬ ∃ x ∈ s.kept, x.tree = t ∧ (x.entry.origin = .huntRelease ∨ ∃ a b, x.entry.origin = .huntShut a b)

theorem huntCanStart_iff (s : State) (t : Tree) : s.huntCanStart t = true ↔ s.CanStartHunt t := by
  simp only [State.huntCanStart, State.CanStartHunt, Bool.and_eq_true, Bool.not_eq_true', beq_iff_eq, and_assoc,
    List.any_eq_false, isEnding_iff, not_exists, not_and]

/-- The abandoning of a ranging touches nothing of hunts, light watch, engines or links, and leaves no trigger out. -/
theorem abandonRanging_keeps (s : State) (t : Tree) :
    let u := s.abandonRanging t
    u.hunts = s.hunts ∧ u.lights = s.lights ∧ u.engines = s.engines ∧ u.links = s.links ∧
      u.mail.triggers = s.mail.triggers := by
  have changed (k : Nat) (ranging : (s.record k).state = .ranging) :
      (s.changeState k .announced false).mail.triggers = s.mail.triggers := by
    obtain ⟨_, _, _, left⟩ := leaving_shape s k .announced
    rw [changeState_eq false (by rw [ranging]; decide), left]
    rfl
  unfold State.abandonRanging
  split
  · split
    · rename_i k _ _ own
      obtain ⟨_, _, _, _, _, _, _, shape⟩ := changeState_shape s k .announced false
      exact ⟨by rw [shape], by rw [shape], by rw [shape], by rw [shape], changed k own.1⟩
    · exact ⟨rfl, rfl, rfl, rfl, rfl⟩
  · exact ⟨rfl, rfl, rfl, rfl, rfl⟩

/-- The record at the head of the ranging queue goes back to ANNOUNCED, where it is RANGING on the tree (R87). -/
theorem abandonRanging_record (s : State) (t : Tree) (k : Nat) : (s.abandonRanging t).record k =
    if (s.enrol t).queue.head? = some k ∧ (s.record k).state = .ranging ∧ (s.record k).tree = some t then
      { s.record k with state := .announced, rangeAttempts := 0 }
    else s.record k := by
  unfold State.abandonRanging
  cases (s.enrol t).queue with
  | nil => rw [if_neg (by simp)]
  | cons j rest =>
    dsimp only
    by_cases own : (s.record j).state = .ranging ∧ (s.record j).tree = some t
    · have range := record_tag_range (s := s) (k := j) (by rw [own.1]; decide)
      rw [if_pos own, changeState_record]
      by_cases same : k = j
      · subst same
        rw [if_pos ⟨rfl, by rw [own.1]; decide, range⟩, if_pos ⟨rfl, own⟩]
        rfl
      · rw [if_neg fun h => same h.1, if_neg fun h => same (Option.some.inj h.1).symm]
    · rw [if_neg own, if_neg]
      rintro ⟨head, state, tree⟩
      obtain rfl : j = k := Option.some.inj head
      exact own ⟨state, tree⟩

/-- From `s` to `u` the hunt of a tree has started, its history is emptied and its ranging in progress abandoned. -/
structure State.HuntStarted (s u : State) (t : Tree) : Prop where
  hunt : u.hunt t = (s.hunt t).started
  light : u.light t = (s.light t).emptied
  others : ∀ x, x ≠ t → u.hunt x = s.hunt x ∧ u.light x = s.light x
  engines : u.engines = s.engines
  records : ∀ k, u.record k =
    if (s.enrol t).queue.head? = some k ∧ (s.record k).state = .ranging ∧ (s.record k).tree = some t then
      { s.record k with state := .announced, rangeAttempts := 0 }
    else s.record k

theorem startHunt_started (s : State) (t : Tree) : s.HuntStarted (s.startHunt t) t := by
  let w := (s.modHunt t (·.started)).modLight t (·.emptied)
  obtain ⟨hunts, lights, engines, -, -⟩ := abandonRanging_keeps w t
  have hunt (x : Tree) : (w.abandonRanging t).hunt x = w.hunt x := by rw [State.hunt, hunts]; rfl
  have light (x : Tree) : (w.abandonRanging t).light x = w.light x := by rw [State.light, lights]; rfl
  rw [startHunt_eq]
  exact {
    hunt := (hunt t).trans (modHunt_hunt_self s t _)
    light := (light t).trans (modLight_light_self (s.modHunt t (·.started)) t _)
    others := fun x hx =>
      ⟨(hunt x).trans ((modHunt_hunt s t x _).trans (if_neg hx)),
        (light x).trans ((modLight_light (s.modHunt t (·.started)) t x _).trans (if_neg hx))⟩
    engines := engines
    records := abandonRanging_record w t }

theorem startHunt_links (s : State) (t : Tree) : (s.startHunt t).links = s.links :=
  (abandonRanging_keeps ((s.modHunt t (·.started)).modLight t (·.emptied)) t).2.2.2.1

theorem startHunt_triggers (s : State) (t : Tree) : (s.startHunt t).mail.triggers = s.mail.triggers :=
  (abandonRanging_keeps ((s.modHunt t (·.started)).modLight t (·.emptied)) t).2.2.2.2

section
variable {s : State} {l : LinkId} {seq : Nat} {t : Tree}

theorem exec_hunt_eq (h : s.Serves l .control) :
    exec (.hunt l seq t.val) s =
      .next (if s.huntCanStart t then ((s.asked l (.hunt l seq t.val)).startHunt t).answer l .ok .none
        else s.served l 25 seq .state .none) := by
  show live s _ = _
  rw [live_out _ _ h.1.1, State.reqHunt, request_serves _ _ _ _ _ h, withTree_fin, State.serveHunt, asked_answer]
  rfl

/-- AUTO_HUNT_TRIGGER takes the oldest trigger request of its tree (R136, R148). -/
theorem exec_autoHuntTrigger_eq {before after : List Tree} (h : s.OutOfReset)
    (triggers : s.mail.triggers = before ++ t :: after) (first : t ∉ before) :
    let taken : State := { s with mail := { s.mail with triggers := before ++ after } }
    exec (.autoHuntTrigger t) s = .next (if s.huntCanStart t then taken.startHunt t else taken) := by
  intro taken
  have found : takeFirst s.mail.triggers (fun x => x == t) = some (t, before ++ after) := by
    rw [triggers]
    exact takeFirst_split (by simp) fun x hx => beq_eq_false_iff_ne.mpr fun own => first (own ▸ hx)
  show live s _ = _
  rw [live_out _ _ h, found]
  rfl

/-- The answer to a link whose request waits in a state that has the links of the request's taking. -/
theorem answer_link_of_asked {u : State} {i : Instr} (links : u.links = (s.asked l i).links) (status : Status)
    (data : ResponseData) :
    (u.answer l status data).link l = (s.link l).served i.requestCode (BitVec.ofNat 8 i.requestSeq) status data := by
  have link : u.link l = (s.link l).asked i := (link_congr links l).trans (asked_link s l i)
  rw [State.answer, modLink_link_self, link, answered_asked]

end

/-! ### The ending of a hunt (R161) -/

/-- A hunt controller as its hunt ends (R161). -/
def Hunt.ended (h : Hunt) (outcome : HuntOutcome) (frame : FrameNo) : Hunt :=
  { h with
    state := .idle
    suspects := none
    verified := none
    tests := []
    pendingTest := .absent
    roundDirs := []
    outcome := some (outcome, frame) }

/-- A directive of the urgent lane as the round that offered it is over (R161). -/
def LaneEntry.roundOver (x : LaneEntry) : LaneEntry := if x.origin = .huntRound then { x with origin := .huntOver } else x

theorem roundOver_dir (x : LaneEntry) : x.roundOver.dir = x.dir := by
  unfold LaneEntry.roundOver
  split <;> rfl

section
variable (s : State) (t : Tree) (outcome : HuntOutcome)

theorem endHunt_eq : s.endHunt t outcome =
    ((((s.modHunt t (·.ended outcome s.frame)).dropKept fun x => x.tree == t && x.entry.origin == .huntRound).modEngine t
      fun e => { e with urgent := e.urgent.map (·.roundOver) }).modLight t (·.emptied)).raise .tree := rfl

theorem endHunt_hunt : (s.endHunt t outcome).hunt t = (s.hunt t).ended outcome s.frame := by
  simp [endHunt_eq, State.raise]

theorem endHunt_light : (s.endHunt t outcome).light t = (s.light t).emptied := by
  simp [endHunt_eq, State.raise]

theorem endHunt_engine : (s.endHunt t outcome).engine t =
    { s.engine t with urgent := (s.engine t).urgent.map (·.roundOver) } := by
  simp [endHunt_eq, State.raise]

theorem endHunt_mail :
    (s.endHunt t outcome).mail = { s.mail with attention := s.mail.attention ++ [.event .tree] } := rfl

theorem endHunt_frame :
    let u := s.endHunt t outcome
    u = { s with engines := u.engines, lights := u.lights, hunts := u.hunts, kept := u.kept, mail := u.mail } := rfl

theorem endHunt_urgent :
    ((s.endHunt t outcome).engine t).urgent.map (·.dir) = (s.engine t).urgent.map (·.dir) := by
  rw [endHunt_engine, List.map_map]
  exact List.map_congr_left fun x _ => roundOver_dir x

/-- What the hunt controller still keeps once the directives of its round are abandoned (R161). -/
theorem endHunt_huntKept : ((s.endHunt t outcome).huntKept t).map (·.entry.dir) = s.endingKept t := by
  unfold State.endingKept State.huntKept
  rw [endHunt_eq]
  show List.map _ (List.filter _ (List.filter _ s.kept)) = _
  rw [List.filter_filter, List.filter_filter]
  congr 2
  funext x
  dsimp only
  cases x.tree == t <;> cases x.entry.origin.producer == .hunt <;> simp [bne]

/-- The urgent lane has as much room for the hunt controller as before the ending (R14, R16). -/
theorem endHunt_huntRoom (still : List Directive) : (s.endHunt t outcome).huntRoom t still = s.huntRoom t still := by
  have length := congrArg List.length (endHunt_urgent s t outcome)
  simp only [List.length_map] at length
  rw [State.huntRoom, length]
  rfl

end

/-! ### The release that undoes the holds of a tree (R14, R16, R155, R159, R161; log entry 12) -/

section
variable {s : State} {t : Tree} {x : LaneEntry}

theorem mem_huntKept_iff (y : Kept) :
    y ∈ s.huntKept t ↔ y ∈ s.kept ∧ y.tree = t ∧ y.entry.origin.producer = .hunt := by
  simp [State.huntKept]

theorem huntRoom_pos_iff (still : List Directive) :
    1 ≤ s.huntRoom t still ↔ still = [] ∧ (s.engine t).urgent.length < 8 := by
  unfold State.huntRoom
  split
  · rename_i none
    rw [and_iff_right none]
    omega
  · rename_i some
    exact iff_of_false (by decide) fun both => some both.1

/-- An urgent directive of the hunt controller is blocked where `huntRoom` has no room for it. -/
theorem laneBlocked_hunt_iff (own : x.origin.producer = .hunt) (urgent : x.dir.urgent = true) :
    s.laneBlocked t x ↔ ¬ 1 ≤ s.huntRoom t ((s.huntKept t).map (·.entry.dir)) := by
  have kept : (∃ y ∈ s.kept, y.tree = t ∧ y.entry.origin.producer = x.origin.producer) ↔ s.huntKept t ≠ [] := by
    rw [own, Ne, List.eq_nil_iff_forall_not_mem, not_forall_not]
    exact exists_congr fun y => (mem_huntKept_iff y).symm
  have full : (s.engine t).laneFull x.dir = true ↔ 8 ≤ (s.engine t).urgent.length := by
    rw [laneFull_iff, and_iff_right urgent, or_iff_left fun other => other.1 urgent]
  rw [State.laneBlocked, kept, full, huntRoom_pos_iff, List.map_eq_nil_iff, Decidable.not_and_iff_not_or_not, not_lt, or_comm]

theorem huntKept_append (own : x.origin.producer = .hunt) (due : Bool) :
    ({ s with kept := s.kept ++ [⟨t, x, due⟩] } : State).huntKept t = s.huntKept t ++ [⟨t, x, due⟩] := by
  simp [State.huntKept, own]

theorem huntOffered_of_room {u : State} {dir : Directive} {still : List Directive} (room : 1 ≤ s.huntRoom t still)
    (urgent : (u.engine t).urgent.map (·.dir) = (s.engine t).urgent.map (·.dir) ++ [dir])
    (kept : (u.huntKept t).map (·.entry.dir) = still) : s.HuntOffered u t still [dir] := by
  rw [State.HuntOffered, List.take_of_length_le (by simpa using room), List.drop_of_length_le (by simpa using room),
    List.append_nil]
  exact ⟨urgent, kept⟩

theorem huntOffered_of_none {u : State} {dir : Directive} {still : List Directive} (full : ¬ 1 ≤ s.huntRoom t still)
    (urgent : (u.engine t).urgent.map (·.dir) = (s.engine t).urgent.map (·.dir))
    (kept : (u.huntKept t).map (·.entry.dir) = still ++ [dir]) : s.HuntOffered u t still [dir] := by
  have zero : s.huntRoom t still = 0 := by omega
  rw [State.HuntOffered, zero, List.take_zero, List.drop_zero, List.append_nil]
  exact ⟨urgent, kept⟩

/-- The release accepted: it stands at the tail of the urgent lane, and no record of the tree is held (R14, R161). -/
theorem offerRelease_of_room (enabled : (s.engine t).state ≠ .disabled)
    (room : 1 ≤ s.huntRoom t ((s.huntKept t).map (·.entry.dir))) :
    s.offerRelease t =
      ((s.modEngine t (·.push ⟨.laserRelease 1 256, .huntRelease⟩)).setHeld t 1 256 false).modHunt t fun h =>
        { h with hold := none } :=
  offer_accepted s t _ enabled (mt (laneBlocked_hunt_iff rfl rfl).mp (not_not_intro room))

/-- The release kept behind the directives kept before it (R16; log entry 12). -/
theorem offerRelease_of_none (enabled : (s.engine t).state ≠ .disabled)
    (full : ¬ 1 ≤ s.huntRoom t ((s.huntKept t).map (·.entry.dir))) :
    s.offerRelease t =
      { s with kept := s.kept ++ [⟨t, ⟨.laserRelease 1 256, .huntRelease⟩, s.retryDue t .hunt⟩] } :=
  offer_full s t _ enabled ((laneBlocked_hunt_iff rfl rfl).mpr full)

/-- What the offer of the release leaves, as its lane takes or refuses it. -/
theorem offerRelease_effect (enabled : (s.engine t).state ≠ .disabled) :
    let u := s.offerRelease t
    let still := (s.huntKept t).map (·.entry.dir)
    s.HuntOffered u t still [.laserRelease 1 256] ∧
      u.hunt t = { s.hunt t with hold := if 1 ≤ s.huntRoom t still then none else (s.hunt t).hold } ∧
      (if 1 ≤ s.huntRoom t still then
        ∀ k, u.record k = if s.isRecordOf t k then { s.record k with held := false } else s.record k
      else u.records = s.records) ∧
      u = { s with engines := u.engines, hunts := u.hunts, records := u.records, kept := u.kept } := by
  intro u still
  by_cases room : 1 ≤ s.huntRoom t still
  · let w := s.modEngine t (·.push ⟨.laserRelease 1 256, .huntRelease⟩)
    have whole : u = (w.setHeld t 1 256 false).modHunt t fun h => { h with hold := none } := offerRelease_of_room enabled room
    have urgent : (u.engine t).urgent = (s.engine t).urgent ++ [⟨.laserRelease 1 256, .huntRelease⟩] := by
      rw [whole]
      exact congrArg Engine.urgent (modEngine_engine_self s t (·.push ⟨.laserRelease 1 256, .huntRelease⟩))
    have held (k : Nat) : (s.isRecordOf t k = true ∧ 1 ≤ k ∧ k ≤ 256) ↔ s.isRecordOf t k = true :=
      and_iff_left_of_imp fun own => record_tag_range ((isRecordOf_iff ..).mp own).1
    rw [if_pos room, if_pos room]
    refine ⟨huntOffered_of_room room ?_ ?_, ?_, fun k => ?_, ?_⟩
    · rw [urgent, List.map_append]
      rfl
    · rw [whole]
      rfl
    · rw [whole]
      exact modHunt_hunt_self (w.setHeld t 1 256 false) t _
    · rw [whole]
      exact (setHeld_record w t 1 256 false k).trans (if_congr (held k) rfl rfl)
    · rw [whole]
      rfl
  · have whole : u = { s with kept := s.kept ++ [⟨t, ⟨.laserRelease 1 256, .huntRelease⟩, s.retryDue t .hunt⟩] } :=
      offerRelease_of_none enabled room
    rw [if_neg room, if_neg room, whole]
    refine ⟨huntOffered_of_none room rfl ?_, rfl, rfl, rfl⟩
    rw [huntKept_append rfl, List.map_append]
    rfl

end

/-- What the ending of a hunt leaves with the release it offers (R161). -/
theorem endHunt_offerRelease_effect (s : State) (t : Tree) (outcome : HuntOutcome)
    (enabled : (s.engine t).state ≠ .disabled) :
    let u := (s.endHunt t outcome).offerRelease t
    let still := s.endingKept t
    u.hunt t = { (s.hunt t).ended outcome s.frame with
      hold := if 1 ≤ s.huntRoom t still then none else (s.hunt t).hold } ∧
    u.light t = (s.light t).emptied ∧
    u.mail = { s.mail with attention := s.mail.attention ++ [.event .tree] } ∧
    s.HuntOffered u t still [.laserRelease 1 256] ∧
    (if 1 ≤ s.huntRoom t still then
      ∀ k, u.record k = if s.isRecordOf t k then { s.record k with held := false } else s.record k
    else u.records = s.records) ∧
    u = { s with
      engines := u.engines, lights := u.lights, hunts := u.hunts, records := u.records, kept := u.kept, mail := u.mail } := by
  have live : ((s.endHunt t outcome).engine t).state ≠ .disabled := by
    rw [endHunt_engine]
    exact enabled
  obtain ⟨offered, hunt, released, frame⟩ := offerRelease_effect live
  rw [endHunt_huntKept, endHunt_huntRoom] at hunt released
  rw [endHunt_huntKept, State.HuntOffered, endHunt_huntRoom, endHunt_urgent] at offered
  rw [endHunt_hunt] at hunt
  have light := endHunt_light s t outcome
  have mail := endHunt_mail s t outcome
  have ended := endHunt_frame s t outcome
  have records : (s.endHunt t outcome).records = s.records := rfl
  have record (k : Nat) : (s.endHunt t outcome).record k = s.record k := rfl
  have onTree (k : Nat) : (s.endHunt t outcome).isRecordOf t k = s.isRecordOf t k := rfl
  simp only [record, onTree, records] at released
  generalize s.endHunt t outcome = v at *
  generalize v.offerRelease t = w at *
  refine ⟨hunt, ?_, ?_, offered, released, ?_⟩
  · rw [frame]
    exact light
  · rw [frame]
    exact mail
  · rw [frame, ended]

/-! ### ABORT_HUNT (R162) -/

theorem exec_abortHunt_eq {s : State} {l : LinkId} {seq : Nat} {t : Tree} (h : s.Serves l .control) :
    exec (.abortHunt l seq t.val) s =
      .next (if (s.hunt t).state = .idle then s.served l 26 seq .state .none
        else (((s.asked l (.abortHunt l seq t.val)).endHunt t .aborted).offerRelease t).answer l .ok
          (.aborted (s.hunt t).state (s.hunt t).suspects)) := by
  show live s _ = _
  rw [live_out _ _ h.1.1, State.reqAbortHunt, request_serves _ _ _ _ _ h, withTree_fin, State.serveAbort, asked_answer]
  rfl

/-- Settles O56: a start by the request and by the trigger, and an abort by its ending and the release it offers. -/
theorem huntsStartConfirmingAndAbortEndsThem : Obligations.HuntsStartConfirmingAndAbortEndsThem := by
  refine ⟨fun l seq t before after s => ?_, fun l seq t s h => ⟨fun idle => ?_, fun hunting enabled => ?_⟩⟩
  · intro ending canStart started
    have can_iff : s.huntCanStart t = true ↔ canStart := huntCanStart_iff s t
    have begun {u : State} (can : canStart) (h : s.HuntStarted u t) : started u := by
      obtain ⟨hunt, light, others, engines, records⟩ := h
      obtain ⟨-, -, cut, -⟩ := can
      simp only [started, hunt, light]
      exact ⟨rfl, rfl, rfl, rfl, rfl, rfl, rfl, rfl, rfl, rfl, rfl, cut, rfl, rfl, rfl, others, engines, records⟩
    refine ⟨fun h => ⟨fun can => ?_, fun cannot => ?_⟩, fun h triggers first => ⟨fun can => ?_, fun cannot => ?_⟩⟩
    · rw [exec_hunt_eq h, if_pos (can_iff.mpr can)]
      have start := startHunt_started (s.asked l (.hunt l seq t.val)) t
      exact ⟨_, rfl, begun can { start with }, answer_link_of_asked (startHunt_links ..) ..⟩
    · rw [exec_hunt_eq h, if_neg (mt can_iff.mp cannot)]
    · let taken : State := { s with mail := { s.mail with triggers := before ++ after } }
      have start := startHunt_started taken t
      rw [exec_autoHuntTrigger_eq h triggers first, if_pos (can_iff.mpr can)]
      exact ⟨_, rfl, begun can { start with }, startHunt_links taken t, startHunt_triggers taken t⟩
    · rw [exec_autoHuntTrigger_eq h triggers first, if_neg (mt can_iff.mp cannot)]
  · rw [exec_abortHunt_eq h, if_pos idle]
  · let asked := s.asked l (.abortHunt l seq t.val)
    obtain ⟨hunt, light, mail, offered, released, frame⟩ := endHunt_offerRelease_effect asked t .aborted enabled
    refine ⟨((asked.endHunt t .aborted).offerRelease t).answer l .ok (.aborted (s.hunt t).state (s.hunt t).suspects), ?_⟩
    rw [exec_abortHunt_eq h, if_neg hunting]
    generalize (asked.endHunt t .aborted).offerRelease t = w at *
    have huntAfter : (w.answer l .ok (.aborted (s.hunt t).state (s.hunt t).suspects)).hunt t = w.hunt t := rfl
    have lightAfter : (w.answer l .ok (.aborted (s.hunt t).state (s.hunt t).suspects)).light t = w.light t := rfl
    refine ⟨rfl, answer_link_of_asked (i := .abortHunt l seq t.val) (by rw [frame]) .., ?_⟩
    rw [huntAfter, lightAfter, hunt, light]
    refine ⟨rfl, rfl, rfl, rfl, rfl, rfl, rfl, rfl, rfl, rfl, mail, offered, ?_, by rw [frame]; rfl⟩
    by_cases room : 1 ≤ s.huntRoom t (s.endingKept t)
    · have room' : 1 ≤ asked.huntRoom t (asked.endingKept t) := room
      rw [if_pos room'] at released ⊢
      rw [if_pos room]
      exact ⟨rfl, released⟩
    · have full : ¬ 1 ≤ asked.huntRoom t (asked.endingKept t) := room
      rw [if_neg full] at released ⊢
      rw [if_neg room]
      exact ⟨rfl, released⟩

end Sys2Proof.Machine

/-! ## Delay samples and state changes (R36, R45, R90, R94 to R97, R99; log entry 34) -/

namespace Sys2Proof.Machine

/-! ### The estimate (R96) -/

/-- What is left of four samples without the least and the largest is the sum of the middle two. -/
theorem middleSum_of_sorted {a b c d low lo hi high : Int} (perm : [low, lo, hi, high].Perm [a, b, c, d])
    (lower : low ≤ lo) (middle : lo ≤ hi) (upper : hi ≤ high) : middleSum a b c d = lo + hi := by
  have sum : low + lo + hi + high = a + b + c + d := by simpa [add_assoc] using perm.sum_eq
  have bounds (x : Int) (mem : x ∈ [a, b, c, d]) : low ≤ x ∧ x ≤ high := by
    have sorted := perm.mem_iff.mpr mem
    simp only [List.mem_cons, List.not_mem_nil, or_false] at sorted
    omega
  have least : low ∈ [a, b, c, d] := perm.mem_iff.mp (by simp)
  have largest : high ∈ [a, b, c, d] := perm.mem_iff.mp (by simp)
  simp only [List.mem_cons, List.not_mem_nil, or_false, forall_eq_or_imp, forall_eq] at bounds least largest
  have min_eq : min (min a b) (min c d) = low := by omega
  have max_eq : max (max a b) (max c d) = high := by omega
  rw [middleSum, min_eq, max_eq, ← sum]
  omega

section
variable {s : State} {k : Nat} {t : Tree}

/-! ### The checks (R94) -/

/-- The settle of a tag discards the samples of plan frame `n` (R94, step 3). -/
def State.settles (s : State) (k : Nat) (n : FrameNo) : Prop :=
  (∃ y ∈ s.kept, ∃ e, y.entry = ⟨.setDelay k e, .corrected⟩) ∨ (s.tracker k).mark = .pending ∨
    ∃ f, (s.tracker k).mark = .carried f ∧ (n - f).toInt ≤ 3

theorem settleDiscards_iff (n : FrameNo) : s.settleDiscards k n = true ↔ s.settles k n := by
  have kept : s.kept.any (Kept.isCorrection k) = true ↔
      ∃ y ∈ s.kept, ∃ e, y.entry = ⟨.setDelay k e, .corrected⟩ := by simp only [List.any_eq_true, isCorrection_iff]
  rw [State.settleDiscards, Bool.or_eq_true, kept, State.settles]
  refine or_congr_right ?_
  cases (s.tracker k).mark with
  | carried f =>
    simp only [Bool.not_eq_true', ← Bool.not_eq_true, atLeastAfter_iff, reduceCtorEq, false_or, SettleMark.carried.injEq,
      exists_eq_left']
    omega
  | none | pending | settled => simp

/-- A sample passes the checks of tree, state and settle (R94, steps 1 to 3; R99). -/
def State.admits (s : State) (r : SampleReport) : Prop :=
  s.isRecordOf r.tree r.tag = true ∧
    ((s.record r.tag).state = .active ∨
      r.met = true ∧ ∃ y ∈ s.mail.changes, y.tag = r.tag ∧ y.before = .active ∧ y.after ≠ .vacant) ∧
    ¬ s.settles r.tag r.frame

theorem admits_iff (r : SampleReport) : s.admits r ↔
    s.isRecordOf r.tree r.tag = true ∧ s.foundActive r = true ∧ ¬ s.settleDiscards r.tag r.frame = true := by
  have found : s.foundActive r = true ↔ (s.record r.tag).state = .active ∨
      r.met = true ∧ ∃ y ∈ s.mail.changes, y.tag = r.tag ∧ y.before = .active ∧ y.after ≠ .vacant := by
    simp [State.foundActive, and_assoc]
  rw [found, settleDiscards_iff, State.admits]

theorem takeSample_of_not_admits {r : SampleReport} (h : ¬ s.admits r) : s.takeSample r = s := by
  unfold State.takeSample
  split
  · rfl
  · rename_i own
    split
    · rfl
    · rename_i found
      refine if_pos ?_
      by_contra settled
      exact h ((admits_iff r).mpr ⟨by simpa using own, by simpa using found, settled⟩)

/-- The tracker's samples of a tag discarded. -/
def State.emptySamples (s : State) (k : Nat) : State := s.modTracker k fun x => { x with samples := [] }

/-- A number that names no record has no samples to discard. -/
theorem emptySamples_tracker (s : State) (k j : Nat) :
    (s.emptySamples k).tracker j = if j = k then { s.tracker j with samples := [] } else s.tracker j := by
  rw [State.emptySamples, modTracker_tracker]
  by_cases own : j = k
  · subst own
    by_cases tag : 1 ≤ j ∧ j ≤ 256
    · rw [if_pos ⟨rfl, tag⟩, if_pos rfl]
    · rw [if_neg fun h => tag h.2, if_pos rfl, State.tracker, readAt_of_not_mem _ _ _ tag]
      rfl
  · rw [if_neg fun h => own h.1, if_neg own]

theorem takeSample_of_admits {r : SampleReport} (h : s.admits r) : s.takeSample r =
    if ((s.engine r.tree).params.driftLim : Int) < |r.delta| then (s.emptySamples r.tag).suspendByTracker r.tag
    else s.keepSample r.tree r.tag r.delta := by
  obtain ⟨own, found, settled⟩ := (admits_iff r).mp h
  rw [State.takeSample, if_neg (by simp [own]), if_neg (by simp [found]), if_neg settled]
  rfl

/-! ### A kept sample (R94, R96, R97) -/

theorem modTracker_congr {f g : Tracker → Tracker} (h : f (s.tracker k) = g (s.tracker k)) :
    s.modTracker k f = s.modTracker k g := by
  unfold State.modTracker updateAt
  split
  · rename_i range
    have own : s.trackers[k - 1] = s.tracker k := by simp [State.tracker, readAt, range]
    simp only [own, h]
  · rfl

theorem keepSample_of_few {delta : Int} (few : (s.tracker k).samples.length < 3) :
    s.keepSample t k delta = s.modTracker k fun x => { x with samples := x.samples ++ [delta] } := by
  unfold State.keepSample
  dsimp only
  rw [if_pos (by rw [List.length_append, List.length_singleton]; omega)]
  exact modTracker_congr (by rfl)

/-- The fourth sample makes the estimate, half the sum of the middle two (R96). -/
theorem keepSample_of_three {a b c delta low lo hi high : Int} (three : (s.tracker k).samples = [a, b, c])
    (perm : [low, lo, hi, high].Perm [a, b, c, delta]) (lower : low ≤ lo) (middle : lo ≤ hi) (upper : hi ≤ high) :
    s.keepSample t k delta =
      if ((s.engine t).params.driftTol : Int) ≤ |(lo + hi).tdiv 2| then (s.emptySamples k).correct t k ((lo + hi).tdiv 2)
      else s.emptySamples k := by
  have estimate : estimateOf [a, b, c, delta] = (lo + hi).tdiv 2 :=
    congrArg (Int.tdiv · 2) (middleSum_of_sorted perm lower middle upper)
  unfold State.keepSample
  dsimp only
  rw [three, List.cons_append, List.cons_append, List.cons_append, List.nil_append, estimate]
  rfl

/-! ### An accepted correction (R91, R97, R99) -/

theorem modRecord_eq_self {f : DropRecord → DropRecord} (h : f (s.record k) = s.record k) : s.modRecord k f = s := by
  have same : updateAt s.records k (fun r => r) = s.records := by simp [updateAt]
  rw [modRecord_congr (g := fun r => r) h, State.modRecord, same]

/-- What an accepted correction writes to its record: the delay, while the record is ACTIVE (R97, R99). -/
def DropRecord.corrected (r : DropRecord) (delay : Nat) : DropRecord :=
  if r.state = .active then { r with delay := delay } else r

/-- A correction accepted by its lane. -/
def State.corrected (s : State) (t : Tree) (k delay : Nat) : State :=
  ((s.modEngine t fun e => { e with normal := e.normal ++ [⟨.setDelay k delay, .corrected⟩] }).modTracker k
    (·.accept .corrected)).modRecord k (·.corrected delay)

theorem acceptEntry_corrected {delay : Nat} (tree : (s.record k).tree = some t) :
    s.acceptEntry t ⟨.setDelay k delay, .corrected⟩ = s.corrected t k delay := by
  let w := (s.modEngine t (·.push ⟨.setDelay k delay, .corrected⟩)).modTracker k (·.accept .corrected)
  have written : s.acceptEntry t ⟨.setDelay k delay, .corrected⟩ =
      if (s.record k).state = .active ∧ (s.record k).tree = some t then w.modRecord k fun r => { r with delay := delay }
      else w := rfl
  rw [written]
  by_cases active : (s.record k).state = .active
  · rw [if_pos ⟨active, tree⟩]
    exact modRecord_congr (s := w) (if_pos active).symm
  · rw [if_neg fun both => active both.1]
    exact (modRecord_eq_self (s := w) (f := (·.corrected delay)) (if_neg active)).symm

theorem corrected_effect {u : State} {delay : Nat} (tag : 1 ≤ k ∧ k ≤ 256) (own : s.corrected t k delay = u) :
    u.engine t = { s.engine t with normal := (s.engine t).normal ++ [⟨.setDelay k delay, .corrected⟩] } ∧
      (∀ y, y ≠ t → u.engine y = s.engine y) ∧ u.tracker k = (s.tracker k).accept .corrected ∧
      u.record k = (if (s.record k).state = .active then { s.record k with delay := delay } else s.record k) ∧
      (∀ j, j ≠ k → u.record j = s.record j ∧ u.tracker j = s.tracker j) ∧
      u = { s with engines := u.engines, records := u.records, trackers := u.trackers } := by
  have engine (y : Tree) := modEngine_engine s t y fun e =>
    { e with normal := e.normal ++ [⟨.setDelay k delay, .corrected⟩] }
  have tracker (j : Nat) := modTracker_tracker s k j (·.accept .corrected)
  have record (j : Nat) := modRecord_record s k j (·.corrected delay)
  subst own
  exact ⟨(engine t).trans (if_pos rfl), fun y other => (engine y).trans (if_neg other),
    (tracker k).trans (if_pos ⟨rfl, tag⟩), (record k).trans (if_pos ⟨rfl, tag⟩),
    fun j other => ⟨(record j).trans (if_neg fun h => other h.1), (tracker j).trans (if_neg fun h => other h.1)⟩, rfl⟩

/-- The normal lane takes a correction while it has room and the tracker keeps no directive for the tree (R14, R16). -/
theorem not_laneBlocked_corrected {delay : Nat} (room : (s.engine t).normal.length < 32)
    (none : ∀ y ∈ s.kept, y.tree = t → y.entry.origin.producer ≠ .tracker) :
    ¬ s.laneBlocked t ⟨.setDelay k delay, .corrected⟩ := by
  rintro (full | ⟨y, mem, tree, tracker⟩)
  · rcases (laneFull_iff ..).mp full with ⟨urgent, _⟩ | ⟨_, full⟩
    · cases urgent
    · exact absurd room (not_lt.mpr full)
  · exact none y mem tree tracker

/-! ### The tracker's own suspension (R95, R97) -/

theorem suspendByTracker_of_other (other : (s.record k).state ≠ .active) : s.suspendByTracker k = s := if_neg other

/-- A suspension by the tracker leaves no report of a change of the record on its way to it (R43, R95, R103). -/
theorem suspendByTracker_effect {u : State} (record : s.isRecordOf t k = true) (active : (s.record k).state = .active)
    (own : s.suspendByTracker k = u) :
    u.record k = { s.record k with state := .suspended } ∧ (∀ j, j ≠ k → u.record j = s.record j) ∧
      u.trackers = s.trackers ∧ (∀ y ∈ u.mail.changes, y.tag ≠ k) ∧
      u.mail.attention = s.mail.attention ++ [.change k .active .suspended false] ∧
      u.load t = ⟨(s.load t).committed - s.loadOf k, (s.load t).release + s.loadOf k, (s.load t).scanDue⟩ := by
  have treeNo : (s.record k).treeNo = t := treeNo_of_isRecordOf record
  obtain ⟨engines, kept, departs⟩ := offerDepart_roster_shape (s := s.changeState k .suspended false) (t := t) (k := k)
    (origin := .departSuspend) (by decide)
  have whole : s.suspendByTracker k = State.changesKnown
      { s.changeState k .suspended false with engines := engines, kept := kept } (· == k) := by
    rw [State.suspendByTracker, if_pos active, State.suspendFrom, if_pos active]
    dsimp only
    rw [treeNo, departs]
  have write (j : Nat) := modRecord_record (s.modLoad t (·.drop (s.loadOf k))) k j fun r => { r with state := .suspended }
  rw [changeState_suspended_of_active false active, treeNo] at whole
  rw [← own, whole]
  refine ⟨(write k).trans (if_pos ⟨rfl, range_of_isRecordOf s record⟩), fun j hj => (write j).trans (if_neg fun h => hj h.1),
    rfl, fun y mem => ?_, rfl, modLoad_load_self s t (·.drop (s.loadOf k))⟩
  simpa using (List.mem_filter.mp mem).2

/-! ### What a state change makes of the samples on their way (R36, R45, R99) -/

variable {new : RecState}

theorem enterState_mail (occupied : new ≠ .vacant) : (s.enterState t k new).mail = s.mail := by
  cases new with
  | vacant => exact absurd rfl occupied
  | _ => rfl

theorem changeState_samples_met (byRequest : Bool) (other : (s.record k).state ≠ new) (occupied : new ≠ .vacant) :
    (s.changeState k new byRequest).mail.samples =
      s.mail.samples.map fun y => if (s.record k).state = .active ∧ y.tag = k then { y with met := true } else y := by
  obtain ⟨_, _, _, left⟩ := leaving_shape s k new
  rw [← samples_met, changeState_eq byRequest other, reportChange_mail, enterState_mail occupied, left]
  rfl

theorem changeState_vacant_samples (byRequest : Bool) (other : (s.record k).state ≠ .vacant) :
    (s.changeState k .vacant byRequest).mail.samples = s.mail.samples.filter (·.tag != k) := by
  obtain ⟨_, _, _, left⟩ := leaving_shape s k .vacant
  rw [changeState_eq byRequest other, reportChange_mail, enterState_vacant_mail, release_samples, samples_released, ite_self,
    left]
  rfl

/-! ### The reports taken -/

variable {index : Nat}

theorem exec_delaySample_eq {r : SampleReport} (live : s.OutOfReset) (report : s.mail.samples[index]? = some r) :
    exec (.delaySample index) s =
      .next (({ s with mail := { s.mail with samples := s.mail.samples.eraseIdx index } } : State).takeSample r) := by
  refine (live_out s _ live).trans ?_
  rw [takeNth_of_getElem? report]
  rfl

theorem exec_stateChangeReport_eq {r : ChangeReport} (live : s.OutOfReset) (report : s.mail.changes[index]? = some r) :
    exec (.stateChangeReport index) s =
      .next (({ s with mail := { s.mail with changes := s.mail.changes.eraseIdx index } } : State).takeChange r) := by
  refine (live_out s _ live).trans ?_
  rw [takeNth_of_getElem? report]
  rfl

theorem takeChange_of_active {r : ChangeReport} (left : r.before = .active) :
    s.takeChange r = (s.emptySamples r.tag).dropKept (Kept.isCorrection r.tag) := if_pos left

end

/-- Settles O49: a sample by the checks it fails or passes, the number of samples it joins and the estimate it completes;
a state change by the samples it meets; a report of one by the state that the record left. -/
theorem delaySamplesAreCheckedKeptAndDiscarded : Obligations.DelaySamplesAreCheckedKeptAndDiscarded := by
  refine ⟨fun index r s live report => ?_, fun s k new byRequest other => ⟨fun occupied => ?_, fun vacant => ?_⟩,
    fun index r s live report => ?_⟩
  · intro taken x k e p settling leaving passes emptied suspended
    have step : exec (.delaySample index) s = .next (taken.takeSample r) := exec_delaySample_eq live report
    have admitted (h : passes) : exec (.delaySample index) s = .next
        (if (p.driftLim : Int) < |r.delta| then emptied.suspendByTracker r.tag else taken.keepSample r.tree r.tag r.delta) := by
      rw [step, takeSample_of_admits (s := taken) h]
      rfl
    have suspends (h : passes) (only : exec (.delaySample index) s = .next (emptied.suspendByTracker r.tag)) :
        (x.state = .active → suspended) ∧ (x.state ≠ .active → exec (.delaySample index) s = .next emptied) := by
      refine ⟨fun active => ?_, fun inactive => ?_⟩
      · obtain ⟨record, others, trackers, changes, attention, load⟩ :=
          suspendByTracker_effect (s := emptied) h.1 active rfl
        refine ⟨_, only, record, others, ?_, changes, attention, load⟩
        have samples := emptySamples_tracker taken r.tag r.tag
        rw [if_pos rfl] at samples
        rw [State.tracker, trackers]
        exact congrArg Tracker.samples samples
      · rw [only, suspendByTracker_of_other (s := emptied) inactive]
    refine ⟨fun fails => ?_, fun h drifts => ?_, fun h near few => ?_, fun a b c d lo hi h near three last sorted => ?_⟩
    · rw [step, takeSample_of_not_admits (s := taken) fails]
    · exact suspends h ((admitted h).trans (by rw [if_pos drifts]))
    · rw [admitted h, if_neg (not_lt.mpr near), keepSample_of_few (s := taken) few]
    · obtain ⟨low, high, perm, lower, middle, upper⟩ := sorted
      intro estimate delay
      rw [last] at perm
      have fourth : exec (.delaySample index) s = .next
          (if (p.driftTol : Int) ≤ |estimate| then emptied.correct r.tree r.tag estimate else emptied) := by
        rw [admitted h, if_neg (not_lt.mpr near), keepSample_of_three (s := taken) three perm lower middle upper]
        rfl
      refine ⟨fun small => ?_, fun large least most => ?_, fun large outside => ?_⟩
      · rw [fourth, if_neg (not_le.mpr small)]
      · have offers : exec (.delaySample index) s =
            .next (emptied.offer r.tree ⟨.setDelay r.tag delay.toNat, .corrected⟩) := by
          rw [fourth, if_pos large]
          exact congrArg Host.Outcome.next (if_pos ⟨least, most⟩)
        refine ⟨offers, fun enabled room none => ?_⟩
        obtain ⟨occupied, tree⟩ := (isRecordOf_iff ..).mp h.1
        obtain ⟨engine, engines, tracker, record, others, rest⟩ :=
          corrected_effect (s := emptied) (t := r.tree) (delay := delay.toNat) (record_tag_range occupied) rfl
        have samples := emptySamples_tracker taken r.tag
        refine ⟨_, ?_, engine, engines, ?_, record, fun j other => ?_, rest⟩
        · rw [offers, offer_accepted emptied _ _ enabled (not_laneBlocked_corrected room none),
            acceptEntry_corrected (s := emptied) tree]
        · rw [tracker]
          exact congrArg (Tracker.accept · .corrected) ((samples r.tag).trans (if_pos rfl))
        · exact ⟨(others j other).1, (others j other).2.trans ((samples j).trans (if_neg other))⟩
      · refine suspends h ?_
        rw [fourth, if_pos large]
        exact congrArg Host.Outcome.next (if_neg fun within =>
          outside.elim (not_lt.mpr within.1) (not_lt.mpr within.2))
  · exact changeState_samples_met byRequest other occupied
  · subst vacant
    exact changeState_vacant_samples byRequest other
  · intro taken
    have step : exec (.stateChangeReport index) s = .next (taken.takeChange r) := exec_stateChangeReport_eq live report
    refine ⟨fun stayed => ?_, fun left => ?_⟩
    · rw [step, State.takeChange, if_neg stayed]
    · refine ⟨(taken.emptySamples r.tag).dropKept (Kept.isCorrection r.tag),
        step.trans (congrArg Host.Outcome.next (takeChange_of_active left)), emptySamples_tracker taken r.tag, fun y => ?_, rfl⟩
      rw [dropKept_kept, List.mem_filter, Bool.not_eq_true', ← Bool.not_eq_true, isCorrection_iff, not_exists]
      rfl

end Sys2Proof.Machine

/-! ## The start of a compile (R67, R68, R82, R83, R93, R107, R109, R150; log entry 39) -/

namespace Sys2Proof.Machine

/-! ### The three questions (R68, R82, R83, R93, R107, R150) -/

section
variable {s : State} {t : Tree} {k : Nat} {m : FrameNo}

/-- When a dark test falls in a frame (R150). -/
def Hunt.asksTest (h : Hunt) (m : FrameNo) : Prop :=
  (h.state = .confirming ∧ h.requested < 2) ∨
    ((h.state = .splitting ∨ h.state = .verifying) ∧ h.tests = [] ∧
      (h.pendingTest = .atOnce ∨ ∃ f, h.pendingTest = .frame f ∧ 0 ≤ (m - f).toInt))

theorem testDue_iff (h : Hunt) (m : FrameNo) : h.testDue m = true ↔ h.asksTest m := by
  unfold Hunt.testDue Hunt.asksTest
  cases state : h.state with
  | idle => simp
  | confirming => simp
  | splitting | verifying => cases h.pendingTest <;> simp [atLeastAfter_iff]

/-- When discovery is due for a tree (R68). -/
def State.asksDiscovery (s : State) (t : Tree) : Prop :=
  (s.engine t).state = .running ∧ (s.enrol t).mode ≠ .closed ∧ (s.hunt t).state = .idle ∧
    (s.enrol t).d ≤ (s.enrol t).count

theorem discoveryDue_iff : s.discoveryDue t = true ↔ s.asksDiscovery t := by
  simp [State.discoveryDue, State.asksDiscovery, and_assoc]

theorem isRanged_iff (x : Kept) : x.isRanged k = true ↔ ∃ delay, x.entry = ⟨.setDelay k delay, .ranged⟩ := by
  obtain ⟨_, ⟨dir, origin⟩, _⟩ := x
  cases dir <;> simp [Kept.isRanged, Directive.isSetDelay, and_comm]

theorem keepsNoRanged_iff : s.kept.any (Kept.isRanged k) = false ↔
    ∀ x ∈ s.kept, ∀ delay, x.entry ≠ ⟨.setDelay k delay, .ranged⟩ := by
  simp only [List.any_eq_false, isRanged_iff, not_exists, ne_eq]

theorem keepsNoCorrection_iff : s.kept.any (Kept.isCorrection k) = false ↔
    ∀ x ∈ s.kept, ∀ delay, x.entry ≠ ⟨.setDelay k delay, .corrected⟩ := by
  simp only [List.any_eq_false, isCorrection_iff, not_exists, ne_eq]

theorem trackerReady_iff : s.trackerReady k m = true ↔
    (∀ x ∈ s.kept, ∀ delay, x.entry ≠ ⟨.setDelay k delay, .corrected⟩) ∧
      ((s.tracker k).mark = .none ∨ (s.tracker k).mark = .settled ∨
        ∃ f, (s.tracker k).mark = .carried f ∧ ((s.tracker k).cause = .offer ∨ 3 ≤ (m - f).toInt)) := by
  unfold State.trackerReady
  rw [Bool.and_eq_true, Bool.not_eq_true', keepsNoCorrection_iff]
  cases (s.tracker k).mark <;> simp [atLeastAfter_iff]

/-- When an ANNOUNCED head is ready for its ranging window (R82, R93). -/
def State.asksRanging (s : State) (k : Nat) (m : FrameNo) : Prop :=
  (∃ f, (s.record k).offer = .sent f ∧ 3 ≤ (m - f).toInt) ∨ (s.record k).offer = .delivered ∨
    ((s.record k).offer = .none ∧ (∀ x ∈ s.kept, ∀ delay, x.entry ≠ ⟨.setDelay k delay, .corrected⟩) ∧
      ((s.tracker k).mark = .none ∨ (s.tracker k).mark = .settled ∨
        ∃ f, (s.tracker k).mark = .carried f ∧ ((s.tracker k).cause = .offer ∨ 3 ≤ (m - f).toInt)))

theorem headReady_iff : s.headReady k m = true ↔ s.asksRanging k m := by
  unfold State.headReady State.asksRanging
  cases (s.record k).offer with
  | none => simpa using trackerReady_iff
  | waiting | delivered => simp
  | sent f => simp [atLeastAfter_iff]

/-- A record that heads the ranging queue of a tree that can range it (R83). -/
def State.headsQueue (s : State) (t : Tree) (k : Nat) : Prop :=
  (s.enrol t).queue.head? = some k ∧ (s.engine t).state = .running ∧ (s.hunt t).state = .idle ∧
    (s.enrol t).attempt = none ∧ (s.record k).tree = some t ∧
      ∀ x ∈ s.kept, ∀ delay, x.entry ≠ ⟨.setDelay k delay, .ranged⟩

/-- Whom a ranging window is for (R83). -/
theorem rangingDue_eq_some_iff : s.rangingDue t m = some k ↔ s.headsQueue t k ∧
    ((s.record k).state = .ranging ∨ (s.record k).state = .announced ∧ s.asksRanging k m) := by
  unfold State.rangingDue State.headsQueue
  cases (s.enrol t).queue with
  | nil => simp
  | cons j rest =>
    rw [List.head?_cons, Option.some.injEq, ← keepsNoRanged_iff, ← headReady_iff]
    dsimp only
    split_ifs with can again first
    · obtain ⟨running, idle, resolved, none, tree⟩ := can
      refine ⟨?_, fun h => congrArg some h.1.1⟩
      rintro ⟨⟩
      exact ⟨⟨rfl, running, idle, resolved, tree, none⟩, .inl again⟩
    · obtain ⟨running, idle, resolved, none, tree⟩ := can
      refine ⟨?_, fun h => congrArg some h.1.1⟩
      rintro ⟨⟩
      exact ⟨⟨rfl, running, idle, resolved, tree, none⟩, .inr first⟩
    · refine iff_of_false nofun ?_
      rintro ⟨⟨rfl, -⟩, asks⟩
      exact asks.elim again first
    · refine iff_of_false nofun ?_
      rintro ⟨⟨rfl, running, idle, resolved, tree, none⟩, -⟩
      exact can ⟨running, idle, resolved, none, tree⟩

theorem rangingDue_eq_none_iff : s.rangingDue t m = none ↔ ∀ k, ¬ (s.headsQueue t k ∧
    ((s.record k).state = .ranging ∨ (s.record k).state = .announced ∧ s.asksRanging k m)) := by
  simp only [Option.eq_none_iff_forall_ne_some, ne_eq, rangingDue_eq_some_iff]

end

/-! ### The start of a compile by its first case (R107, R109; log entry 39) -/

/-- A tree whose compile for frame `m` reads records (R106, R107). -/
def State.compiling (s : State) (t : Tree) (m : FrameNo) (kind : PlanKind) (window : Option Window) : State :=
  s.modEngine t fun e => { e with planPrep := none, compile := some (.start m kind window) }

/-- A tree whose plan for the next frame needs no compile (R105, R109). -/
def State.finished (s : State) (t : Tree) (x : Plan) : State :=
  s.modEngine t fun e => { e with planPrep := some x, compile := none }

section
variable {s : State} {t : Tree} {k : Nat} {m : FrameNo}

theorem startCompile_of_cut (cut : (s.engine t).state = .cut) :
    s.startCompile t m = s.finished t (.emptyPlan m true) := if_pos cut

theorem startCompile_of_test (uncut : (s.engine t).state ≠ .cut) (due : (s.hunt t).asksTest m) :
    s.startCompile t m = (s.modHunt t (·.requestTest m)).compiling t m .darkTest (some (.dark (s.engine t).params.wd)) :=
  (if_neg uncut).trans (if_pos ((testDue_iff ..).mpr due))

theorem startCompile_of_discovery (uncut : (s.engine t).state ≠ .cut) (noTest : ¬ (s.hunt t).asksTest m)
    (due : s.asksDiscovery t) :
    s.startCompile t m = (s.modEnrol t (·.prepareDiscovery m)).finished t (.discoveryPlan m) :=
  ((if_neg uncut).trans (if_neg (mt (testDue_iff ..).mp noTest))).trans (if_pos (discoveryDue_iff.mpr due))

theorem startCompile_of_ranging (uncut : (s.engine t).state ≠ .cut) (noTest : ¬ (s.hunt t).asksTest m)
    (noDiscovery : ¬ s.asksDiscovery t) (due : s.rangingDue t m = some k) :
    s.startCompile t m = (s.scheduleRanging t k m).compiling t m .ranging
      (some (.range k ((s.engine t).params.wr / 2) (s.engine t).params.wr)) := by
  unfold State.startCompile
  dsimp only
  rw [if_neg uncut, if_neg (mt (testDue_iff ..).mp noTest), if_neg (mt discoveryDue_iff.mp noDiscovery), due]
  rfl

theorem startCompile_of_ordinary (uncut : (s.engine t).state ≠ .cut) (noTest : ¬ (s.hunt t).asksTest m)
    (noDiscovery : ¬ s.asksDiscovery t) (none : s.rangingDue t m = none) :
    s.startCompile t m = s.compiling t m .ordinary Option.none := by
  unfold State.startCompile
  dsimp only
  rw [if_neg uncut, if_neg (mt (testDue_iff ..).mp noTest), if_neg (mt discoveryDue_iff.mp noDiscovery), none]
  rfl

/-- A head that is RANGING already is ranged again (R83). -/
theorem scheduleRanging_of_ranging (ranging : (s.record k).state = .ranging) :
    s.scheduleRanging t k m = s.modEnrol t fun e => { e with attempt := some m } := by
  rw [State.scheduleRanging, ← ranging, changeState_same]

/-- An ANNOUNCED head becomes RANGING, and stays in its queue (R43, R83). -/
theorem scheduleRanging_of_announced (announced : (s.record k).state = .announced) :
    s.scheduleRanging t k m =
      { (s.modRecord k fun r => { r with state := .ranging }).modEnrol t fun e => { e with attempt := some m } with
        mail := { s.mail with
          changes := s.mail.changes ++ [⟨k, .announced, .ranging⟩]
          attention := s.mail.attention ++ [.change k .announced .ranging false] } } := by
  have left : s.leaving k .ranging = s := by
    rw [State.leaving, State.leaveActive, if_neg fun both => absurd (announced.symm.trans both.1) (by decide),
      State.leaveQueue, if_neg fun both => both.2 rfl, State.leaveSuspended,
      if_neg fun own => absurd (announced.symm.trans own) (by decide)]
  rw [State.scheduleRanging, changeState_eq false (by rw [announced]; decide), left, announced]
  rfl

/-- What a discovery window has held so far is forgotten as its frame is prepared (R67, R70). -/
theorem prepareDiscovery_noteOf (e : Enrol) (m f : FrameNo) :
    (e.prepareDiscovery m).noteOf f = if f = m then ⟨m, false, false⟩ else e.noteOf f := by
  unfold Enrol.noteOf Enrol.prepareDiscovery
  dsimp only
  rw [List.find?_filter]
  split_ifs with own
  · subst own
    rw [List.find?_eq_none.mpr fun x _ => by simp]
    rfl
  · have same : (fun x : WindowNote => decide (x.frame != m ∧ x.frame == f)) = (·.frame == f) := by
      funext x
      by_cases found : x.frame = f <;> simp [found, own]
    rw [same]

end

/-! ### The discovery count over a boundary (R67) -/

section
variable (s : State) (i : Tree)

theorem sameMode_foldl {α : Type} {f : State → α → State}
    (each : ∀ (s : State) x, (s.enrol i).SameMode ((f s x).enrol i)) (l : List α) :
    ∀ s : State, (s.enrol i).SameMode ((l.foldl f s).enrol i) := by
  induction l with
  | nil => exact fun _ => rfl
  | cons x rest ih => exact fun s => (each s x).trans (ih _)

theorem scheduleRanging_sameMode (t : Tree) (k : Nat) (m : FrameNo) :
    (s.enrol i).SameMode ((s.scheduleRanging t k m).enrol i) :=
  (changeState_sameMode s k .ranging false).trans
    (modEnrol_sameMode (f := fun e => { e with attempt := some m }) fun _ => rfl)

theorem abandonRanging_sameMode (t : Tree) : (s.enrol i).SameMode ((s.abandonRanging t).enrol i) := by
  unfold State.abandonRanging
  split
  · split
    · exact changeState_sameMode ..
    · rfl
  · rfl

theorem placed_enrols (t : Tree) (x : LaneEntry) : (s.placed t x).enrols = s.enrols := by
  unfold State.placed
  split
  · dsimp only
    split <;> rfl
  all_goals rfl

theorem fillPlace_enrols (t : Tree) (j : Fin 4) : (s.fillPlace t j).enrols = s.enrols := by
  unfold State.fillPlace
  dsimp only
  split
  · split
    · exact placed_enrols ..
    · exact placed_enrols ..
    · rfl
  · rfl

theorem promotionScan_sameMode (t : Tree) : (s.enrol i).SameMode ((s.promotionScan t).enrol i) := by
  unfold State.promotionScan
  split
  · refine sameMode_foldl i (fun u k => ?_) _ (s.modLoad t _)
    unfold State.promote
    split
    · exact changeState_sameMode ..
    · rfl
  · rfl

/-- Up to its discovery count, the run of a tree moves ranging queues and attempts alone. -/
theorem scanned_sameMode : (s.enrol i).SameMode ((s.scanned i).enrol i) := by
  have placed (u : State) : (u.enrol i).SameMode ((u.fillPlaces i).enrol i) :=
    sameMode_foldl i (fun u j => by rw [enrol_congr (fillPlace_enrols ..)]; rfl) _ u
  have sent (u : State) : (u.enrol i).SameMode ((u.sendFrame i).enrol i) := rfl
  have dispatched : (s.enrol i).SameMode ((s.dispatch i).enrol i) := by rw [dispatch_enrol]; rfl
  exact ((dispatched.trans (placed _)).trans (sent _)).trans (promotionScan_sameMode ..)

theorem enterCut_sameMode : (s.enrol i).SameMode ((s.enterCut i).enrol i) := by
  have raised (u : State) (kind : FlagKind) : (u.raise kind).enrol i = u.enrol i := rfl
  have cutTree (u : State) (f : Engine → Engine) (g : Hunt → Hunt) :
      ((u.modEngine i f).modHunt i g).enrol i = u.enrol i := rfl
  unfold State.enterCut
  rw [raised, ← cutTree s]
  exact abandonRanging_sameMode ..

/-- A tree that is neither enabled nor disabled keeps its discovery items at the change of its state. -/
theorem changeTree_sameMode (noDisable : (s.engine i).disableWaiters = []) (noEnable : (s.engine i).enableWaiters = []) :
    (s.enrol i).SameMode ((s.changeTree i).1.enrol i) := by
  rw [changeTree_of_none s i noDisable noEnable]
  split
  · exact enterCut_sameMode s i
  · split <;> rfl

/-- Such a tree runs after the change where it ran before it (R5, R165, R168). -/
theorem changeTree_runs (noDisable : (s.engine i).disableWaiters = []) (noEnable : (s.engine i).enableWaiters = [])
    (runs : (s.engine i).state ≠ .disabled) :
    ((s.changeTree i).1.engine i).state ≠ .disabled ∧ (s.changeTree i).2 = false := by
  rw [changeTree_of_none s i noDisable noEnable]
  split
  · rw [enterCut_engine]
    exact ⟨nofun, rfl⟩
  · split
    · rw [leaveCut_engine]
      exact ⟨nofun, rfl⟩
    · exact ⟨runs, rfl⟩

/-- The compile that starts for frame `m` prepares a discovery frame, or leaves the discovery items as they were. -/
theorem startCompile_discovers (m : FrameNo) :
    (((s.startCompile i m).engine i).planPrep = some (.discoveryPlan m) ∧ s.asksDiscovery i ∧
        (s.startCompile i m).enrol i = (s.enrol i).prepareDiscovery m) ∨
      ((∀ x, ((s.startCompile i m).engine i).planPrep = some x → x.kind ≠ .discovery) ∧
        (s.enrol i).SameMode ((s.startCompile i m).enrol i)) := by
  have compiled (u : State) (kind : PlanKind) (window : Option Window) :
      ∀ x, ((u.compiling i m kind window).engine i).planPrep = some x → x.kind ≠ .discovery := by
    rw [State.compiling, modEngine_engine_self]
    exact nofun
  by_cases cut : (s.engine i).state = .cut
  · refine .inr ?_
    rw [startCompile_of_cut cut, State.finished, modEngine_engine_self]
    refine ⟨?_, rfl⟩
    rintro x ⟨⟩
    exact nofun
  by_cases test : (s.hunt i).asksTest m
  · rw [startCompile_of_test cut test]
    exact .inr ⟨compiled _ _ _, rfl⟩
  by_cases discovery : s.asksDiscovery i
  · refine .inl ?_
    rw [startCompile_of_discovery cut test discovery, State.finished, modEngine_engine_self, modEngine_enrol,
      modEnrol_enrol_self]
    exact ⟨rfl, discovery, rfl⟩
  cases ranging : s.rangingDue i m with
  | none =>
    rw [startCompile_of_ordinary cut test discovery ranging]
    exact .inr ⟨compiled _ _ _, rfl⟩
  | some k =>
    rw [startCompile_of_ranging cut test discovery ranging]
    exact .inr ⟨compiled _ _ _, scheduleRanging_sameMode s i i k m⟩

theorem makeDue_enrol (t : Tree) : (s.makeDue i).enrol t = s.enrol t := rfl

end

/-- The run of a tree counts one frame more, up to 64, and its compile for the next frame makes that count 0 where it
prepares a discovery frame (R67). -/
theorem runTree_discovery (s : State) (i : Tree) :
    let u := s.runTree i false
    let counted := min 64 ((s.enrol i).count + 1)
    ((u.engine i).planPrep = some (.discoveryPlan (s.frame + 1)) ∧ (s.enrol i).d ≤ counted ∧ (u.enrol i).count = 0 ∧
        (u.enrol i).seqNo = ((s.enrol i).seqNo + 1) % 65536 ∧ (u.enrol i).lastDiscovery = some (s.frame + 1)) ∨
      ((∀ x, (u.engine i).planPrep = some x → x.kind ≠ .discovery) ∧ (u.enrol i).count = counted ∧
        (u.enrol i).seqNo = (s.enrol i).seqNo ∧ (u.enrol i).lastDiscovery = (s.enrol i).lastDiscovery) := by
  let forgotten := s.modEngine i (·.forgetAnnounce s.frame)
  have scanned : (s.enrol i).SameMode ((forgotten.scanned i).enrol i) := scanned_sameMode forgotten i
  have frame : (forgotten.counted i false).frame = s.frame :=
    (State.RunsFor.counted (s := forgotten) (i := i) false).frame
  have counted : (forgotten.counted i false).enrol i = ((forgotten.scanned i).enrol i).countUp := by
    rw [counted_false, modEnrol_enrol_self]
  rw [runTree_eq]
  dsimp only
  rw [makeDue_engine, makeDue_enrol, frame]
  refine (startCompile_discovers (forgotten.counted i false) i (s.frame + 1)).imp ?_ ?_
  · rintro ⟨plan, ⟨-, -, -, due⟩, after⟩
    rw [counted, scanned] at due
    rw [after, counted, scanned]
    exact ⟨plan, due, rfl, rfl, rfl⟩
  · rintro ⟨plan, after⟩
    rw [after, counted, scanned]
    exact ⟨plan, rfl, rfl, rfl⟩

/-- Settles O29: the start of a compile by its first case, and the turn of the tree at a boundary, which counts before it
compiles. -/
theorem aCompileStartsByTheFirstCaseThatApplies : Obligations.ACompileStartsByTheFirstCaseThatApplies := by
  refine ⟨fun s t m => ?_, fun s u t live boundary enabled noEnable noDisable => ?_⟩
  · intro e h n testDue discoveryDue ready head again first compiling finished
    refine ⟨startCompile_of_cut, startCompile_of_test, fun uncut noTest due => ?_, fun uncut noTest noDiscovery => ?_⟩
    · have start := startCompile_of_discovery uncut noTest due
      have after : (s.startCompile t m).enrol t = n.prepareDiscovery m := by
        rw [start, State.finished, modEngine_enrol, modEnrol_enrol_self]
      refine ⟨(n.prepareDiscovery m).notes, start, ?_, fun f other => ?_⟩
      · rw [after, prepareDiscovery_noteOf, if_pos rfl]
      · rw [after, prepareDiscovery_noteOf, if_neg other]
    · refine ⟨fun k due => ?_, fun k due => ?_, fun none => ?_⟩
      · rw [startCompile_of_ranging uncut noTest noDiscovery (rangingDue_eq_some_iff.mpr ⟨due.1, .inl due.2⟩),
          scheduleRanging_of_ranging due.2]
        rfl
      · rw [startCompile_of_ranging uncut noTest noDiscovery (rangingDue_eq_some_iff.mpr ⟨due.1, .inr due.2⟩),
          scheduleRanging_of_announced due.2.1]
        rfl
      · refine startCompile_of_ordinary uncut noTest noDiscovery (rangingDue_eq_none_iff.mpr fun k due => ?_)
        exact due.2.elim (fun state => (none k).1 ⟨due.1, state⟩) fun state => (none k).2 ⟨due.1, state⟩
  · intro n discovery
    obtain rfl := (exec_frameBoundary_iff live).mp boundary
    obtain ⟨v, ⟨-, before⟩, -, after⟩ := exists_turn s t
    have start := before.engine.trans (atBoundary_engine s t)
    have enrol : v.enrol t = n := before.enrol.trans (atBoundary_enrol s t)
    have frame : v.frame = s.frame + 1 := before.frame.trans (atBoundary_frame s)
    have noDisable : (v.engine t).disableWaiters = [] := by rwa [start]
    have noEnable : (v.engine t).enableWaiters = [] := by rwa [start]
    obtain ⟨runs, unmarked⟩ := changeTree_runs v t noDisable noEnable (by rwa [start])
    have turn : v.boundaryTree t = (v.changeTree t).1.runTree t false :=
      boundaryTree_of_runs (Prod.ext rfl unmarked) runs
    have ran := runTree_discovery (v.changeTree t).1 t
    dsimp only at ran
    rw [← turn, changeTree_frame, frame, changeTree_sameMode v t noDisable noEnable, enrol, add_assoc, ← after.engine,
      ← after.enrol] at ran
    rcases ran with ⟨plan, due, count, seqNo, last⟩ | ⟨noPlan, count, seqNo, last⟩
    · exact ⟨fun none => absurd ⟨_, plan, rfl⟩ none, fun _ => ⟨due, count, seqNo, last⟩⟩
    · exact ⟨fun _ => ⟨count, seqNo, last⟩, fun ⟨x, own, kind⟩ => absurd kind (noPlan x own)⟩

end Sys2Proof.Machine

/-! ## The reading of a record by a compile (R92, R106, R110 to R112) -/

namespace Sys2Proof.Machine

section
variable {s : State} {t : Tree} {k : Nat} {c : Compile}

theorem exec_compileReadRecord_eq (live : s.OutOfReset) : exec (.compileReadRecord t) s = .next (s.readNext t) :=
  live_out s _ live

/-- The next record that a compile reads is the least tag of its tree that it has still to read (R106). -/
theorem unread_head? (late : c.cursor ≤ k) (own : s.isRecordOf t k = true)
    (least : ∀ j, c.cursor ≤ j → j < k → s.isRecordOf t j = false) : (s.unread t c.cursor).head? = some k := by
  refine numbersWhere_head?_eq_some _ _ _ ((mem_unread_iff ..).mpr ⟨late, own⟩) fun j hj => ?_
  obtain ⟨lateJ, ownJ⟩ := (mem_unread_iff ..).mp hj
  by_contra below
  exact absurd ownJ (by rw [least j lateJ (not_le.mp below)]; decide)

theorem readNext_of_next (compiling : (s.engine t).compile = some c) (late : c.cursor ≤ k)
    (own : s.isRecordOf t k = true) (least : ∀ j, c.cursor ≤ j → j < k → s.isRecordOf t j = false) :
    s.readNext t = s.modEngine t fun e =>
      { e with compile := some (c.read k (s.record k) (s.profile (s.record k).profile) (s.tracker k)) } := by
  obtain ⟨rest, unread⟩ := List.head?_eq_some_iff.mp (unread_head? late own least)
  have next : s.readNext t = s.readRecord t k := by
    unfold State.readNext
    rw [compiling]
    dsimp only
    rw [unread]
  rw [next]
  exact modEngine_congr (by rw [compiling, Option.map_some])

/-- Whom the settle excludes from the plan for a frame (R92). -/
theorem excludes_iff (x : Tracker) (m : FrameNo) : x.excludes m = true ↔
    x.cause = .ranged ∧ (x.mark = .pending ∨ ∃ f, x.mark = .carried f ∧ (m - f).toInt < 4) := by
  have early (f : FrameNo) : (!atLeastAfter 4 f m) = true ↔ (m - f).toInt < 4 := by
    rw [Bool.not_eq_true', ← Bool.not_eq_true, atLeastAfter_iff, not_le]
    rfl
  unfold Tracker.excludes
  rw [Bool.and_eq_true, beq_iff_eq]
  refine and_congr_right fun _ => ?_
  cases x.mark <;> simp [early]

end

section
variable {c : Compile} {k : Nat} {r : DropRecord} {p : Profile} {x : Tracker}

theorem read_of_inactive (state : r.state ≠ .active) : c.read k r p x = { c with cursor := k + 1 } := if_pos state

theorem read_of_held (state : r.state = .active) (held : r.held = true) :
    c.read k r p x = { c with cursor := k + 1, withheld := c.withheld ++ [k] } :=
  (if_neg (not_not_intro state)).trans (if_pos held)

theorem read_of_excluded (state : r.state = .active) (free : r.held = false) (excluded : x.excludes c.frame = true) :
    c.read k r p x = { c with cursor := k + 1 } :=
  ((if_neg (not_not_intro state)).trans (if_neg (by rw [free]; decide))).trans (if_pos excluded)

theorem read_of_eligible (state : r.state = .active) (free : r.held = false) (eligible : ¬ x.excludes c.frame = true) :
    c.read k r p x = { c with
      cursor := k + 1
      eligible := c.eligible ++ [candidateOf k r p]
      overList := if r.isOver then c.overList ++ [k] else c.overList } :=
  ((if_neg (not_not_intro state)).trans (if_neg (by rw [free]; decide))).trans (if_neg eligible)

theorem candidateOf_of_over (throttled : r.isOver = true) :
    candidateOf k r p = ⟨k, p.f, min p.a p.mt, p.mt, 1, r.backlog, r.outstanding⟩ := if_pos throttled

theorem candidateOf_of_within (within : r.isOver = false) :
    candidateOf k r p = ⟨k, p.f, p.a, p.m, p.w, r.backlog, r.outstanding⟩ := if_neg (by rw [within]; decide)

end

/-- Settles O30: the next record of the tree is the one read, and its state, hold, settle and over flag say where it is
entered. -/
theorem aCompileReadsOneRecordWhole : Obligations.ACompileReadsOneRecordWhole := by
  intro t k c s live compiling late own least r p excluded result passed
  have step : exec (.compileReadRecord t) s = result (c.read k r p (s.tracker k)) := by
    rw [exec_compileReadRecord_eq live, readNext_of_next compiling late own least]
  have settles : (s.tracker k).excludes c.frame = true ↔ excluded := excludes_iff ..
  rw [step]
  refine ⟨fun state => ?_, fun state held => ?_, fun state free settling => ?_, fun state free settled within => ?_,
    fun state free settled throttled => ?_⟩
  · rw [read_of_inactive state]
  · rw [read_of_held state held]
  · rw [read_of_excluded state free (settles.mpr settling)]
  · rw [read_of_eligible state free (mt settles.mp settled), candidateOf_of_within within, within]
    rfl
  · rw [read_of_eligible state free (mt settles.mp settled), candidateOf_of_over throttled, throttled]
    rfl

end Sys2Proof.Machine

/-! ## The surplus and the slots (R21, R116 to R120) -/

namespace Sys2Proof.Machine

/-! ### Sums over the homes of a plan -/

/-- Homes that add nothing can be left out of a sum. -/
theorem sum_map_filter_of_zero {α : Type} {f : α → Nat} {p : α → Bool} (l : List α)
    (zero : ∀ x ∈ l, p x = false → f x = 0) : ((l.filter p).map f).sum = (l.map f).sum := by
  induction l with
  | nil => rfl
  | cons x rest ih =>
    have tail := ih fun y hy => zero y (List.mem_cons_of_mem x hy)
    cases own : p x with
    | true => simp [own, tail]
    | false => simp [own, tail, zero x List.mem_cons_self own]

theorem sum_div_le {α : Type} (f : α → Nat) (n : Nat) (l : List α) :
    (l.map fun x => f x / n).sum ≤ (l.map f).sum / n := by
  induction l with
  | nil => simp
  | cons x rest ih =>
    rw [List.map_cons, List.sum_cons, List.map_cons, List.sum_cons]
    exact (Nat.add_le_add_left ih _).trans (Nat.div_add_div_le_add_div ..)

/-! ### Shares (R117) -/

theorem share_le_residual (c : Candidate) (surplus wsum : Nat) : c.share surplus wsum ≤ c.residual := Nat.min_le_left ..

/-- The shares together stay within the surplus (R117). -/
theorem sum_share_le (surplus : Nat) (cs : List Candidate) :
    (cs.map fun c => c.share surplus (weightSum cs)).sum ≤ surplus := by
  let sharing := cs.filter fun c => decide (0 < c.residual)
  have some : (sharing.map fun c => c.share surplus (weightSum cs)).sum =
      (cs.map fun c => c.share surplus (weightSum cs)).sum :=
    sum_map_filter_of_zero cs fun c _ none => by
      have residual : c.residual = 0 := by simpa using none
      simp [Candidate.share, residual]
  calc (cs.map fun c => c.share surplus (weightSum cs)).sum
    _ = (sharing.map fun c => c.share surplus (weightSum cs)).sum := some.symm
    _ ≤ (sharing.map fun c => surplus * c.w / weightSum cs).sum := List.sum_le_sum fun c _ => Nat.min_le_right ..
    _ ≤ (sharing.map fun c => surplus * c.w).sum / weightSum cs := sum_div_le ..
    _ = surplus * weightSum cs / weightSum cs := by rw [List.sum_map_mul_left]; rfl
    _ ≤ surplus := Nat.div_le_of_le_mul (Nat.mul_comm ..).le

/-- What a home still wishes after its share (R118). -/
def Candidate.wish (c : Candidate) (surplus wsum : Nat) : Nat := c.residual - c.share surplus wsum

/-- The homes whose residual exceeds their share (R118). -/
def wishingHomes (surplus wsum : Nat) (cs : List Candidate) : List Candidate :=
  cs.filter fun c => decide (c.share surplus wsum < c.residual)

/-- The homes of the leftover round, from the surplus pointer onward (R118). -/
def roundHomes (pointer surplus wsum : Nat) (cs : List Candidate) : List Candidate :=
  (wishingHomes surplus wsum cs).filter (fun c => decide (pointer ≤ c.tag)) ++
    (wishingHomes surplus wsum cs).filter fun c => decide (c.tag < pointer)

theorem roundOrder_eq (pointer surplus wsum : Nat) (cs : List Candidate) : roundOrder pointer surplus wsum cs =
    (roundHomes pointer surplus wsum cs).map fun c => (c.tag, c.wish surplus wsum) := by
  unfold roundOrder roundHomes
  dsimp only
  rw [List.map_append, List.filter_map, List.filter_map]
  rfl

theorem roundHomes_perm (pointer surplus wsum : Nat) (cs : List Candidate) :
    (roundHomes pointer surplus wsum cs).Perm (wishingHomes surplus wsum cs) := by
  have complement : (fun c : Candidate => decide (c.tag < pointer)) = fun c => !decide (pointer ≤ c.tag) := by
    funext c
    rw [← decide_not, decide_eq_decide, not_le]
  unfold roundHomes
  rw [complement]
  exact List.filter_append_perm ..

theorem mem_roundHomes_iff {pointer surplus wsum : Nat} {cs : List Candidate} {c : Candidate} :
    c ∈ roundHomes pointer surplus wsum cs ↔ c ∈ cs ∧ c.share surplus wsum < c.residual := by
  rw [(roundHomes_perm ..).mem_iff, wishingHomes, List.mem_filter, decide_eq_true_eq]

theorem roundHomes_nodup {cs : List Candidate} (distinct : (cs.map (·.tag)).Nodup) (pointer surplus wsum : Nat) :
    ((roundHomes pointer surplus wsum cs).map (·.tag)).Nodup :=
  ((roundHomes_perm ..).map _).nodup_iff.mpr (distinct.sublist (List.filter_sublist.map _))

/-- What the homes of the round wish is what the residuals exceed the shares by. -/
theorem sum_wish (pointer surplus wsum : Nat) (cs : List Candidate) :
    (cs.map fun c => c.share surplus wsum).sum +
      ((roundHomes pointer surplus wsum cs).map fun c => c.wish surplus wsum).sum = residualTotal cs := by
  have wishes : ((roundHomes pointer surplus wsum cs).map fun c => c.wish surplus wsum).sum =
      (cs.map fun c => c.wish surplus wsum).sum := by
    rw [((roundHomes_perm ..).map _).sum_eq]
    exact sum_map_filter_of_zero cs fun c _ none => Nat.sub_eq_zero_of_le (by simpa using none)
  rw [wishes, ← List.sum_map_add, residualTotal]
  exact congrArg List.sum (List.map_congr_left fun c _ => Nat.add_sub_cancel' (share_le_residual ..))

/-! ### The leftover round (R118, R119) -/

theorem handOut_tags (l : List (Nat × Nat)) : ∀ left, (handOut left l).map (·.1) = l.map (·.1) := by
  induction l with
  | nil => exact fun _ => rfl
  | cons x rest ih => exact fun left => congrArg (x.1 :: ·) (ih _)

/-- The round goes on with what the homes before it have left. -/
theorem handOut_append (l l' : List (Nat × Nat)) :
    ∀ left, handOut left (l ++ l') = handOut left l ++ handOut (left - (l.map (·.2)).sum) l' := by
  induction l with
  | nil => exact fun _ => rfl
  | cons x rest ih =>
    intro left
    have remains : left - min x.2 left - (rest.map (·.2)).sum = left - (x.2 + (rest.map (·.2)).sum) := by omega
    rw [List.cons_append, handOut, ih, remains]
    rfl

theorem handOut_sum (l : List (Nat × Nat)) :
    ∀ left, ((handOut left l).map (·.2)).sum = min left (l.map (·.2)).sum := by
  induction l with
  | nil => simp [handOut]
  | cons x rest ih =>
    intro left
    rw [handOut, List.map_cons, List.sum_cons, ih, List.map_cons, List.sum_cons]
    dsimp only
    omega

theorem handOut_zero (l : List (Nat × Nat)) : ∀ x ∈ handOut 0 l, x.2 = 0 := by
  have total : ((handOut 0 l).map (·.2)).sum = 0 := (handOut_sum l 0).trans (Nat.zero_min _)
  exact fun x hx => List.sum_eq_zero_iff.mp total x.2 (List.mem_map_of_mem hx)

theorem gotOf_of_mem {got : List (Nat × Nat)} {k n : Nat} (distinct : (got.map (·.1)).Nodup) (own : (k, n) ∈ got) :
    gotOf got k = n := by
  unfold gotOf
  cases found : got.find? fun x => x.1 == k with
  | none => exact absurd (List.find?_eq_none.mp found _ own) (by simp)
  | some x =>
    have tag : x.1 = k := by simpa using List.find?_some found
    have same := List.inj_on_of_nodup_map distinct (List.mem_of_find?_eq_some found) own tag
    rw [same]
    rfl

theorem gotOf_of_not_mem {got : List (Nat × Nat)} {k : Nat} (other : k ∉ got.map (·.1)) : gotOf got k = 0 := by
  have none : (got.find? fun x => x.1 == k) = Option.none :=
    List.find?_eq_none.mpr fun x hx own => other (List.mem_map.mpr ⟨x, hx, by simpa using own⟩)
  rw [gotOf, none]
  rfl

/-- The pointer stands after the last home that received any (R119). -/
theorem pointerAfter_of_last {pointer k n : Nat} {got before after : List (Nat × Nat)}
    (split : got = before ++ (k, n) :: after) (some : 0 < n) (none : ∀ x ∈ after, x.2 = 0) :
    pointerAfter pointer got = k % 256 + 1 := by
  have rest : after.filter (fun x => decide (0 < x.2)) = [] :=
    List.filter_eq_nil_iff.mpr fun x hx => by simp [none x hx]
  have received : got.filter (fun x => decide (0 < x.2)) = before.filter (fun x => decide (0 < x.2)) ++ [(k, n)] := by
    rw [split, List.filter_append, List.filter_cons_of_pos (by simpa using some), rest]
  unfold pointerAfter
  rw [received, List.getLast?_append_cons]
  rfl

theorem pointerAfter_of_none {pointer : Nat} {got : List (Nat × Nat)} (none : ∀ x ∈ got, x.2 = 0) :
    pointerAfter pointer got = pointer := by
  have received : got.filter (fun x => decide (0 < x.2)) = [] :=
    List.filter_eq_nil_iff.mpr fun x hx => by simp [none x hx]
  unfold pointerAfter
  rw [received]
  rfl

/-! ### The division of the surplus (R116 to R119) -/

section
variable {pointer surplus : Nat} {cs : List Candidate}

/-- What the shares leave of the surplus (R118). -/
def leftoverOf (surplus : Nat) (cs : List Candidate) : Nat :=
  surplus - (cs.map fun c => c.share surplus (weightSum cs)).sum

/-- What each home of the leftover round receives in it (R118). -/
def dealtOut (pointer surplus : Nat) (cs : List Candidate) : List (Nat × Nat) :=
  handOut (leftoverOf surplus cs)
    ((roundHomes pointer surplus (weightSum cs) cs).map fun c => (c.tag, c.wish surplus (weightSum cs)))

theorem divide_of_fits (fits : residualTotal cs ≤ surplus) :
    divide pointer surplus cs = (Candidate.residual, pointer, none) := if_pos fits

theorem divide_of_exceeds (exceeds : surplus < residualTotal cs) : divide pointer surplus cs =
    (fun c => c.share surplus (weightSum cs) + gotOf (dealtOut pointer surplus cs) c.tag,
      pointerAfter pointer (dealtOut pointer surplus cs), some (weightSum cs, leftoverOf surplus cs)) := by
  rw [divide, if_neg exceeds.not_ge]
  dsimp only
  rw [roundOrder_eq]
  rfl

theorem dealtOut_tags : (dealtOut pointer surplus cs).map (·.1) =
    (roundHomes pointer surplus (weightSum cs) cs).map (·.tag) := by
  rw [dealtOut, handOut_tags, List.map_map]
  rfl

/-- The round at one of its homes: it receives what it still wishes while any is left (R118). -/
theorem dealtOut_split {before after : List Candidate} {c : Candidate}
    (order : roundHomes pointer surplus (weightSum cs) cs = before ++ c :: after) :
    let wish := fun c : Candidate => c.wish surplus (weightSum cs)
    let left := leftoverOf surplus cs - (before.map wish).sum
    dealtOut pointer surplus cs =
      handOut (leftoverOf surplus cs) (before.map fun c => (c.tag, wish c)) ++
        (c.tag, min (wish c) left) :: handOut (left - min (wish c) left) (after.map fun c => (c.tag, wish c)) := by
  intro wish left
  rw [dealtOut, order, List.map_append, handOut_append, List.map_map]
  rfl

theorem gotOf_dealtOut_of_mem {before after : List Candidate} {c : Candidate} (distinct : (cs.map (·.tag)).Nodup)
    (order : roundHomes pointer surplus (weightSum cs) cs = before ++ c :: after) :
    gotOf (dealtOut pointer surplus cs) c.tag = min (c.wish surplus (weightSum cs))
      (leftoverOf surplus cs - (before.map fun c => c.wish surplus (weightSum cs)).sum) := by
  refine gotOf_of_mem (dealtOut_tags ▸ roundHomes_nodup distinct ..) ?_
  rw [dealtOut_split order]
  exact List.mem_append_right _ List.mem_cons_self

/-- A home whose share is its residual takes no part in the round. -/
theorem gotOf_dealtOut_of_content {c : Candidate} (distinct : (cs.map (·.tag)).Nodup) (home : c ∈ cs)
    (content : c.share surplus (weightSum cs) = c.residual) : gotOf (dealtOut pointer surplus cs) c.tag = 0 := by
  refine gotOf_of_not_mem fun tag => ?_
  rw [dealtOut_tags, List.mem_map] at tag
  obtain ⟨x, part, same⟩ := tag
  obtain ⟨homeX, wishes⟩ := mem_roundHomes_iff.mp part
  rw [List.inj_on_of_nodup_map distinct homeX home same] at wishes
  exact absurd content wishes.ne

theorem gotOf_dealtOut_le {c : Candidate} (distinct : (cs.map (·.tag)).Nodup) (home : c ∈ cs) :
    gotOf (dealtOut pointer surplus cs) c.tag ≤ c.wish surplus (weightSum cs) := by
  rcases (share_le_residual c surplus (weightSum cs)).lt_or_eq with wishes | content
  · obtain ⟨before, after, order⟩ :=
      List.append_of_mem (mem_roundHomes_iff (pointer := pointer).mpr ⟨home, wishes⟩)
    rw [gotOf_dealtOut_of_mem distinct order]
    exact Nat.min_le_left ..
  · rw [gotOf_dealtOut_of_content distinct home content]
    exact Nat.zero_le _

/-- Where the residuals do not fit, the round gives out all that the shares have left (R118). -/
theorem sum_gotOf_dealtOut (distinct : (cs.map (·.tag)).Nodup) (exceeds : surplus < residualTotal cs) :
    (cs.map fun c => gotOf (dealtOut pointer surplus cs) c.tag).sum = leftoverOf surplus cs := by
  let got := dealtOut pointer surplus cs
  let homes := roundHomes pointer surplus (weightSum cs) cs
  have round : (homes.map fun c => gotOf got c.tag).sum = (cs.map fun c => gotOf got c.tag).sum := by
    rw [((roundHomes_perm ..).map _).sum_eq]
    refine sum_map_filter_of_zero cs fun c home none => gotOf_dealtOut_of_content distinct home ?_
    exact (share_le_residual ..).antisymm (by simpa using none)
  have tags : homes.map (fun c => gotOf got c.tag) = got.map (·.2) := by
    calc homes.map (fun c => gotOf got c.tag)
      _ = (homes.map (·.tag)).map (gotOf got) := by rw [List.map_map]; rfl
      _ = got.map fun x => gotOf got x.1 := by rw [← dealtOut_tags, List.map_map]; rfl
      _ = got.map (·.2) := List.map_congr_left fun x hx => gotOf_of_mem (dealtOut_tags ▸ roundHomes_nodup distinct ..) hx
  have enough : leftoverOf surplus cs ≤ (homes.map fun c => c.wish surplus (weightSum cs)).sum := by
    have wishes : _ + (homes.map fun c => c.wish surplus (weightSum cs)).sum = _ :=
      sum_wish pointer surplus (weightSum cs) cs
    unfold leftoverOf
    omega
  have dealt : (got.map (·.2)).sum = min (leftoverOf surplus cs) _ := handOut_sum ..
  rw [← round, tags, dealt, List.map_map]
  exact Nat.min_eq_left enough

/-- Where the residuals do not fit, every grain of the surplus is granted (R118). -/
theorem sum_divide_of_exceeds (distinct : (cs.map (·.tag)).Nodup) (exceeds : surplus < residualTotal cs) :
    (cs.map (divide pointer surplus cs).1).sum = surplus := by
  rw [divide_of_exceeds exceeds, List.sum_map_add, sum_gotOf_dealtOut distinct exceeds]
  exact Nat.add_sub_cancel' (sum_share_le ..)

theorem sum_divide_le (distinct : (cs.map (·.tag)).Nodup) : (cs.map (divide pointer surplus cs).1).sum ≤ surplus := by
  rcases le_or_gt (residualTotal cs) surplus with fits | exceeds
  · rw [divide_of_fits fits]
    exact fits
  · exact (sum_divide_of_exceeds distinct exceeds).le

end

/-! ### The slots of a compiled plan (R21, R120) -/

section
variable {p : TreeParams}

/-- The grains that a slot takes, as `placeSlots` is told of it. -/
def slotWidth (p : TreeParams) (x : Nat × Nat × Nat) : Nat := p.overhead + (x.2.1 + x.2.2)

theorem placeSlots_head? {start : Nat} {l : List (Nat × Nat × Nat)} {b : Burst}
    (first : (placeSlots p start l).head? = some b) : b.preamble = start + p.g := by
  cases l with
  | nil => cases first
  | cons x rest =>
    cases first
    rfl

/-- Each slot begins where the slot before it ends. -/
theorem placeSlots_abut (l : List (Nat × Nat × Nat)) : ∀ (start i : Nat) (a b : Burst),
    (placeSlots p start l)[i]? = some a → (placeSlots p start l)[i + 1]? = some b →
      b.preamble = a.preamble + p.p + 3 + a.payload + p.g := by
  induction l with
  | nil => exact fun _ _ _ _ own => nomatch own
  | cons x rest ih =>
    intro start i a b own next
    cases i with
    | succ i => exact ih _ i a b own next
    | zero =>
      cases own
      have first := placeSlots_head? (List.head?_eq_getElem? ▸ next)
      rw [first, TreeParams.overhead]
      dsimp only
      omega

theorem placeSlots_within (l : List (Nat × Nat × Nat)) : ∀ (start : Nat), ∀ b ∈ placeSlots p start l,
    start + p.g ≤ b.preamble ∧ b.preamble + p.p + 3 + b.payload ≤ start + (l.map (slotWidth p)).sum := by
  induction l with
  | nil => exact fun _ _ own => nomatch own
  | cons x rest ih =>
    obtain ⟨tag, base, extra⟩ := x
    intro start b own
    have overhead : p.overhead = p.g + p.p + 3 := rfl
    rw [List.map_cons, List.sum_cons, slotWidth]
    rcases List.mem_cons.mp own with rfl | later
    · dsimp only
      omega
    · have := ih _ b later
      dsimp only
      omega

/-- What the bases leave of the grains after the window (R115). -/
def compileSurplus (c : Compile) (p : TreeParams) : Nat :=
  surplusOf (10000 - windowWidth c.window) p.overhead c.eligible

/-- What `placeSlots` is told of the homes of a compile. -/
def compileSlots (c : Compile) (p : TreeParams) (pointer : Nat) : List (Nat × Nat × Nat) :=
  c.eligible.map fun x => (x.tag, x.base, (divide pointer (compileSurplus c p) c.eligible).1 x)

theorem buildPlan_entries (c : Compile) (p : TreeParams) (pointer : Nat) : (buildPlan c p pointer).1.entries =
    placeSlots p (windowWidth c.window) (compileSlots c p pointer) := rfl

/-- While the bases fit the grains after the window, so do the slots with their extras. -/
theorem slots_fit {c : Compile} {pointer : Nat} (distinct : (c.eligible.map (·.tag)).Nodup)
    (fits : windowWidth c.window + (c.eligible.map fun x => p.overhead + x.base).sum ≤ 10000) :
    windowWidth c.window + ((compileSlots c p pointer).map (slotWidth p)).sum ≤ 10000 := by
  have widths : ((compileSlots c p pointer).map (slotWidth p)).sum =
      (c.eligible.map fun x => p.overhead + x.base).sum +
        (c.eligible.map (divide pointer (compileSurplus c p) c.eligible).1).sum := by
    rw [compileSlots, List.map_map, ← List.sum_map_add]
    exact congrArg List.sum (List.map_congr_left fun x _ => (Nat.add_assoc ..).symm)
  have extras : _ ≤ compileSurplus c p := sum_divide_le (pointer := pointer) distinct
  unfold compileSurplus surplusOf at extras widths
  omega

end

/-- Settles O32: the round gives out what the shares leave, home by home, and the slots are placed end to end. -/
theorem theSurplusIsSpentAndTheSlotsFitTheFrame : Obligations.TheSurplusIsSpentAndTheSlotsFitTheFrame := by
  refine ⟨fun pointer surplus cs distinct exceeds => ⟨sum_divide_of_exceeds distinct exceeds, fun c home => ?_⟩,
    fun pointer surplus cs sorted => ⟨fun fits => ?_, fun exceeds => ?_⟩, fun c p pointer distinct fits => ?_⟩
  · have within := gotOf_dealtOut_le (pointer := pointer) (surplus := surplus) distinct home
    have share := share_le_residual c surplus (weightSum cs)
    rw [divide_of_exceeds exceeds]
    refine ⟨?_, Nat.le_add_right ..⟩
    dsimp only
    rw [Candidate.wish] at within
    omega
  · rw [divide_of_fits fits]
  · have distinct : (cs.map (·.tag)).Nodup := sorted.imp Nat.ne_of_lt
    intro wsum share wish wishing order leftover extra
    have dealt : extra = fun c => share c + gotOf (dealtOut pointer surplus cs) c.tag := by
      funext c
      exact congrFun (congrArg Prod.fst (divide_of_exceeds exceeds)) c
    have after : (divide pointer surplus cs).2.1 = pointerAfter pointer (dealtOut pointer surplus cs) := by
      rw [divide_of_exceeds exceeds]
    rw [dealt, after]
    refine ⟨fun c home content => ?_, fun before c rest split => ?_, fun none => ?_⟩
    · exact congrArg (share c + ·) (gotOf_dealtOut_of_content distinct home content)
    · refine ⟨congrArg (share c + ·) (gotOf_dealtOut_of_mem distinct split), fun some last => ?_⟩
      have left : leftoverOf surplus cs = leftover := rfl
      have received : 0 < min (wish c) (leftoverOf surplus cs - (before.map wish).sum) := by omega
      have spent : leftoverOf surplus cs - (before.map wish).sum -
          min (wish c) (leftoverOf surplus cs - (before.map wish).sum) = 0 := by omega
      exact pointerAfter_of_last (dealtOut_split split) received (spent ▸ handOut_zero _)
    · refine pointerAfter_of_none ?_
      rw [dealtOut, show leftoverOf surplus cs = 0 from none]
      exact handOut_zero _
  · intro entries
    rw [show entries = _ from buildPlan_entries c p pointer]
    refine ⟨fun b first => placeSlots_head? first, placeSlots_abut _ _, fun b own => ?_⟩
    obtain ⟨starts, ends⟩ := placeSlots_within _ _ b own
    exact ⟨starts, ends.trans (slots_fit distinct fits)⟩

end Sys2Proof.Machine

/-! ## The end of a compile (R105, R113 to R116, R121) -/

namespace Sys2Proof.Machine

section
variable {s : State} {t : Tree} {c : Compile}

theorem exec_compileEnd_eq (live : s.OutOfReset) : exec (.compileEnd t) s = .next (s.endCompile t) :=
  live_out s _ live

/-- A compile that has read its last record ends with the plan that is built of what it read (R105). -/
theorem endCompile_of_last (compiling : (s.engine t).compile = some c)
    (last : ∀ k, c.cursor ≤ k → s.isRecordOf t k = false) :
    s.endCompile t = s.modEngine t fun e => { e with
      planPrep := some (buildPlan c e.params e.surplusPtr).1
      surplusPtr := (buildPlan c e.params e.surplusPtr).2
      compile := none } := by
  have none : s.unread t c.cursor = [] := List.eq_nil_iff_forall_not_mem.mpr fun k hk => by
    obtain ⟨late, own⟩ := (mem_unread_iff ..).mp hk
    rw [last k late] at own
    exact absurd own (by decide)
  unfold State.endCompile
  rw [compiling]
  dsimp only
  rw [none, if_pos List.isEmpty_nil]

/-- The slots hold what `placeSlots` is told of the homes, in its order (R120, R121). -/
theorem placeSlots_homes {p : TreeParams} (l : List (Nat × Nat × Nat)) :
    ∀ start, (placeSlots p start l).map (fun b => (b.tag, b.base, b.extra)) = l := by
  induction l with
  | nil => exact fun _ => rfl
  | cons x rest ih => exact fun start => congrArg (x :: ·) (ih _)

theorem placeSlots_payload {p : TreeParams} (l : List (Nat × Nat × Nat)) :
    ∀ start, ∀ b ∈ placeSlots p start l, b.payload = b.base + b.extra := by
  induction l with
  | nil => exact fun _ _ own => nomatch own
  | cons x rest ih =>
    intro start b own
    rcases List.mem_cons.mp own with rfl | later
    · rfl
    · exact ih _ b later

/-- One burst for each home in the order read, with its base and its extra (R121). -/
theorem buildPlan_homes {α : Type} (c : Compile) (p : TreeParams) (pointer : Nat) (f : Nat × Nat × Nat → α) :
    (buildPlan c p pointer).1.entries.map (fun b => f (b.tag, b.base, b.extra)) =
      c.eligible.map fun x => f (x.tag, x.base, (divide pointer (compileSurplus c p) c.eligible).1 x) := by
  have slots := congrArg (List.map f)
    (placeSlots_homes (p := p) (compileSlots c p pointer) (windowWidth c.window))
  rw [compileSlots, List.map_map, List.map_map] at slots
  exact slots

theorem divide_fitted_iff (pointer surplus : Nat) (cs : List Candidate) :
    (divide pointer surplus cs).2.2.isNone = true ↔ residualTotal cs ≤ surplus := by
  rcases le_or_gt (residualTotal cs) surplus with fits | exceeds
  · rw [divide_of_fits fits]
    exact iff_of_true rfl fits
  · rw [divide_of_exceeds exceeds]
    exact iff_of_false Bool.false_ne_true exceeds.not_ge

end

/-- Settles O31: the plan in preparation is the one built, read home by home. -/
theorem aCompileEndsWithThePlanOfItsHomes : Obligations.ACompileEndsWithThePlanOfItsHomes := by
  intro t c s live compiling last p need base u surplus residuals dealt
  let pointer := (s.engine t).surplusPtr
  have column {α : Type} (f : Nat × Nat × Nat → α) := buildPlan_homes c p pointer f
  refine ⟨(buildPlan c p pointer).1, (buildPlan c p pointer).2, rfl, ?_, rfl, rfl, rfl, rfl, rfl, rfl, column (·.1),
    column (·.2.1), placeSlots_payload _ _, column (·.2.2), rfl, fun fits => ?_, _, rfl, rfl, rfl, rfl, rfl, rfl,
    divide_fitted_iff ..⟩
  · rw [exec_compileEnd_eq live, endCompile_of_last compiling last]
    exact congrArg _ (modEngine_congr rfl)
  · have whole : dealt = (Candidate.residual, pointer, none) := divide_of_fits fits
    exact ⟨(column (·.2.2)).trans (congrArg (fun d => c.eligible.map d.1) whole), congrArg (·.2.1) whole⟩

end Sys2Proof.Machine

/-! ## Usage counted in the live set (R123, R171 to R176) -/

namespace Sys2Proof.Machine

/-! ### Saturating additions (R171) -/

/-- An addition stops at the maximum, and marks what it loses or what finds the tally there (R171). -/
theorem addTally_eq (tally amount : Nat) : addTally tally amount =
    (min 281474976710655 (tally + amount), decide (281474976710655 ≤ tally ∨ 281474976710655 < tally + amount)) := by
  unfold addTally tallyMax
  split
  · rename_i fits
    rw [Nat.min_eq_right fits.2, decide_eq_false fun full => full.elim fits.1.not_ge fits.2.not_gt]
  · rename_i full
    rw [Nat.min_eq_left (by omega), decide_eq_true (by omega)]

theorem addUp_eq (x : TallySet) (amount : Nat) : x.addUp amount = { x with
    up := min 281474976710655 (x.up + amount)
    saturated := x.saturated || decide (281474976710655 ≤ x.up ∨ 281474976710655 < x.up + amount) } := by
  rw [TallySet.addUp, addTally_eq]

theorem addDown_eq (x : TallySet) (amount : Nat) : x.addDown amount = { x with
    down := min 281474976710655 (x.down + amount)
    saturated := x.saturated || decide (281474976710655 ≤ x.down ∨ 281474976710655 < x.down + amount) } := by
  rw [TallySet.addDown, addTally_eq]

theorem addGranted_eq (x : TallySet) (amount : Nat) : x.addGranted amount = { x with
    granted := min 281474976710655 (x.granted + amount)
    saturated := x.saturated || decide (281474976710655 ≤ x.granted ∨ 281474976710655 < x.granted + amount) } := by
  rw [TallySet.addGranted, addTally_eq]

theorem addWithheld_eq (x : TallySet) (amount : Nat) : x.addWithheld amount = { x with
    withheld := min 281474976710655 (x.withheld + amount)
    saturated := x.saturated || decide (281474976710655 ≤ x.withheld ∨ 281474976710655 < x.withheld + amount) } := by
  rw [TallySet.addWithheld, addTally_eq]

theorem addOver_eq (x : TallySet) (amount : Nat) : x.addOver amount = { x with
    overFrames := min 281474976710655 (x.overFrames + amount)
    saturated := x.saturated ||
      decide (281474976710655 ≤ x.overFrames ∨ 281474976710655 < x.overFrames + amount) } := by
  rw [TallySet.addOver, addTally_eq]

/-! ### What a dispatch adds (R123, R124, R175) -/

section
variable (x : TallySet) {r : DispatchReport}

theorem addDispatch_of_withheld (withheld : r.withheld = true) : x.addDispatch r = x.addWithheld 1 := if_pos withheld

/-- A burst adds its grains, and an over frame where its home is throttled (R123). -/
theorem addDispatch_of_burst (burst : r.withheld = false) : x.addDispatch r = { x with
    granted := min 281474976710655 (x.granted + r.grains)
    overFrames := if r.isOver then min 281474976710655 (x.overFrames + 1) else x.overFrames
    saturated := x.saturated || decide (281474976710655 ≤ x.granted ∨ 281474976710655 < x.granted + r.grains) ||
      (r.isOver && decide (281474976710655 ≤ x.overFrames ∨ 281474976710655 < x.overFrames + 1)) } := by
  unfold TallySet.addDispatch
  rw [burst]
  cases r.isOver with
  | false =>
    rw [addGranted_eq]
    simp
  | true =>
    rw [addGranted_eq, addOver_eq]
    rfl

end

/-! ### The reports taken (R172) -/

section
variable {s : State} {index : Nat}

theorem exec_tallyUpOctets_eq {r : UpReport} (live : s.OutOfReset) (report : s.mail.ups[index]? = some r) :
    exec (.tallyUpOctets index) s =
      .next ((s.modMail fun m => { m with ups := s.mail.ups.eraseIdx index }).takeUp r) := by
  refine (live_out s _ live).trans ?_
  rw [takeNth_of_getElem? report]

theorem exec_tallyDownOctets_eq {r : DownReport} (live : s.OutOfReset) (report : s.mail.downs[index]? = some r) :
    exec (.tallyDownOctets index) s =
      .next ((s.modMail fun m => { m with downs := s.mail.downs.eraseIdx index }).takeDown r) := by
  refine (live_out s _ live).trans ?_
  rw [takeNth_of_getElem? report]

theorem exec_tallyDispatch_eq {r : DispatchReport} (live : s.OutOfReset) (report : s.mail.dispatches[index]? = some r) :
    exec (.tallyDispatch index) s =
      .next ((s.modMail fun m => { m with dispatches := s.mail.dispatches.eraseIdx index }).takeDispatch r) := by
  refine (live_out s _ live).trans ?_
  rw [takeNth_of_getElem? report]

theorem takeUp_of_other {r : UpReport} (other : s.isRecordOf r.tree r.tag = false) : s.takeUp r = s :=
  if_neg (by rw [other]; decide)

theorem takeDispatch_of_other {r : DispatchReport} (other : s.isRecordOf r.tree r.tag = false) : s.takeDispatch r = s :=
  if_neg (by rw [other]; decide)

theorem takeDispatch_of_own {r : DispatchReport} (own : s.isRecordOf r.tree r.tag = true) :
    s.takeDispatch r = s.modLive r.tag (·.addDispatch r) := if_pos own

theorem takeDown_eq (r : DownReport) : s.takeDown r =
    if s.isRecordOf r.tree r.tag then s.modLive r.tag (·.addDown r.octets) else s := rfl

/-- A live set with the user octets of a report counted (R173). -/
def TallySet.countUp (x : TallySet) (r : UpReport) : TallySet := { x with
  up := min 281474976710655 (x.up + r.octets)
  saturated := x.saturated || decide (281474976710655 ≤ x.up ∨ 281474976710655 < x.up + r.octets)
  clamped := x.clamped || r.clamped }

/-- User octets are counted before the over flag is evaluated (R173, R176). -/
theorem takeUp_of_own {r : UpReport} (own : s.isRecordOf r.tree r.tag = true) :
    s.takeUp r = (s.modLive r.tag (·.countUp r)).evalOver r.tag := by
  have counted : (fun x : TallySet => { x.addUp r.octets with clamped := (x.addUp r.octets).clamped || r.clamped }) =
      (·.countUp r) := by
    funext x
    rw [addUp_eq]
    rfl
  rw [← counted]
  exact if_pos own

theorem modLive_tally (k j : Nat) (f : TallySet → TallySet) : (s.modLive k f).tally j =
    if j = k ∧ 1 ≤ k ∧ k ≤ 256 then { s.tally k with live := f (s.tally k).live } else s.tally j :=
  modTally_tally ..

/-- What a report of user octets leaves (R173, R176). -/
theorem takeUp_effect {u : State} {r : UpReport} (own : s.isRecordOf r.tree r.tag = true) (taken : s.takeUp r = u) :
    let q := (s.profile (s.record r.tag).profile).q
    let isOver := decide (q ≠ 0 ∧ q * 1048576 ≤ min 281474976710655 ((s.tally r.tag).live.up + r.octets))
    u.tally r.tag = { s.tally r.tag with live := (s.tally r.tag).live.countUp r } ∧
      (∀ j, j ≠ r.tag → u.tally j = s.tally j ∧ u.record j = s.record j) ∧
      u.record r.tag = { s.record r.tag with isOver := isOver } ∧
      u = { s with
        tallies := u.tallies
        records := u.records
        mail := { s.mail with
          attention := s.mail.attention ++ allowanceReports (s.record r.tag).isOver isOver } } := by
  intro q isOver
  have tag := record_tag_range ((isRecordOf_iff ..).mp own).1
  let v := s.modLive r.tag (·.countUp r)
  have live : v.tally r.tag = { s.tally r.tag with live := (s.tally r.tag).live.countUp r } := by
    rw [modLive_tally, if_pos ⟨rfl, tag⟩]
  have flag : v.overNow r.tag = isOver := by
    rw [overNow_eq, State.overWith, live]
    rfl
  rw [takeUp_of_own own] at taken
  subst taken
  refine ⟨?_, fun j other => ⟨?_, ?_⟩, ?_, ?_⟩
  · rw [evalOver_eq, modMail_tally, modRecord_tally, live]
  · rw [evalOver_eq, modMail_tally, modRecord_tally, modLive_tally, if_neg fun both => other both.1]
  · rw [evalOver_record, if_neg other]
    rfl
  · rw [evalOver_record, if_pos rfl, flag]
    rfl
  · rw [evalOver_eq, flag]
    rfl

end

/-- Settles O44: each report is taken, and adds to the live set of its record. -/
theorem usageIsCountedInTheLiveSet : Obligations.UsageIsCountedInTheLiveSet := by
  intro index s live sum full
  refine ⟨fun r report => ?_, fun r report => ?_, fun r report => ?_⟩
  · intro taken
    have step : exec (.tallyUpOctets index) s = .next (taken.takeUp r) := exec_tallyUpOctets_eq live report
    refine ⟨fun other => ?_, fun own => ?_⟩
    · rw [step, takeUp_of_other (s := taken) other]
    · exact ⟨_, step, takeUp_effect (s := taken) own rfl⟩
  · rw [exec_tallyDownOctets_eq live report, takeDown_eq]
    simp only [addDown_eq]
    rfl
  · intro taken
    have step : exec (.tallyDispatch index) s = .next (taken.takeDispatch r) := exec_tallyDispatch_eq live report
    refine ⟨fun other => ?_, fun own withheld => ?_, fun own burst => ?_⟩
    · rw [step, takeDispatch_of_other (s := taken) other]
    · rw [step, takeDispatch_of_own (s := taken) own]
      simp only [addDispatch_of_withheld _ withheld, addWithheld_eq]
      rfl
    · rw [step, takeDispatch_of_own (s := taken) own]
      simp only [addDispatch_of_burst _ burst]
      rfl

end Sys2Proof.Machine

/-! ## The observation log (R140, R141, R144, R145) -/

namespace Sys2Proof.Machine

/-! ### The lowest position of a vector that passes a test -/

section
variable {α : Type} {size n : Nat} {v : Vector α size} {absent : α} {test : α → Bool}

theorem findIdx?_toList_of_first (low : n < size) (own : test (readAt v (n + 1) absent) = true)
    (first : ∀ m, m < n → ¬ test (readAt v (m + 1) absent) = true) : v.toList.findIdx? test = some n := by
  rw [findIdx?_toList_eq v absent, List.find?_range_eq_some]
  exact ⟨own, List.mem_range.mpr low, fun m hm => by simpa using first m hm⟩

theorem findIdx?_toList_of_none (fails : ∀ m, m < size → ¬ test (readAt v (m + 1) absent) = true) :
    v.toList.findIdx? test = none := by
  rw [findIdx?_toList_eq v absent, List.find?_eq_none]
  exact fun m hm => fails m (List.mem_range.mp hm)

end

/-! ### Log records -/

section
variable {s : State} {n : Nat} {x : Observation}

/-- Log record `n`, 0 to 15, written. -/
def State.modLog (s : State) (n : Nat) (f : Option Observation → Option Observation) : State :=
  { s with log := updateAt s.log (n + 1) f }

theorem logRecord_range (held : s.logRecord n = some x) : n < 16 := by
  by_contra high
  rw [State.logRecord, readAt_of_not_mem _ _ _ (by omega)] at held
  cases held

theorem modLog_logRecord (low : n < 16) (f : Option Observation → Option Observation) (m : Nat) :
    (s.modLog n f).logRecord m = if m = n then f (s.logRecord n) else s.logRecord m :=
  (readAt_updateAt s.log (m + 1) (n + 1) f none).trans (if_congr (by omega) rfl rfl)

/-- What a write of one log record leaves: its own value, and every other record as it was. -/
theorem modLog_effect (low : n < 16) (f : Option Observation → Option Observation) :
    (s.modLog n f).logRecord n = f (s.logRecord n) ∧ ∀ m, m ≠ n → (s.modLog n f).logRecord m = s.logRecord m :=
  ⟨(modLog_logRecord low f n).trans (if_pos rfl), fun m hm => (modLog_logRecord low f m).trans (if_neg hm)⟩

end

/-! ### An observation entered -/

section
variable {s : State} {o : Observation} {n : Nat}

/-- Log record `n` is pending with an observation of the kind, tree and tag of `o` (R141). -/
def State.logsLike (s : State) (o : Observation) (n : Nat) : Prop :=
  ∃ x, s.logRecord n = some x ∧ x.kind = o.kind ∧ x.tree = o.tree ∧ x.tag = o.tag

theorem logsLike_iff : ((s.logRecord n).map (·.agrees o)).getD false = true ↔ s.logsLike o n := by
  unfold State.logsLike
  cases s.logRecord n <;> simp [agrees_iff]

theorem findIdx?_log_of_new (new : ∀ m, ¬ s.logsLike o m) :
    s.log.toList.findIdx? (fun x => (x.map (·.agrees o)).getD false) = none :=
  findIdx?_toList_of_none (absent := none) fun m _ => mt logsLike_iff.mp (new m)

theorem observe_of_match (own : s.logsLike o n) (first : ∀ m, m < n → ¬ s.logsLike o m) :
    s.observe o = s.modLog n (Option.map (·.collapse o)) := by
  have found : s.log.toList.findIdx? (fun x => (x.map (·.agrees o)).getD false) = some n :=
    findIdx?_toList_of_first (absent := none) (own.elim fun _ held => logRecord_range held.1) (logsLike_iff.mpr own)
      fun m hm => mt logsLike_iff.mp (first m hm)
  rw [State.observe, found]
  rfl

theorem observe_of_room (new : ∀ m, ¬ s.logsLike o m) (low : n < 16) (free : s.logRecord n = none)
    (first : ∀ m, m < n → s.logRecord m ≠ none) :
    s.observe o = (s.modLog n fun _ => some o).raise .observation := by
  have found : s.log.toList.findIdx? (·.isNone) = some n :=
    findIdx?_toList_of_first (absent := none) low (Option.isNone_iff_eq_none.mpr free)
      fun m hm => mt Option.isNone_iff_eq_none.mp (first m hm)
  rw [State.observe, findIdx?_log_of_new new, found]
  rfl

/-- A lost observation (R140). -/
theorem observe_of_full (new : ∀ m, ¬ s.logsLike o m) (full : ∀ n, n < 16 → s.logRecord n ≠ none) :
    s.observe o = if s.overflow then s else { s with overflow := true }.raise .observation := by
  have found : s.log.toList.findIdx? (·.isNone) = none :=
    findIdx?_toList_of_none (absent := none) fun m low => mt Option.isNone_iff_eq_none.mp (full m low)
  rw [State.observe, findIdx?_log_of_new new, found]

theorem observe_of_loss (new : ∀ m, ¬ s.logsLike o m) (full : ∀ n, n < 16 → s.logRecord n ≠ none)
    (clear : s.overflow = false) : s.observe o = { s with overflow := true }.raise .observation :=
  (observe_of_full new full).trans (if_neg (by rw [clear]; decide))

theorem collapse_eq (x o : Observation) : x.collapse o = { x with
    repeats := min 65535 (x.repeats + 1)
    lastFrame :=
      if 1 ≤ (x.lastFrame - o.firstFrame).toInt ∧ (x.lastFrame - o.firstFrame).toInt ≤ 64 then x.lastFrame
      else o.firstFrame
    serial := o.serial.or x.serial
    cause := o.cause.or x.cause } := by
  have latest {α : Type} (new held : Option α) : (if new.isSome then new else held) = new.or held := by
    cases new <;> rfl
  unfold Observation.collapse
  rw [latest, latest]
  rfl

end

/-- Settles O51: an observation by the first record it matches, else by the first free record, else by the overflow flag. -/
theorem observationsCollapseOrTakeTheLowestRecord : Obligations.ObservationsCollapseOrTakeTheLowestRecord := by
  intro o s same u
  refine ⟨fun n x held own first => ?_, fun n new low free first => ?_, fun new full clear => ?_,
    fun new full set => ?_⟩
  · obtain ⟨written, others⟩ := modLog_effect (s := s) (logRecord_range held) (Option.map (·.collapse o))
    have entered : u = s.modLog n (Option.map (·.collapse o)) := observe_of_match own first
    rw [entered]
    refine ⟨?_, others, rfl⟩
    rw [written, held, Option.map_some, collapse_eq]
  · obtain ⟨written, others⟩ := modLog_effect (s := s) low fun _ => some o
    have entered : u = (s.modLog n fun _ => some o).raise .observation := observe_of_room new low free first
    rw [entered]
    exact ⟨written, others, rfl⟩
  · exact observe_of_loss new full clear
  · exact (observe_of_full new full).trans (if_pos set)

/-! ### CLEAR_OBSERVATION and CLEAR_OVERFLOW (R144, R145) -/

section
variable {s : State} {l : LinkId} {seq n : Nat}

theorem exec_clearObservation_eq (h : s.Serves l .control) : exec (.clearObservation l seq n) s =
    .next ((s.asked l (.clearObservation l seq n)).serveClearObservation l n) := by
  show live s _ = _
  rw [live_out _ _ h.1.1, State.reqClearObservation, request_serves _ _ _ _ _ h]

theorem exec_clearObservation_of_high (h : s.Serves l .control) (high : 16 ≤ n) :
    exec (.clearObservation l seq n) s = .next (s.served l 23 seq .badRequest .none) := by
  rw [exec_clearObservation_eq h, State.serveClearObservation, if_pos high, asked_answer]
  rfl

theorem asked_logRecord (i : Instr) : (s.asked l i).logRecord n = s.logRecord n := rfl

theorem exec_clearObservation_of_free (h : s.Serves l .control) (low : n < 16) (free : s.logRecord n = none) :
    exec (.clearObservation l seq n) s = .next (s.served l 23 seq .noData .none) := by
  rw [exec_clearObservation_eq h, State.serveClearObservation, if_neg (not_le.mpr low), asked_logRecord, free,
    asked_answer]
  rfl

theorem exec_clearObservation_of_pending {o : Observation} (h : s.Serves l .control) (held : s.logRecord n = some o) :
    exec (.clearObservation l seq n) s =
      .next ((s.served l 23 seq .ok (.observation o)).modLog n fun _ => none) := by
  have freed : ((s.asked l (.clearObservation l seq n)).modLog n fun _ => none).answer l .ok (.observation o) =
      ((s.asked l (.clearObservation l seq n)).answer l .ok (.observation o)).modLog n fun _ => none := rfl
  have served := freed.trans (congrArg (·.modLog n fun _ => none) (asked_answer ..))
  rw [exec_clearObservation_eq h, State.serveClearObservation, if_neg (not_le.mpr (logRecord_range held)),
    asked_logRecord, held]
  exact congrArg _ served

theorem exec_clearOverflow_eq (h : s.Serves l .control) : exec (.clearOverflow l seq) s =
    .next { s.served l 24 seq .ok (.flag s.overflow) with overflow := false } := by
  have cleared (u : State) (data : ResponseData) :
      ({ u with overflow := false } : State).answer l .ok data = { u.answer l .ok data with overflow := false } := rfl
  show live s _ = _
  rw [live_out _ _ h.1.1, State.reqClearOverflow, request_serves _ _ _ _ _ h, cleared, asked_answer]
  rfl

end

/-- Settles O55: each request by the equation of its step, and an observation lost after the flag is cleared. -/
theorem theLogIsClearedByControlRequests : Obligations.TheLogIsClearedByControlRequests := by
  refine ⟨fun l seq n s h => ⟨exec_clearObservation_of_high h, exec_clearObservation_of_free h, fun low o held => ?_,
    exec_clearOverflow_eq h⟩, fun l seq n s h tally => ?_, fun o s clear full => ?_⟩
  · obtain ⟨written, others⟩ := modLog_effect (s := s.served l 23 seq .ok (.observation o)) low fun _ => none
    exact ⟨_, exec_clearObservation_of_pending h held, written, others, rfl⟩
  · have refused : (s.link l).role.allows .control = false := by rw [tally]; rfl
    constructor
    · show live s _ = _
      rw [live_out _ _ h.1, State.reqClearObservation, request_denied _ _ _ _ _ h refused]
      rfl
    · show live s _ = _
      rw [live_out _ _ h.1, State.reqClearOverflow, request_denied _ _ _ _ _ h refused]
      rfl
  · refine observe_of_loss (fun m => ?_) (fun n low => ?_) clear
    · rintro ⟨y, held, same⟩
      obtain ⟨x, other, differs⟩ := full m (logRecord_range held)
      cases held.symm.trans other
      exact differs same
    · obtain ⟨x, held, _⟩ := full n low
      rw [held]
      exact nofun

end Sys2Proof.Machine

/-! ## The stray history and the events of the light watch (R133 to R136) -/

namespace Sys2Proof.Machine

/-! ### The trigger (R136) -/

section
variable {s : State} {t : Tree} {f : LightWatch → LightWatch}

/-- The conditions of the trigger for a tree whose closed history entries are `closed` (R136). -/
def State.triggersWith (s : State) (t : Tree) (closed : List HistEntry) : Prop :=
  (s.engine t).state = .running ∧ (s.engine t).params.autoHunt = true ∧ (s.hunt t).state = .idle ∧
    3 ≤ (closed.filter (·.lit)).length

/-- A state whose hunt controller is asked to start on a tree (R136). -/
def State.askHunt (s : State) (t : Tree) : State :=
  { s with mail := { s.mail with triggers := s.mail.triggers ++ [t] } }

theorem checkTrigger_of_trigger (due : s.triggersWith t (s.light t).closed) : s.checkTrigger t = s.askHunt t := if_pos due

theorem checkTrigger_of_quiet (quiet : ¬ s.triggersWith t (s.light t).closed) : s.checkTrigger t = s := if_neg quiet

/-- The check that follows a change of a tree's history. -/
theorem modLight_triggersWith : (s.modLight t f).triggersWith t ((s.modLight t f).light t).closed ↔
    s.triggersWith t (f (s.light t)).closed := by
  rw [modLight_light_self]
  exact .rfl

theorem checkTrigger_modLight_of_trigger (due : s.triggersWith t (f (s.light t)).closed) :
    (s.modLight t f).checkTrigger t = (s.modLight t f).askHunt t :=
  checkTrigger_of_trigger (modLight_triggersWith.mpr due)

theorem checkTrigger_modLight_of_quiet (quiet : ¬ s.triggersWith t (f (s.light t)).closed) :
    (s.modLight t f).checkTrigger t = s.modLight t f :=
  checkTrigger_of_quiet (mt modLight_triggersWith.mp quiet)

end

/-! ### The mark of a STRAY (R135) -/

section
variable {s : State} {t : Tree} {frame : FrameNo} {c : HistEntry}

/-- The closed entries of a history with those of a frame lit (R135). -/
def LightWatch.closedLit (w : LightWatch) (frame : FrameNo) : List HistEntry :=
  w.closed.map fun y => if y.frame = frame then ⟨y.frame, true⟩ else y

theorem markStray_of_open (held : (s.light t).current = some c) (own : c.frame = frame) :
    s.markStray t frame = s.modLight t fun w => { w with current := some ⟨frame, true⟩ } := by
  rw [State.markStray, held]
  exact if_pos own

theorem markStray_of_closed (held : (s.light t).current = some c) (other : c.frame ≠ frame)
    (closed : ∃ y ∈ (s.light t).closed, y.frame = frame) :
    s.markStray t frame = (s.modLight t fun w => { w with closed := w.closedLit frame }).checkTrigger t := by
  have known : (s.light t).closed.any (·.frame == frame) = true := by simpa using closed
  rw [State.markStray, held]
  exact (if_neg other).trans (if_pos known)

theorem markStray_of_neither
    (neither : ∀ c, (s.light t).current = some c → c.frame ≠ frame ∧ ∀ y ∈ (s.light t).closed, y.frame ≠ frame) :
    s.markStray t frame = s := by
  unfold State.markStray
  split
  · rfl
  · rename_i c held
    obtain ⟨other, closed⟩ := neither c held
    have unknown : ¬ (s.light t).closed.any (·.frame == frame) = true := by simpa using closed
    rw [if_neg other, if_neg unknown]

end

/-! ### Charged events (R133, R134) -/

section
variable {s : State} {t : Tree} {kind : ObsKind} {frame : FrameNo}

theorem observe_strikes (s : State) (o : Observation) : (s.observe o).mail.strikes = s.mail.strikes := by
  unfold State.observe
  split
  · rfl
  · split
    · rfl
    · split <;> rfl

theorem chargedEvent_of_record {k : Nat} (own : s.isRecordOf t k = true) : s.chargedEvent t kind (some k) frame =
    (s.observe (.of kind t (some k) (s.record k).serial none frame)).sendStrike t k := if_pos own

theorem chargedEvent_of_other {tag : Option Nat} (other : ∀ k, tag = some k → s.isRecordOf t k = false) :
    s.chargedEvent t kind tag frame = s.observe (.of kind t none none none frame) := by
  cases tag with
  | none => rfl
  | some k => exact if_neg (by rw [other k rfl]; decide)

end

/-! ### Reports to the light watch (R134) -/

section
variable {s : State} {r : LightReport}

theorem exec_lightWatchReport_eq {index : Nat} (live : s.OutOfReset) (report : s.mail.lights[index]? = some r) :
    exec (.lightWatchReport index) s =
      .next (({ s with mail := { s.mail with lights := s.mail.lights.eraseIdx index } } : State).takeLight r) := by
  show Machine.live s _ = _
  rw [live_out _ _ live, takeNth_of_getElem? report]
  rfl

theorem takeLight_of_hunt {kind : ObsKind} (body : r.body = .hunt kind) :
    s.takeLight r = s.observe (.of kind r.tree none none none r.frame) := by rw [State.takeLight, body]

theorem takeLight_of_duplicate {k : Nat} {serial : Serial} (body : r.body = .duplicate k serial) :
    s.takeLight r = s.observe (.of .duplicateSerial r.tree (some k) (some serial) none r.frame) := by
  rw [State.takeLight, body]

theorem takeLight_of_wrongSlot {tag : Option Nat} (body : r.body = .wrongSlot tag) :
    s.takeLight r = s.chargedEvent r.tree .wrongSlot tag r.frame := by rw [State.takeLight, body]

theorem takeLight_of_stray (body : r.body = .stray) :
    s.takeLight r = (s.markStray r.tree r.frame).observe (.of .stray r.tree none none none r.frame) := by
  rw [State.takeLight, body]
  rfl

end

/-- Settles O52: each report by its body, a WRONG_SLOT by its record, and a STRAY by the entry of its frame. -/
theorem reportsToTheLightWatchAreObserved : Obligations.ReportsToTheLightWatchAreObserved := by
  intro index r s live report taken seen
  have step : exec (.lightWatchReport index) s = .next (taken.takeLight r) := exec_lightWatchReport_eq live report
  refine ⟨fun kind body => ?_, fun k serial body => ?_, fun tag body other => ?_, fun k body own => ?_, fun body => ?_⟩
  · rw [step, takeLight_of_hunt body]
    rfl
  · rw [step, takeLight_of_duplicate body]
    rfl
  · rw [step, takeLight_of_wrongSlot body, chargedEvent_of_other (s := taken) other]
    rfl
  · rw [step, takeLight_of_wrongSlot body, chargedEvent_of_record (s := taken) own]
    exact ⟨_, rfl, rfl, congrArg (· ++ _) (observe_strikes taken _)⟩
  · rw [step, takeLight_of_stray body]
    refine ⟨fun c held own => ?_, fun c held other known => ?_, fun neither => ?_⟩
    · rw [markStray_of_open (s := taken) held own]
      rfl
    · intro closed marked triggers
      rw [markStray_of_closed (s := taken) held other known]
      refine ⟨fun due => ?_, fun quiet => ?_⟩
      · rw [checkTrigger_modLight_of_trigger (s := taken) (by exact due)]
        rfl
      · rw [checkTrigger_modLight_of_quiet (s := taken) (by exact quiet)]
        rfl
    · rw [markStray_of_neither (s := taken) neither]
      rfl

end Sys2Proof.Machine

/-! ## Judged samples (R130 to R136) -/

namespace Sys2Proof.Machine

/-! ### What the interval table says of a position (R130 to R132) -/

section
variable {w : LightWatch} {frame : FrameNo} {grain : Nat}

/-- A judged position lies in a burst interval of an entry (R130). -/
def TableEntry.inSpan (x : TableEntry) (frame : FrameNo) (grain : Nat) (b : BurstSpan) : Prop :=
  b.first ≤ x.grainIn frame grain ∧ x.grainIn frame grain < b.past

/-- A judged position lies in the first grains of an entry's upstream frame (R130). -/
def TableEntry.within (x : TableEntry) (frame : FrameNo) (grain width : Nat) : Prop :=
  0 ≤ x.grainIn frame grain ∧ x.grainIn frame grain < width

/-- A judged position lies in a DARK window of the table (R131). -/
def LightWatch.dark (w : LightWatch) (frame : FrameNo) (grain : Nat) : Prop :=
  ∃ x ∈ w.table, ∃ width, x.window = some (.dark width) ∧ x.within frame grain width

/-- A judged position lies in a burst interval of the table (R132). -/
def LightWatch.inBurst (w : LightWatch) (frame : FrameNo) (grain : Nat) : Prop :=
  ∃ x ∈ w.table, ∃ b ∈ x.bursts, x.inSpan frame grain b

/-- A judged position lies in a ranging or discovery window of the table (R132). -/
def LightWatch.inOpenWindow (w : LightWatch) (frame : FrameNo) (grain : Nat) : Prop :=
  ∃ x ∈ w.table,
    (∃ tag expected width, x.window = some (.range tag expected width) ∧ x.within frame grain width) ∨
      (x.window = some .discover ∧ x.within frame grain 10000)

theorem windowHolds_iff (x : TableEntry) (width : Nat) :
    x.windowHolds frame grain width = true ↔ x.within frame grain width := by
  simp [TableEntry.windowHolds, TableEntry.within]

theorem inDark_iff : w.inDark frame grain = true ↔ w.dark frame grain := by
  rw [LightWatch.inDark, List.any_eq_true]
  refine exists_congr fun x => and_congr_right fun _ => ?_
  match x.window with
  | none => simp
  | some (.dark width) => simp [windowHolds_iff]
  | some (.range ..) => simp
  | some .discover => simp

theorem inWindow_iff : w.inWindow frame grain = true ↔ w.inOpenWindow frame grain := by
  rw [LightWatch.inWindow, List.any_eq_true]
  refine exists_congr fun x => and_congr_right fun _ => ?_
  match x.window with
  | none => simp
  | some (.dark width) => simp
  | some (.range ..) => simp [windowHolds_iff]
  | some .discover => simp [windowHolds_iff]

/-- The burst intervals of an entry that hold a judged position, in the order of the plan. -/
def TableEntry.spans (x : TableEntry) (frame : FrameNo) (grain : Nat) : List BurstSpan :=
  x.bursts.filter fun b => decide (b.first ≤ x.grainIn frame grain) && decide (x.grainIn frame grain < b.past)

theorem spanAt_eq : w.spanAt frame grain = (w.table.flatMap fun x => (x.spans frame grain).map (·.tag)).head? := rfl

theorem inSpan_iff {x : TableEntry} {b : BurstSpan} :
    (decide (b.first ≤ x.grainIn frame grain) && decide (x.grainIn frame grain < b.past)) = true ↔
      x.inSpan frame grain b := by
  rw [Bool.and_eq_true, decide_eq_true_eq, decide_eq_true_eq]
  rfl

theorem spans_eq_nil_iff {x : TableEntry} :
    x.spans frame grain = [] ↔ ∀ b ∈ x.bursts, ¬ x.inSpan frame grain b := by
  simp only [TableEntry.spans, List.filter_eq_nil_iff, inSpan_iff]

theorem spanAt_eq_none_iff : w.spanAt frame grain = none ↔ ¬ w.inBurst frame grain := by
  simp only [spanAt_eq, List.head?_eq_none_iff, List.flatMap_eq_nil_iff, List.map_eq_nil_iff, spans_eq_nil_iff,
    LightWatch.inBurst, not_exists, not_and]

/-- The earliest burst interval is the first one of the table in its order (R132). -/
theorem spanAt_of_first {xs ys : List TableEntry} {x : TableEntry} {bs cs : List BurstSpan} {b : BurstSpan}
    (table : w.table = xs ++ x :: ys) (bursts : x.bursts = bs ++ b :: cs) (own : x.inSpan frame grain b)
    (entries : ∀ y ∈ xs, ∀ c ∈ y.bursts, ¬ y.inSpan frame grain c) (before : ∀ c ∈ bs, ¬ x.inSpan frame grain c) :
    w.spanAt frame grain = some b.tag := by
  have earlier : xs.flatMap (fun y => (y.spans frame grain).map (·.tag)) = [] :=
    List.flatMap_eq_nil_iff.mpr fun y hy => by rw [spans_eq_nil_iff.mpr (entries y hy), List.map_nil]
  have first : (x.spans frame grain).head? = some b := by
    rw [TableEntry.spans, List.head?_filter, List.find?_eq_some_iff_append]
    refine ⟨inSpan_iff.mpr own, bs, cs, bursts, fun c hc => ?_⟩
    rw [Bool.not_eq_true', ← Bool.not_eq_true]
    exact mt inSpan_iff.mp (before c hc)
  rw [spanAt_eq, table, List.flatMap_append, earlier, List.nil_append, List.flatMap_cons, List.head?_append,
    List.head?_map, first]
  rfl

theorem covered_iff : w.covered frame grain = true ↔ w.inBurst frame grain ∨ w.inOpenWindow frame grain := by
  rw [LightWatch.covered, Bool.or_eq_true, inWindow_iff, Option.isSome_iff_ne_none, ne_eq, spanAt_eq_none_iff, not_not]

theorem runAt_of_run {run : Run} (held : w.run = some run) : w.runAt frame grain = run := by
  rw [LightWatch.runAt, held, Option.getD_some]

/-- A run that starts is attributed to the earliest burst interval, else to a window, else to a gap (R132). -/
theorem runAt_of_start (idle : w.run = none) : w.runAt frame grain =
    ⟨frame, grain, (w.spanAt frame grain).elim (if w.inWindow frame grain then .window else .gap) .tag, none⟩ := by
  rw [LightWatch.runAt, idle, Option.getD_none]
  show Run.mk frame grain (match w.spanAt frame grain with
    | some k => .tag k
    | none => if w.inWindow frame grain then .window else .gap) none = _
  cases w.spanAt frame grain <;> rfl

theorem runAt_of_burst {k : Nat} (idle : w.run = none) (burst : w.spanAt frame grain = some k) :
    w.runAt frame grain = ⟨frame, grain, .tag k, none⟩ := by
  rw [runAt_of_start idle, burst, Option.elim_some]

theorem runAt_of_no_burst (idle : w.run = none) (burst : ¬ w.inBurst frame grain) :
    w.runAt frame grain = ⟨frame, grain, if w.inWindow frame grain then .window else .gap, none⟩ := by
  rw [runAt_of_start idle, spanAt_eq_none_iff.mpr burst, Option.elim_none]

end

/-! ### The history at a judged sample (R135) -/

section
variable {s : State} {t : Tree} {frame : FrameNo} {c : HistEntry}

theorem historyAt_of_none (fresh : (s.light t).current = none) :
    s.historyAt t frame = s.modLight t fun w => { w with current := some ⟨frame, false⟩ } := by
  rw [State.historyAt, fresh]

theorem historyAt_of_same (held : (s.light t).current = some c) (same : frameDist c.frame frame ≤ 0) :
    s.historyAt t frame = s := by
  rw [State.historyAt, held]
  exact if_neg (not_lt.mpr same)

/-- A history whose open entry `c` is closed at a sample of a later frame (R135). -/
def LightWatch.entered (w : LightWatch) (c : HistEntry) (frame : FrameNo) : LightWatch :=
  { w with closed := (w.closed ++ [c]).drop (w.closed.length + 1 - 8), current := some ⟨frame, false⟩ }

theorem historyAt_of_later (held : (s.light t).current = some c) (later : 0 < frameDist c.frame frame) :
    s.historyAt t frame = (s.modLight t (·.entered c frame)).checkTrigger t := by
  have kept (l : List HistEntry) : lastN 8 (l ++ [c]) = (l ++ [c]).drop (l.length + 1 - 8) := by
    rw [lastN, List.length_append, List.length_singleton]
  rw [State.historyAt, held]
  refine (if_pos later).trans ?_
  simp only [kept]
  rfl

theorem checkTrigger_strikes (s : State) (t : Tree) : (s.checkTrigger t).mail.strikes = s.mail.strikes := by
  unfold State.checkTrigger
  split <;> rfl

theorem historyAt_strikes (s : State) (t : Tree) (frame : FrameNo) :
    (s.historyAt t frame).mail.strikes = s.mail.strikes := by
  unfold State.historyAt
  split
  · rfl
  · split
    · exact checkTrigger_strikes ..
    · rfl

theorem historyAt_record (s : State) (t : Tree) (frame : FrameNo) (k : Nat) :
    (s.historyAt t frame).record k = s.record k := by
  rw [(State.OnlyJudges.historyAt (s := s) (t := t) frame).rest]
  rfl

theorem historyAt_isRecordOf (s : State) (t i : Tree) (frame : FrameNo) (k : Nat) :
    (s.historyAt t frame).isRecordOf i k = s.isRecordOf i k := by
  rw [State.isRecordOf, historyAt_record]
  rfl

end

/-! ### The judgement of a sample (R131 to R133) -/

section
variable {s : State} {t : Tree} {frame : FrameNo} {grain : Nat}

/-- A sample of a position is judged and not discarded (R131). -/
def State.judges (s : State) (t : Tree) (frame : FrameNo) (grain : Nat) : Prop :=
  (s.engine t).state ≠ .disabled ∧ (∃ x ∈ (s.light t).table, x.frame = frame) ∧ ¬ (s.light t).dark frame grain

theorem discards_iff : ((s.engine t).state = .disabled ∨ (s.light t).table.any (·.frame == frame) = false ∨
    (s.light t).inDark frame grain = true) ↔ ¬ s.judges t frame grain := by
  have planned : (s.light t).table.any (·.frame == frame) = false ↔ ¬ ∃ x ∈ (s.light t).table, x.frame = frame := by
    simp
  rw [planned, inDark_iff, State.judges, not_and_or, not_and_or, ne_eq, not_not, not_not]

theorem judge_of_discarded (discarded : ¬ s.judges t frame grain) (present : Bool) :
    s.judge t frame grain present = s := if_pos (discards_iff.mpr discarded)

theorem judge_of_absent (judged : s.judges t frame grain) : s.judge t frame grain false =
    (s.historyAt t frame).modLight t fun x => { x with run := none } :=
  if_neg (mt discards_iff.mp (not_not.mpr judged))

/-- A present sample of a run raises nothing: its position is covered, or the run has raised its event of the frame
(R132, R133). -/
def LightWatch.quiet (w : LightWatch) (frame : FrameNo) (grain : Nat) (run : Run) : Prop :=
  w.inBurst frame grain ∨ w.inOpenWindow frame grain ∨ run.raised = some frame

theorem quiet_iff (w : LightWatch) (run : Run) :
    (w.covered frame grain || run.raised == some frame) = true ↔ w.quiet frame grain run := by
  rw [Bool.or_eq_true, covered_iff, beq_iff_eq, or_assoc]
  rfl

theorem judge_of_quiet {run : Run} (judged : s.judges t frame grain) (at' : (s.light t).runAt frame grain = run)
    (quiet : (s.light t).quiet frame grain run) :
    s.judge t frame grain true = (s.historyAt t frame).modLight t fun x => { x with run := some run } := by
  subst at'
  exact (if_neg (mt discards_iff.mp (not_not.mpr judged))).trans (if_pos ((quiet_iff ..).mpr quiet))

/-- The state in which the event of a run is raised in a frame (R133). -/
def State.raised (s : State) (t : Tree) (frame : FrameNo) (run : Run) : State :=
  (s.historyAt t frame).modLight t fun x => { x with run := some { run with raised := some frame } }

theorem judge_of_event {run : Run} (judged : s.judges t frame grain) (at' : (s.light t).runAt frame grain = run)
    (uncovered : ¬ (s.light t).quiet frame grain run) :
    s.judge t frame grain true = (s.raised t frame run).lightEvent t run.attribution frame := by
  subst at'
  exact (if_neg (mt discards_iff.mp (not_not.mpr judged))).trans (if_neg (mt (quiet_iff ..).mp uncovered))

theorem raised_isRecordOf (run : Run) (k : Nat) : (s.raised t frame run).isRecordOf t k = s.isRecordOf t k :=
  historyAt_isRecordOf ..

theorem raised_record (run : Run) (k : Nat) : (s.raised t frame run).record k = s.record k := historyAt_record ..

theorem raised_strikes (run : Run) : (s.raised t frame run).mail.strikes = s.mail.strikes := historyAt_strikes ..

theorem raised_current (run : Run) :
    ((s.raised t frame run).light t).current = ((s.historyAt t frame).light t).current := by
  rw [State.raised, modLight_light_self]

/-- The event of a run attributed to a record of the tree, with its strike (R133, R134). -/
theorem lightEvent_of_record {run : Run} {k : Nat} (by' : run.attribution = .tag k) (own : s.isRecordOf t k = true) :
    let seen := (s.raised t frame run).observe (.of .longTail t (some k) (s.record k).serial none frame)
    (s.raised t frame run).lightEvent t run.attribution frame =
      { seen with mail := { seen.mail with strikes := s.mail.strikes ++ [⟨t, k⟩] } } := by
  intro seen
  have strikes : seen.mail.strikes = s.mail.strikes := (observe_strikes ..).trans (raised_strikes run)
  rw [by', State.lightEvent, chargedEvent_of_record ((raised_isRecordOf run k).trans own), raised_record, ← strikes]
  rfl

/-- The event of a run attributed to a tag that is no record of the tree (R133). -/
theorem lightEvent_of_other {run : Run} {k : Nat} (by' : run.attribution = .tag k) (other : s.isRecordOf t k = false) :
    (s.raised t frame run).lightEvent t run.attribution frame =
      (s.raised t frame run).observe (.of .longTail t none none none frame) := by
  have none : ∀ j, some k = some j → (s.raised t frame run).isRecordOf t j = false := by
    intro j same
    cases same
    exact (raised_isRecordOf run k).trans other
  rw [by', State.lightEvent, chargedEvent_of_other none]

/-- The event of a run attributed to no tag is a STRAY (R133). -/
theorem lightEvent_of_stray {u : State} {a : Attribution} (by' : a = .window ∨ a = .gap) :
    u.lightEvent t a frame = (u.markStray t frame).observe (.of .stray t none none none frame) := by
  rcases by' with rfl | rfl <;> rfl

end

/-- Settles O53: the sample by whether it is judged, the run by its attribution, and the history by its open entry. -/
theorem judgedSamplesFollowRunsAndTheHistory : Obligations.JudgedSamplesFollowRunsAndTheHistory := by
  intro s t frame grain w at' inside within dark inBurst inWindow judged starts history event
  have started (idle : w.run = none) (a : Attribution) (start : starts a) :
      w.runAt frame grain = ⟨frame, grain, a, none⟩ := by
    rcases start with ⟨xs, x, ys, bs, b, cs, table, bursts, own, rfl, entries, before⟩ | ⟨burst, window, rfl⟩ |
      ⟨burst, window, rfl⟩
    · exact runAt_of_burst idle (spanAt_of_first table bursts own entries before)
    · rw [runAt_of_no_burst idle burst, if_pos (inWindow_iff.mpr window)]
    · rw [runAt_of_no_burst idle burst, if_neg (mt inWindow_iff.mp window)]
  refine ⟨fun present discarded => judge_of_discarded discarded present, judge_of_absent, fun run isJudged which => ?_,
    historyAt_of_none, fun c held => ⟨historyAt_of_same held, fun later => ?_⟩⟩
  · intro quiet raised
    have here : w.runAt frame grain = run := by
      rcases which with held | ⟨idle, a, start, rfl⟩
      · exact runAt_of_run held
      · exact started idle a start
    refine ⟨judge_of_quiet isJudged here, fun uncovered => ?_⟩
    have judge := judge_of_event isJudged here uncovered
    refine ⟨fun k by' own => judge.trans (lightEvent_of_record by' own),
      fun k by' other => judge.trans (lightEvent_of_other by' other),
      fun by' => ⟨judge.trans (lightEvent_of_stray by'), fun c held own => ?_⟩⟩
    exact markStray_of_open ((raised_current run).trans held) own
  · intro closed entered triggers
    have follows : history = (s.modLight t (·.entered c frame)).checkTrigger t := historyAt_of_later held later
    exact ⟨fun due => follows.trans (checkTrigger_modLight_of_trigger (by exact due)),
      fun quiet => follows.trans (checkTrigger_modLight_of_quiet (by exact quiet))⟩

end Sys2Proof.Machine

/-! ## What the offers of a hunt controller leave (R14, R16, R46, R155, R159, R161; log entries 12 and 42) -/

namespace Sys2Proof.Machine

/-! ### Offers made one after the other -/

section
variable {s u v : State} {t : Tree} {still first second : List Directive}

theorem State.HuntOffered.refl (s : State) (t : Tree) : s.HuntOffered s t ((s.huntKept t).map (·.entry.dir)) [] := by
  simp [State.HuntOffered]

/-- The room left behind a row of offers: each took one place, and one that was kept blocks those after it (R16). -/
theorem State.HuntOffered.huntRoom (offered : s.HuntOffered u t still first) :
    u.huntRoom t ((u.huntKept t).map (·.entry.dir)) = s.huntRoom t still - first.length := by
  obtain ⟨urgent, kept⟩ := offered
  have length := congrArg List.length urgent
  simp only [List.length_append, List.length_map, List.length_take] at length
  simp only [kept, State.huntRoom, List.append_eq_nil_iff, List.drop_eq_nil_iff, length]
  by_cases none : still = []
  · simp only [none, true_and, if_true]
    split <;> omega
  · rw [if_neg fun h => none h.1, if_neg none, Nat.zero_sub]

theorem State.HuntOffered.trans (offered : s.HuntOffered u t still first)
    (rest : u.HuntOffered v t ((u.huntKept t).map (·.entry.dir)) second) : s.HuntOffered v t still (first ++ second) := by
  have room := offered.huntRoom
  obtain ⟨urgent, kept⟩ := offered
  obtain ⟨urgent', kept'⟩ := rest
  refine ⟨?_, ?_⟩
  · rw [urgent', urgent, room, List.take_append, List.append_assoc]
  · rw [kept', room, kept, List.drop_append, List.append_assoc]

end

/-! ### The ROGUE write (R46) -/

section
variable {s : State} {t : Tree} {k : Nat}

theorem writeRogue_shape (s : State) (t : Tree) (k : Nat) : ∃ engines loads enrols kept records trackers tallies mail,
    s.writeRogue t k = { s with
      engines := engines, loads := loads, enrols := enrols, kept := kept, records := records, trackers := trackers
      tallies := tallies, mail := mail } := by
  unfold State.writeRogue
  split
  · exact ⟨s.engines, s.loads, s.enrols, s.kept, s.records, s.trackers, s.tallies, s.mail, rfl⟩
  · obtain ⟨loads, enrols, kept, records, trackers, tallies, mail, h⟩ := changeState_shape s k .rogue false
    rw [h]
    exact ⟨_, loads, enrols, kept, records, trackers, tallies, mail, rfl⟩

theorem writeRogue_record (j : Nat) : (s.writeRogue t k).record j =
    if j = k ∧ ¬ ((s.record k).state = .vacant ∨ (s.record k).state = .retired) then { s.record k with state := .rogue }
    else s.record j := by
  unfold State.writeRogue
  split
  · rename_i gone
    rw [if_neg fun h => h.2 gone]
  · rename_i stands
    have tag := record_tag_range (s := s) fun vacant => stands (.inl vacant)
    rw [modEngine_record, changeState_record]
    by_cases own : j = k
    · subst own
      rw [if_pos (⟨rfl, stands⟩ : j = j ∧ _)]
      by_cases rogue : (s.record j).state = .rogue
      · rw [if_neg fun h => h.2.1 rogue, ← rogue]
      · rw [if_pos ⟨rfl, rogue, tag⟩]
        rfl
    · rw [if_neg fun h => own h.1, if_neg fun h => own h.1]

/-- A ROGUE write takes nothing from the urgent lane and leaves the tree's state (R46, R63). -/
theorem writeRogue_engine : ((s.writeRogue t k).engine t).urgent = (s.engine t).urgent ∧
    ((s.writeRogue t k).engine t).state = (s.engine t).state := by
  unfold State.writeRogue
  split
  · exact ⟨rfl, rfl⟩
  · rw [modEngine_engine_self, engine_congr (changeState_engines ..)]
    exact ⟨rfl, rfl⟩

/-- Kept directives abandoned by a test that passes none of a hunt controller. -/
theorem dropKept_huntKept {test : Kept → Bool} (spares : ∀ y : Kept, y.entry.origin.producer = .hunt → test y = false) :
    (s.dropKept test).huntKept t = s.huntKept t := by
  show List.filter _ (List.filter _ s.kept) = List.filter _ s.kept
  rw [List.filter_filter]
  refine List.filter_congr fun y _ => ?_
  by_cases own : y.entry.origin.producer = .hunt
  · simp [spares y own]
  · simp [own]

theorem origin_ne_of_hunt {origin other : Origin} (own : origin.producer = .hunt) (foreign : other.producer ≠ .hunt) :
    (origin == other) = false := beq_eq_false_iff_ne.mpr fun same => foreign (same ▸ own)

/-- What a record leaves behind with its state holds no directive of a hunt controller (R43, R103). -/
theorem leaving_huntKept (new : RecState) : (s.leaving k new).huntKept t = s.huntKept t := by
  have active : (s.leaveActive k new).huntKept t = s.huntKept t := by
    unfold State.leaveActive
    split <;> rfl
  have queue (u : State) : (u.leaveQueue k new).huntKept t = u.huntKept t := by
    unfold State.leaveQueue
    dsimp only
    split
    · split
      · exact dropKept_huntKept (s := u.modEnrol _ _) fun y own => by
          rw [Kept.isRanged, origin_ne_of_hunt (other := .ranged) own nofun, Bool.false_and]
      · rfl
    · rfl
  have suspended (u : State) : (u.leaveSuspended k).huntKept t = u.huntKept t := by
    unfold State.leaveSuspended
    split
    · exact dropKept_huntKept fun y own => by
        rw [Kept.isSuspendDepart, origin_ne_of_hunt (other := .departSuspend) own nofun, Bool.false_and]
    · rfl
  rw [State.leaving, suspended, queue, active]

theorem writeRogue_huntKept : (s.writeRogue t k).huntKept t = s.huntKept t := by
  unfold State.writeRogue
  split
  · rfl
  · by_cases rogue : (s.record k).state = .rogue
    · rw [← rogue, changeState_same]
      rfl
    · rw [changeState_eq false rogue]
      exact leaving_huntKept ..

end

/-! ### What the hunt controller writes on acceptance (R14) -/

/-- What a hunt's step for tree `t` leaves: the hunts of the other trees and the links. -/
structure State.OnlyHunt (t : Tree) (s u : State) : Prop where
  others : ∀ x, x ≠ t → u.hunt x = s.hunt x := by exact fun _ _ => rfl
  links : u.links = s.links := by rfl

theorem State.OnlyHunt.refl (t : Tree) (s : State) : s.OnlyHunt t s := {}

theorem State.OnlyHunt.trans {t : Tree} {s u v : State} (h : s.OnlyHunt t u) (h' : u.OnlyHunt t v) : s.OnlyHunt t v where
  others x hx := (h'.others x hx).trans (h.others x hx)
  links := h'.links.trans h.links

theorem State.OnlyHunt.modHunt {t : Tree} {s : State} (f : Hunt → Hunt) : s.OnlyHunt t (s.modHunt t f) where
  others x hx := by rw [modHunt_hunt, if_neg hx]

/-- What offers of the hunt controller for tree `t` leave, accepted or kept: its hunt but for the hold range and the progress
of its round, the tree's state, the light watch and the reports to it, and the reports already made to the link unit. -/
structure State.OfferKeeps (t : Tree) (s u : State) : Prop extends s.OnlyHunt t u where
  hunt : u.hunt t = { s.hunt t with hold := (u.hunt t).hold, roundDirs := (u.hunt t).roundDirs } := by rfl
  treeState : (u.engine t).state = (s.engine t).state := by rfl
  lights : u.lights = s.lights := by rfl
  told : u.mail.lights = s.mail.lights := by rfl
  attention : s.mail.attention <+: u.mail.attention := by exact List.prefix_rfl

theorem State.OfferKeeps.refl (t : Tree) (s : State) : s.OfferKeeps t s := {}

theorem State.OfferKeeps.trans {t : Tree} {s u v : State} (h : s.OfferKeeps t u) (h' : u.OfferKeeps t v) :
    s.OfferKeeps t v where
  toOnlyHunt := h.toOnlyHunt.trans h'.toOnlyHunt
  hunt := by rw [h'.hunt, h.hunt]
  treeState := h'.treeState.trans h.treeState
  lights := h'.lights.trans h.lights
  told := h'.told.trans h.told
  attention := h.attention.trans h'.attention

section
variable {s : State} {t : Tree} {x : LaneEntry}

theorem State.OfferKeeps.modHunt {f : Hunt → Hunt}
    (h : f (s.hunt t) = { s.hunt t with hold := (f (s.hunt t)).hold, roundDirs := (f (s.hunt t)).roundDirs }) :
    s.OfferKeeps t (s.modHunt t f) where
  toOnlyHunt := .modHunt f
  hunt := by rw [modHunt_hunt_self, ← h]

/-- An observation can only add a report to the link unit. -/
theorem observe_mail (s : State) (o : Observation) :
    ∃ more, (s.observe o).mail = { s.mail with attention := s.mail.attention ++ more } := by
  have none : s.mail = { s.mail with attention := s.mail.attention ++ [] } := by rw [List.append_nil]
  unfold State.observe
  split
  · exact ⟨[], none⟩
  · split
    · exact ⟨_, rfl⟩
    · split
      · exact ⟨[], none⟩
      · exact ⟨_, rfl⟩

theorem State.OfferKeeps.observe (o : Observation) : s.OfferKeeps t (s.observe o) := by
  obtain ⟨more, mail⟩ := observe_mail s o
  obtain ⟨_, _, _, shape⟩ := observe_shape s o
  exact {
    others := fun _ _ => by rw [shape]; rfl
    links := by rw [shape]
    hunt := by rw [shape]; rfl
    treeState := by rw [shape]; rfl
    lights := by rw [shape]
    told := by rw [mail]
    attention := by rw [mail]; exact List.prefix_append .. }

/-- A ROGUE write reports to the link unit and the delay tracker alone (R42, R46). -/
theorem writeRogue_mail (k : Nat) : (s.writeRogue t k).mail.lights = s.mail.lights ∧
    s.mail.attention <+: (s.writeRogue t k).mail.attention := by
  unfold State.writeRogue
  split
  · exact ⟨rfl, List.prefix_rfl⟩
  · by_cases rogue : (s.record k).state = .rogue
    · rw [← rogue, changeState_same]
      exact ⟨rfl, List.prefix_rfl⟩
    · obtain ⟨_, _, _, left⟩ := leaving_shape s k .rogue
      rw [changeState_eq false rogue, left]
      exact ⟨rfl, List.prefix_append ..⟩

theorem State.OfferKeeps.writeRogue (k : Nat) : s.OfferKeeps t (s.writeRogue t k) := by
  obtain ⟨told, attention⟩ := writeRogue_mail (s := s) (t := t) k
  have treeState := (writeRogue_engine (s := s) (t := t) (k := k)).2
  obtain ⟨_, _, _, _, _, _, _, _, shape⟩ := writeRogue_shape s t k
  exact {
    others := fun _ _ => by rw [shape]; rfl
    links := by rw [shape]
    hunt := by rw [shape]; rfl
    treeState := treeState
    lights := by rw [shape]
    told := told
    attention := attention }

/-- A hunt as the hold of its round is accepted (R155). -/
def Hunt.holdRound (h : Hunt) (a b : Nat) : Hunt := { h.setRound (.laserHold a b) .waiting with hold := some (a, b) }

/-- On the acceptance of a directive the hunt controller writes the isolation of a record, held flags and the hunt, or
nothing (R155, R159, R161). -/
theorem onAccept_hunt_cases (own : x.origin.producer = .hunt) :
    (∃ k serial test, s.onAccept t x =
      (s.writeRogue t k).observe (.of .huntIsolated t (some k) serial (some .hunt) test)) ∨
    (∃ a b held f, s.onAccept t x = (s.setHeld t a b held).modHunt t f ∧
      ∀ h : Hunt, f h = { h with hold := (f h).hold, roundDirs := (f h).roundDirs }) ∨
    s.onAccept t x = s := by
  obtain ⟨dir, origin⟩ := x
  cases origin <;> cases own
  case huntShut serial test =>
    cases dir
    case laserShut k => exact .inl ⟨k, serial, test, rfl⟩
    all_goals exact .inr (.inr rfl)
  case huntRound =>
    cases dir
    case laserHold a b => exact .inr (.inl ⟨a, b, true, (·.holdRound a b), rfl, fun _ => rfl⟩)
    case laserRelease a b => exact .inr (.inl ⟨a, b, false, (·.releaseRound a b), rfl, fun _ => rfl⟩)
    all_goals exact .inr (.inr rfl)
  case huntRelease =>
    cases dir
    case laserRelease a b => exact .inr (.inl ⟨a, b, false, fun h => { h with hold := none }, rfl, fun _ => rfl⟩)
    all_goals exact .inr (.inr rfl)
  case huntOver => exact .inr (.inr (by cases dir <;> rfl))

theorem State.OfferKeeps.onAccept (own : x.origin.producer = .hunt) : s.OfferKeeps t (s.onAccept t x) := by
  rcases onAccept_hunt_cases (s := s) (t := t) own with ⟨_, _, _, e⟩ | ⟨a, b, held, f, e, write⟩ | e <;> rw [e]
  · exact (State.OfferKeeps.writeRogue _).trans (.observe _)
  · exact State.OfferKeeps.trans (u := s.setHeld t a b held) {} (.modHunt (write _))
  · exact .refl t s

theorem State.OfferKeeps.keep : s.OfferKeeps t (s.keep t x) := by
  unfold State.keep
  dsimp only
  split
  · exact State.OfferKeeps.trans (u := { s with kept := _ }) {} (.modHunt rfl)
  · exact {}

theorem State.OfferKeeps.offer (own : x.origin.producer = .hunt) : s.OfferKeeps t (s.offer t x) := by
  rcases offer_cases s t x with ⟨-, e⟩ | ⟨-, e⟩ | ⟨-, e⟩ <;> rw [e]
  · have pushed : s.OfferKeeps t (s.modEngine t (·.push x)) := {
      treeState := by
        rw [modEngine_engine_self]
        unfold Engine.push
        split <;> rfl }
    exact pushed.trans (.onAccept own)
  · exact .keep
  · exact .refl t s

/-- The writes of an acceptance touch neither the urgent lane nor what the hunt controller keeps. -/
theorem onAccept_hunt_lanes (own : x.origin.producer = .hunt) :
    ((s.onAccept t x).engine t).urgent = (s.engine t).urgent ∧ (s.onAccept t x).huntKept t = s.huntKept t := by
  rcases onAccept_hunt_cases (s := s) (t := t) own with ⟨k, _, _, e⟩ | ⟨_, _, _, _, e, -⟩ | e <;> rw [e]
  · constructor
    · rw [engine_congr (observe_engines ..)]
      exact writeRogue_engine.1
    · exact (congrArg (List.filter _) (observe_kept ..)).trans writeRogue_huntKept
  · exact ⟨rfl, rfl⟩
  · exact ⟨rfl, rfl⟩

theorem keep_huntKept (own : x.origin.producer = .hunt) :
    (s.keep t x).huntKept t = s.huntKept t ++ [⟨t, x, s.retryDue t x.origin.producer⟩] := by
  rw [← huntKept_append own, State.huntKept, keep_kept]
  rfl

/-- One urgent directive of the hunt controller offered to a tree that is not DISABLED. -/
theorem offer_huntOffered (own : x.origin.producer = .hunt) (urgent : x.dir.urgent = true)
    (enabled : (s.engine t).state ≠ .disabled) :
    s.HuntOffered (s.offer t x) t ((s.huntKept t).map (·.entry.dir)) [x.dir] := by
  by_cases room : 1 ≤ s.huntRoom t ((s.huntKept t).map (·.entry.dir))
  · obtain ⟨lane, kept⟩ := onAccept_hunt_lanes (s := s.modEngine t (·.push x)) (t := t) own
    rw [offer_accepted s t x enabled (mt (laneBlocked_hunt_iff own urgent).mp (not_not_intro room)), State.acceptEntry]
    refine huntOffered_of_room room ?_ (congrArg (List.map _) kept)
    rw [lane, modEngine_engine_self, push_urgent _ _ urgent, List.map_append]
    rfl
  · rw [offer_full s t x enabled ((laneBlocked_hunt_iff own urgent).mpr room)]
    refine huntOffered_of_none room ?_ ?_
    · rw [engine_congr (keep_engines ..)]
    · rw [keep_huntKept own, List.map_append]
      rfl

end

end Sys2Proof.Machine

/-! ## Reports of CUT_IN (R134, R161, R164; log entry 12) -/

namespace Sys2Proof.Machine

section
variable {s : State} {t : Tree}

theorem modHunt_of_same {f : Hunt → Hunt} (same : f (s.hunt t) = s.hunt t) : s.modHunt t f = s := by
  rw [State.modHunt, same, State.hunt, Vector.set_getElem_self]

theorem takeCutReport_first {before after : List CutReport} {asserted : Bool}
    (cutIns : s.mail.cutIns = before ++ ⟨t, asserted⟩ :: after) (first : ∀ r ∈ before, r.tree ≠ t) :
    s.takeCutReport t asserted = some { s with mail := { s.mail with cutIns := before ++ after } } := by
  have found : takeFirst s.mail.cutIns (fun r => r.tree == t) = some (⟨t, asserted⟩, before ++ after) := by
    rw [cutIns]
    exact takeFirst_split (beq_self_eq_true t) fun r hr => beq_eq_false_iff_ne.mpr (first r hr)
  unfold State.takeCutReport
  rw [found]
  exact if_pos rfl

theorem cutAsserted_of_disabled (state : (s.engine t).state = .disabled) : s.cutAsserted t = s := by
  rw [State.cutAsserted, state]

theorem cutAsserted_of_cut (state : (s.engine t).state = .cut) :
    s.cutAsserted t = (s.modEngine t fun e => { e with resumePending := false }).observeCut t := by
  rw [State.cutAsserted, state]

theorem cutAsserted_of_quiet (state : (s.engine t).state = .running)
    (quiet : (s.hunt t).cutPending = true ∨ (s.hunt t).state = .idle) :
    s.cutAsserted t = (s.modHunt t fun h => { h with cutPending := true }).observeCut t := by
  rw [State.cutAsserted, state]
  dsimp only
  by_cases pending : (s.hunt t).cutPending = true
  · rw [if_pos pending, modHunt_of_same (by rw [← pending])]
  · rw [if_neg pending, if_pos (quiet.resolve_left pending)]

theorem cutAsserted_of_hunting (state : (s.engine t).state = .running) (clear : (s.hunt t).cutPending = false)
    (hunting : (s.hunt t).state ≠ .idle) :
    s.cutAsserted t = (((s.modHunt t fun h => { h with cutPending := true }).endHunt t .external).offerRelease t).observeCut
      t := by
  rw [State.cutAsserted, state]
  dsimp only
  rw [if_neg (by rw [clear]; decide), if_neg hunting]

theorem endHunt_offerRelease_treeState (outcome : HuntOutcome) :
    (((s.endHunt t outcome).offerRelease t).engine t).state = (s.engine t).state := by
  have released : (s.endHunt t outcome).OfferKeeps t ((s.endHunt t outcome).offerRelease t) := .offer rfl
  rw [released.treeState, endHunt_engine]

end

/-- Settles O28: an assertion by the tree state and by whether a hunt is to end, and a deassertion. -/
theorem cutInAssertionPutsACutPending : Obligations.CutInAssertionPutsACutPending := by
  refine fun s t before after live first => ⟨fun cutIns => ?_, fun cutIns => ?_⟩
  · intro taken told
    have asserted : exec (.cutInAssertion t) s = .next (taken.cutAsserted t) := by
      show Machine.live s _ = _
      rw [live_out _ _ live, takeCutReport_first cutIns first]
    rw [asserted]
    refine ⟨fun off => ?_, fun running quiet => ?_, fun running clear hunting => ?_, fun cut => ?_⟩
    · rw [cutAsserted_of_disabled (by exact off)]
    · rw [cutAsserted_of_quiet (by exact running) (by exact quiet)]
      rfl
    · let pending := taken.modHunt t fun h => { h with cutPending := true }
      have enabled : (pending.engine t).state ≠ .disabled := fun off => TreeState.noConfusion (running.symm.trans off)
      let w := (pending.endHunt t .external).offerRelease t
      obtain ⟨hunt, -, mail, offered, -, whole⟩ := endHunt_offerRelease_effect pending t .external enabled
      have frame : w.frame = pending.frame := (congrArg State.frame whole :)
      have own := modHunt_hunt_self taken t fun h => { h with cutPending := true }
      have cutPending := congrArg Hunt.cutPending hunt
      rw [cutAsserted_of_hunting (by exact running) (by exact clear) (by exact hunting)]
      refine ⟨w.observeCut t, rfl, congrArg Hunt.state hunt, ?_, congrArg Hunt.outcome hunt,
        (endHunt_offerRelease_treeState (s := pending) .external).trans running, ?_, offered⟩
      · exact cutPending.trans (congrArg Hunt.cutPending own)
      · show w.mail.lights ++ [⟨t, w.frame, .hunt .externalCut, none⟩] = _
        rw [mail, frame]
        rfl
    · rw [cutAsserted_of_cut (by exact cut)]
      rfl
  · show Machine.live s _ = _
    rw [live_out _ _ live, takeCutReport_first cutIns first]
    rfl

end Sys2Proof.Machine

/-! ## Rounds and endings of a hunt (R46, R153 to R161; log entries 12 and 42) -/

namespace Sys2Proof.Machine

/-! ### The progress of a round (R155) -/

/-- A directive that a round offers (R154). -/
def Directive.IsRound (d : Directive) : Prop := (∃ a b, d = .laserHold a b) ∨ ∃ a b, d = .laserRelease a b

/-- The directives of a round once they are offered to a lane with so much room for them (R155). -/
def roundProgress (dirs : List Directive) (room : Nat) : List RoundDir :=
  ((dirs.take room).map fun d => RoundDir.mk d .waiting) ++ (dirs.drop room).map fun d => RoundDir.mk d .kept

theorem Directive.IsRound.urgent {d : Directive} (round : d.IsRound) : d.urgent = true := by
  rcases round with ⟨a, b, rfl⟩ | ⟨a, b, rfl⟩ <;> rfl

theorem roundProgress_cons (d : Directive) (rest : List Directive) (room : Nat) :
    roundProgress (d :: rest) room = ⟨d, if 1 ≤ room then .waiting else .kept⟩ :: roundProgress rest (room - 1) := by
  cases room <;> simp [roundProgress]

theorem setRound_roundDirs {h : Hunt} {d : Directive} {status old : RoundStatus} {before after : List RoundDir}
    (dirs : h.roundDirs = before ++ ⟨d, old⟩ :: after) (first : ∀ x ∈ before, x.dir ≠ d) (last : ∀ x ∈ after, x.dir ≠ d) :
    (h.setRound d status).roundDirs = before ++ ⟨d, status⟩ :: after := by
  have others {l : List RoundDir} (other : ∀ x ∈ l, x.dir ≠ d) :
      l.map (fun x => if x.dir = d then { x with status := status } else x) = l :=
    (List.map_congr_left fun x hx => if_neg (other x hx)).trans (List.map_id' l)
  rw [Hunt.setRound, dirs, List.map_append, List.map_cons, others first, others last, if_pos rfl]

section
variable {s : State} {t : Tree}

/-- A round directive is marked as its lane takes or refuses it (R155). -/
theorem offer_round_roundDirs {d : Directive} (round : d.IsRound) (enabled : (s.engine t).state ≠ .disabled) :
    ((s.offer t ⟨d, .huntRound⟩).hunt t).roundDirs =
      ((s.hunt t).setRound d (if 1 ≤ s.huntRoom t ((s.huntKept t).map (·.entry.dir)) then .waiting else .kept)).roundDirs := by
  have blocked := laneBlocked_hunt_iff (s := s) (t := t) (x := ⟨d, .huntRound⟩) rfl round.urgent
  split
  · rename_i room
    rw [offer_accepted s t _ enabled (mt blocked.mp (not_not_intro room))]
    let pushed := s.modEngine t (·.push ⟨d, .huntRound⟩)
    rcases round with ⟨a, b, rfl⟩ | ⟨a, b, rfl⟩
    · have held := modHunt_hunt_self (pushed.setHeld t a b true) t (·.holdRound a b)
      exact (congrArg Hunt.roundDirs held :)
    · have released := modHunt_hunt_self (pushed.setHeld t a b false) t (·.releaseRound a b)
      exact (congrArg Hunt.roundDirs released :)
  · rename_i full
    rw [offer_full s t _ enabled (blocked.mpr full)]
    exact congrArg Hunt.roundDirs (modHunt_hunt_self _ t (·.setRound d .kept))

/-- The directives of a round offered in order (R154). -/
def State.offerRound (s : State) (t : Tree) (dirs : List Directive) : State :=
  dirs.foldl (fun s d => s.offer t ⟨d, .huntRound⟩) s

theorem State.OfferKeeps.offerRound (dirs : List Directive) : ∀ {s : State}, s.OfferKeeps t (s.offerRound t dirs) := by
  induction dirs with
  | nil => exact .refl t _
  | cons d rest ih => exact (State.OfferKeeps.offer rfl).trans ih

theorem offerRound_huntOffered (dirs : List Directive) (urgent : ∀ d ∈ dirs, d.urgent = true) :
    ∀ {s : State}, (s.engine t).state ≠ .disabled →
      s.HuntOffered (s.offerRound t dirs) t ((s.huntKept t).map (·.entry.dir)) dirs := by
  induction dirs with
  | nil => exact fun _ => .refl _ t
  | cons d rest ih =>
    intro s enabled
    have first := offer_huntOffered (s := s) (x := ⟨d, .huntRound⟩) rfl (urgent d List.mem_cons_self) enabled
    have still : ((s.offer t ⟨d, .huntRound⟩).engine t).state ≠ .disabled := by
      rwa [(State.OfferKeeps.offer rfl).treeState]
    exact first.trans (ih (fun x hx => urgent x (List.mem_cons_of_mem d hx)) still)

/-- The progress of a round whose directives `done` were offered before and whose directives `dirs` are all offered now. -/
theorem offerRound_roundDirs (dirs : List Directive) (round : ∀ d ∈ dirs, d.IsRound) (nodup : dirs.Nodup) :
    ∀ {s : State} {done : List RoundDir}, (s.engine t).state ≠ .disabled → (∀ x ∈ done, x.dir ∉ dirs) →
      (s.hunt t).roundDirs = done ++ dirs.map (fun d => ⟨d, .waiting⟩) →
      ((s.offerRound t dirs).hunt t).roundDirs =
        done ++ roundProgress dirs (s.huntRoom t ((s.huntKept t).map (·.entry.dir))) := by
  induction dirs with
  | nil => simp [State.offerRound, roundProgress]
  | cons d rest ih =>
    intro s done enabled fresh start
    obtain ⟨new, nodup⟩ := List.nodup_cons.mp nodup
    have isRound := round d List.mem_cons_self
    let u := s.offer t ⟨d, .huntRound⟩
    have still : (u.engine t).state ≠ .disabled := by
      rwa [(State.OfferKeeps.offer (s := s) (x := ⟨d, .huntRound⟩) rfl).treeState]
    have room := (offer_huntOffered (s := s) (x := ⟨d, .huntRound⟩) rfl isRound.urgent enabled).huntRoom
    have marked := (offer_round_roundDirs isRound enabled).trans (setRound_roundDirs start
      (fun x hx own => fresh x hx (own ▸ List.mem_cons_self)) (by
        rintro x hx rfl
        obtain ⟨y, hy, rfl⟩ := List.mem_map.mp hx
        exact new hy))
    rw [← List.singleton_append, ← List.append_assoc] at marked
    refine (ih (fun x hx => round x (List.mem_cons_of_mem d hx)) nodup still ?_ marked).trans ?_
    · intro x hx
      rcases List.mem_append.mp hx with hx | hx
      · exact fun own => fresh x hx (List.mem_cons_of_mem d own)
      · rw [List.mem_singleton.mp hx]
        exact new
    · rw [room, roundProgress_cons, List.append_assoc]
      rfl

end

/-! ### A round begins (R154, R155) -/

section
variable {s : State} {t : Tree} {lo m : Nat}

/-- A round offers at most a release and a hold after it (R154). -/
theorem roundDirectives_cases (hold : Option (Nat × Nat)) (lo m : Nat) :
    let dirs := roundDirectives hold lo m
    dirs = [] ∨ dirs = [.laserHold lo m] ∨
      ∃ a b, dirs = [.laserRelease a b] ∨ dirs = [.laserRelease a b, .laserHold lo m] := by
  cases hold with
  | none => exact .inr (.inl rfl)
  | some range =>
    obtain ⟨a, b⟩ := range
    intro dirs
    have whole : dirs = if b < lo then [.laserRelease a b, .laserHold lo m] else if m < b then [.laserRelease (m + 1) b]
      else if m = b then [] else [.laserRelease a b, .laserHold lo m] := rfl
    rw [whole]
    split_ifs
    · exact .inr (.inr ⟨a, b, .inr rfl⟩)
    · exact .inr (.inr ⟨m + 1, b, .inl rfl⟩)
    · exact .inl rfl
    · exact .inr (.inr ⟨a, b, .inr rfl⟩)

theorem isRound_of_mem_roundDirectives {hold : Option (Nat × Nat)} {d : Directive} (h : d ∈ roundDirectives hold lo m) :
    d.IsRound := by
  rcases roundDirectives_cases hold lo m with e | e | ⟨a, b, e | e⟩ <;> rw [e] at h
  · cases h
  · exact .inl ⟨lo, m, List.mem_singleton.mp h⟩
  · exact .inr ⟨a, b, List.mem_singleton.mp h⟩
  · exact (List.mem_pair.mp h).symm.imp (fun own => ⟨lo, m, own⟩) fun own => ⟨a, b, own⟩

theorem roundDirectives_nodup (hold : Option (Nat × Nat)) : (roundDirectives hold lo m).Nodup := by
  rcases roundDirectives_cases hold lo m with e | e | ⟨a, b, e | e⟩ <;> rw [e] <;> simp

/-- The hunt as a round begins, with its directives still to be offered. -/
def Hunt.beginning (h : Hunt) (dirs : List Directive) : Hunt :=
  { h with
    round := min 255 (h.round + 1)
    roundDirs := dirs.map fun d => ⟨d, .waiting⟩
    pendingTest := if dirs = [] then .atOnce else .absent }

theorem beginRound_eq : s.beginRound t lo m =
    (s.modHunt t (·.beginning (roundDirectives (s.hunt t).hold lo m))).offerRound t
      (roundDirectives (s.hunt t).hold lo m) := by
  unfold State.beginRound Hunt.beginning
  simp only [List.isEmpty_iff]
  rfl

theorem State.OnlyHunt.beginRound : s.OnlyHunt t (s.beginRound t lo m) := by
  rw [beginRound_eq]
  exact (State.OnlyHunt.modHunt _).trans (State.OfferKeeps.offerRound _).toOnlyHunt

/-- What the beginning of a round leaves: its directives offered, and the hunt of the round. -/
theorem beginRound_effect (enabled : (s.engine t).state ≠ .disabled) :
    let u := s.beginRound t lo m
    let dirs := roundDirectives (s.hunt t).hold lo m
    let still := (s.huntKept t).map (·.entry.dir)
    s.HuntOffered u t still dirs ∧
      u.hunt t = { (s.hunt t).beginning dirs with
        hold := (u.hunt t).hold, roundDirs := roundProgress dirs (s.huntRoom t still) } := by
  intro u dirs still
  let begun := s.modHunt t (·.beginning dirs)
  have start : begun.hunt t = (s.hunt t).beginning dirs := modHunt_hunt_self s t (·.beginning dirs)
  have whole : u = begun.offerRound t dirs := beginRound_eq
  have round : ∀ d ∈ dirs, d.IsRound := fun d => isRound_of_mem_roundDirectives
  have progress := offerRound_roundDirs dirs round (roundDirectives_nodup _) (s := begun) (t := t) (done := []) enabled
    (by simp) (by rw [start]; rfl)
  have keeps : begun.OfferKeeps t u := whole ▸ .offerRound dirs
  have offered := offerRound_huntOffered (s := begun) (t := t) dirs (fun d hd => (round d hd).urgent) enabled
  rw [← whole] at progress offered
  refine ⟨offered, ?_⟩
  have hunt := keeps.hunt
  rw [start, progress] at hunt
  exact hunt

end

/-! ### The endings (R152, R159 to R161) -/

section
variable {s u v : State} {t : Tree} {outcome : HuntOutcome} {cut : Bool}

/-- From `s` to `u` the hunt of tree `t` has ended (R161); `cut`: whether a cut is pending after it. -/
structure State.EndsHunt (t : Tree) (outcome : HuntOutcome) (cut : Bool) (s u : State) : Prop where
  state : (u.hunt t).state = .idle
  suspects : (u.hunt t).suspects = none
  tests : (u.hunt t).tests = []
  outcome : (u.hunt t).outcome = some (outcome, s.frame)
  cutPending : (u.hunt t).cutPending = cut
  light : u.light t = (s.light t).emptied
  latched : .event .tree ∈ u.mail.attention

theorem endHunt_ends : s.EndsHunt t outcome (s.hunt t).cutPending (s.endHunt t outcome) := by
  have hunt := endHunt_hunt s t outcome
  exact {
    state := by rw [hunt]; rfl
    suspects := by rw [hunt]; rfl
    tests := by rw [hunt]; rfl
    outcome := by rw [hunt]; rfl
    cutPending := by rw [hunt]; rfl
    light := endHunt_light s t outcome
    latched := List.mem_append_right _ List.mem_cons_self }

/-- The directives that an ending offers leave it as it is. -/
theorem State.EndsHunt.offers (ends : s.EndsHunt t outcome cut u) (keeps : u.OfferKeeps t v) :
    s.EndsHunt t outcome cut v where
  state := by rw [keeps.hunt]; exact ends.state
  suspects := by rw [keeps.hunt]; exact ends.suspects
  tests := by rw [keeps.hunt]; exact ends.tests
  outcome := by rw [keeps.hunt]; exact ends.outcome
  cutPending := by rw [keeps.hunt]; exact ends.cutPending
  light := by rw [State.light, keeps.lights]; exact ends.light
  latched := keeps.attention.subset ends.latched

/-- An ending seen from a state that differs from its start neither in the frame nor in the light watch of the tree. -/
theorem State.EndsHunt.of_start {p : State} (ends : p.EndsHunt t outcome cut u) (frame : p.frame = s.frame)
    (light : p.light t = s.light t) : s.EndsHunt t outcome cut u where
  state := ends.state
  suspects := ends.suspects
  tests := ends.tests
  outcome := by rw [ends.outcome, frame]
  cutPending := ends.cutPending
  light := by rw [ends.light, light]
  latched := ends.latched

theorem endHunt_huntOffered_iff {still offered : List Directive} :
    (s.endHunt t outcome).HuntOffered u t still offered ↔ s.HuntOffered u t still offered := by
  rw [State.HuntOffered, State.HuntOffered, endHunt_huntRoom, endHunt_urgent]

theorem endHunt_record (j : Nat) : (s.endHunt t outcome).record j = s.record j := rfl

theorem endHunt_isRecordOf (j : Nat) : (s.endHunt t outcome).isRecordOf t j = s.isRecordOf t j := rfl

theorem State.OnlyHunt.endHunt : s.OnlyHunt t (s.endHunt t outcome) where
  others x hx := (State.OnlyHunt.modHunt (s := s) (·.ended outcome s.frame)).others x hx

/-- Whether the release of an ending, at a place among its offers, undoes the holds of the tree: held flags and hold range
are cleared on its acceptance, and stay while it is kept (R159, R161). -/
def State.Frees (t : Tree) (place : Nat) (s u : State) : Prop :=
  if place ≤ s.huntRoom t (s.endingKept t) then
    (u.hunt t).hold = none ∧ ∀ j, (u.record j).held = if s.isRecordOf t j = true then false else (s.record j).held
  else (u.hunt t).hold = (s.hunt t).hold ∧ ∀ j, (u.record j).held = (s.record j).held

/-- The release of an ending offered last, behind directives that leave held flags, hold range and records of the tree. -/
theorem offerRelease_frees {place : Nat} (enabled : (u.engine t).state ≠ .disabled)
    (room : 1 ≤ u.huntRoom t ((u.huntKept t).map (·.entry.dir)) ↔ place ≤ s.huntRoom t (s.endingKept t))
    (hold : (u.hunt t).hold = (s.hunt t).hold) (held : ∀ j, (u.record j).held = (s.record j).held)
    (onTree : ∀ j, u.isRecordOf t j = s.isRecordOf t j) : s.Frees t place (u.offerRelease t) := by
  obtain ⟨-, hunt, released, -⟩ := offerRelease_effect enabled
  unfold State.Frees
  split at released
  · rename_i taken
    rw [if_pos (room.mp taken), hunt, if_pos taken]
    refine ⟨rfl, fun j => ?_⟩
    rw [released, ← onTree, ← held]
    split <;> rfl
  · rename_i full
    rw [if_neg (mt room.mpr full), hunt, if_neg full]
    refine ⟨hold, fun j => ?_⟩
    rw [State.record, released]
    exact held j

end

/-! ### CLEARED and UNRESOLVED (R152, R160) -/

section
variable {s u : State} {t : Tree} {test : FrameNo}

/-- From `s` to `u` the hunt of tree `t` has ended UNRESOLVED at the verdict of a test (R160). -/
structure State.EndsUnresolved (t : Tree) (test : FrameNo) (s u : State) : Prop where
  ends : s.EndsHunt t .unresolved true u
  told : u.mail.lights = s.mail.lights ++ [⟨t, test, .hunt .huntUnresolved, none⟩]
  offered : s.HuntOffered u t (s.endingKept t) [.laserRelease 1 256]
  freed : s.Frees t 1 u

/-- A hunt that ends UNRESOLVED is told to the light watch and puts a cut pending in the step of its ending (R160). -/
theorem endUnresolved_eq : s.endUnresolved t test =
    (((s.modHunt t fun h => { h with cutPending := true }).tellLight t test (.hunt .huntUnresolved)).endHunt t
      .unresolved).offerRelease t := by
  unfold State.endUnresolved
  congr 1
  simp [endHunt_eq, State.modHunt, State.tellLight, State.modMail, State.raise, State.dropKept, State.hunt,
    State.modEngine, State.modLight, State.engine, State.light, Hunt.ended]

theorem endUnresolved_ends (enabled : (s.engine t).state ≠ .disabled) : s.EndsUnresolved t test (s.endUnresolved t test) := by
  rw [endUnresolved_eq]
  let pending := (s.modHunt t fun h => { h with cutPending := true }).tellLight t test (.hunt .huntUnresolved)
  have own : pending.hunt t = { s.hunt t with cutPending := true } :=
    modHunt_hunt_self s t fun h => { h with cutPending := true }
  have keeps : (pending.endHunt t .unresolved).OfferKeeps t ((pending.endHunt t .unresolved).offerRelease t) := .offer rfl
  have ends : pending.EndsHunt t .unresolved true ((pending.endHunt t .unresolved).offerRelease t) := by
    have ends := (endHunt_ends (s := pending) (t := t) (outcome := .unresolved)).offers keeps
    rw [own] at ends
    exact ends
  obtain ⟨-, -, mail, offered, -, -⟩ := endHunt_offerRelease_effect pending t .unresolved enabled
  have live : ((pending.endHunt t .unresolved).engine t).state ≠ .disabled := by
    rw [endHunt_engine]
    exact enabled
  have room : 1 ≤ (pending.endHunt t .unresolved).huntRoom t
      (((pending.endHunt t .unresolved).huntKept t).map (·.entry.dir)) ↔ 1 ≤ s.huntRoom t (s.endingKept t) := by
    rw [endHunt_huntKept, endHunt_huntRoom]
    exact .rfl
  have hold : ((pending.endHunt t .unresolved).hunt t).hold = (s.hunt t).hold := by
    rw [endHunt_hunt, own]
    rfl
  have held (j : Nat) : ((pending.endHunt t .unresolved).record j).held = (s.record j).held := by
    rw [endHunt_record]
    rfl
  have onTree (j : Nat) : (pending.endHunt t .unresolved).isRecordOf t j = s.isRecordOf t j := by
    rw [endHunt_isRecordOf]
    rfl
  exact {
    ends := ends.of_start rfl rfl
    told := by rw [mail]; rfl
    offered := offered
    freed := offerRelease_frees live room hold held onTree }

theorem State.OnlyHunt.endUnresolved : s.OnlyHunt t (s.endUnresolved t test) := by
  rw [endUnresolved_eq]
  refine State.OnlyHunt.trans (u := (s.modHunt t _).tellLight t test _) ?_ (.trans .endHunt (State.OfferKeeps.offer rfl).toOnlyHunt)
  have marked := State.OnlyHunt.modHunt (s := s) (t := t) fun h => { h with cutPending := true }
  exact { others := marked.others }

theorem endCleared_ends : s.EndsHunt t .cleared (s.hunt t).cutPending (s.endCleared t test) :=
  have ends := endHunt_ends (s := s) (t := t) (outcome := .cleared)
  { state := ends.state, suspects := ends.suspects, tests := ends.tests, outcome := ends.outcome
    cutPending := ends.cutPending, light := ends.light, latched := ends.latched }

theorem endCleared_huntOffered : s.HuntOffered (s.endCleared t test) t (s.endingKept t) [] := by
  rw [← endHunt_huntOffered_iff (outcome := .cleared), ← endHunt_huntKept s t .cleared]
  exact .refl _ t

end

/-! ### ISOLATED (R46, R159; log entry 42) -/

section
variable {s u : State} {t : Tree} {k : Nat} {serial : Option Serial} {test : FrameNo}

/-- What an observation leaves of the log and the overflow flag depends on them alone (R140). -/
theorem observe_log_congr {v : State} (log : v.log = s.log) (overflow : v.overflow = s.overflow) (o : Observation) :
    (v.observe o).log = (s.observe o).log ∧ (v.observe o).overflow = (s.observe o).overflow := by
  unfold State.observe
  rw [log, overflow]
  split
  · exact ⟨rfl, rfl⟩
  · split
    · exact ⟨rfl, rfl⟩
    · split
      · exact ⟨log, overflow⟩
      · exact ⟨rfl, rfl⟩

/-- The isolation of record `k` by the accepted LASER_SHUT of an ending, from `s` to `u`: the ROGUE write and the observation
of it, with the serial of the count and the test frame (R46, R159). -/
structure State.Isolates (k : Nat) (o : Observation) (s u : State) : Prop where
  state : (u.record k).state =
    if (s.record k).state = .vacant ∨ (s.record k).state = .retired then (s.record k).state else .rogue
  log : u.log = (s.observe o).log
  overflow : u.overflow = (s.observe o).overflow

/-- The LASER_SHUT of an ending accepted (R14, R159). -/
theorem offerShut_of_room (enabled : (s.engine t).state ≠ .disabled)
    (room : 1 ≤ s.huntRoom t ((s.huntKept t).map (·.entry.dir))) :
    s.offer t ⟨.laserShut k, .huntShut serial test⟩ =
      ((s.modEngine t (·.push ⟨.laserShut k, .huntShut serial test⟩)).writeRogue t k).observe
        (.of .huntIsolated t (some k) serial (some .hunt) test) :=
  offer_accepted s t _ enabled (mt (laneBlocked_hunt_iff rfl rfl).mp (not_not_intro room))

/-- The LASER_SHUT of an ending kept writes nothing (R16). -/
theorem offerShut_of_none (enabled : (s.engine t).state ≠ .disabled)
    (full : ¬ 1 ≤ s.huntRoom t ((s.huntKept t).map (·.entry.dir))) :
    s.offer t ⟨.laserShut k, .huntShut serial test⟩ =
      { s with kept := s.kept ++ [⟨t, ⟨.laserShut k, .huntShut serial test⟩, s.retryDue t .hunt⟩] } :=
  offer_full s t _ enabled ((laneBlocked_hunt_iff rfl rfl).mpr full)

/-- A ROGUE write moves no held flag, nor a tag from the tree (R46). -/
theorem writeRogue_held (j : Nat) :
    ((s.writeRogue t k).record j).held = (s.record j).held ∧ (s.writeRogue t k).isRecordOf t j = s.isRecordOf t j := by
  rw [Bool.eq_iff_iff (a := State.isRecordOf _ t j), isRecordOf_iff, isRecordOf_iff, writeRogue_record]
  split
  · rename_i own
    obtain ⟨rfl, stands⟩ := own
    exact ⟨rfl, and_congr_left fun _ => iff_of_true nofun fun vacant => stands (.inl vacant)⟩
  · exact ⟨rfl, .rfl⟩

theorem writeRogue_state : ((s.writeRogue t k).record k).state =
    if (s.record k).state = .vacant ∨ (s.record k).state = .retired then (s.record k).state else .rogue := by
  rw [writeRogue_record]
  split
  · rename_i own
    rw [if_neg own.2]
  · rename_i gone
    rw [if_pos (by_contra fun stands => gone ⟨rfl, stands⟩)]

/-- What the offer of the LASER_SHUT leaves of held flags, hold range and the suspect's record (R159). -/
theorem offerShut_effect (enabled : (s.engine t).state ≠ .disabled) :
    let u := s.offer t ⟨.laserShut k, .huntShut serial test⟩
    (u.hunt t).hold = (s.hunt t).hold ∧
      (∀ j, (u.record j).held = (s.record j).held ∧ u.isRecordOf t j = s.isRecordOf t j) ∧
      if 1 ≤ s.huntRoom t ((s.huntKept t).map (·.entry.dir)) then
        s.Isolates k (.of .huntIsolated t (some k) serial (some .hunt) test) u
      else (u.record k).state = (s.record k).state ∧ u.log = s.log ∧ u.overflow = s.overflow := by
  intro u
  split
  · rename_i room
    let pushed := s.modEngine t (·.push ⟨.laserShut k, .huntShut serial test⟩)
    let o := Observation.of .huntIsolated t (some k) serial (some .hunt) test
    have whole : u = (pushed.writeRogue t k).observe o := offerShut_of_room enabled room
    obtain ⟨_, _, _, observed⟩ := observe_shape (pushed.writeRogue t k) o
    have record (j : Nat) : u.record j = (pushed.writeRogue t k).record j := by
      rw [whole, observed]
      rfl
    have onTree (j : Nat) : u.isRecordOf t j = (pushed.writeRogue t k).isRecordOf t j := by
      rw [whole, observed]
      rfl
    obtain ⟨_, _, _, _, _, _, _, _, written⟩ := writeRogue_shape pushed t k
    obtain ⟨log, overflow⟩ := observe_log_congr (s := s) (v := pushed.writeRogue t k) (by rw [written]; rfl)
      (by rw [written]; rfl) o
    refine ⟨?_, fun j => ?_, ?_, ?_, ?_⟩
    · rw [whole, observed, written]
      rfl
    · rw [record, onTree]
      exact writeRogue_held (s := pushed) j
    · rw [record]
      exact writeRogue_state (s := pushed)
    · rw [whole, log]
    · rw [whole, overflow]
  · rename_i full
    have whole : u = { s with kept := s.kept ++ [⟨t, ⟨.laserShut k, .huntShut serial test⟩, s.retryDue t .hunt⟩] } :=
      offerShut_of_none enabled full
    rw [whole]
    exact ⟨rfl, fun _ => ⟨rfl, rfl⟩, rfl, rfl, rfl⟩

/-- From `s` to `u` the hunt of tree `t` has ended ISOLATED at the verdict of a test (R159). -/
structure State.EndsIsolated (t : Tree) (k : Nat) (serial : Option Serial) (test : FrameNo) (s u : State) : Prop where
  ends : s.EndsHunt t .isolated (s.hunt t).cutPending u
  offered : s.HuntOffered u t (s.endingKept t) [.laserShut k, .laserRelease 1 256]
  freed : s.Frees t 2 u
  isolated : if 1 ≤ s.huntRoom t (s.endingKept t) then
      s.Isolates k (.of .huntIsolated t (some k) serial (some .hunt) test) u
    else (u.record k).state = (s.record k).state ∧ u.log = s.log ∧ u.overflow = s.overflow

theorem endIsolated_ends (enabled : (s.engine t).state ≠ .disabled) :
    s.EndsIsolated t k serial test (s.endIsolated t k serial test) := by
  let ended := s.endHunt t .isolated
  let shut := ended.offer t ⟨.laserShut k, .huntShut serial test⟩
  have shutKeeps : ended.OfferKeeps t shut := .offer rfl
  have releaseKeeps : shut.OfferKeeps t (shut.offerRelease t) := .offer rfl
  have endedLive : (ended.engine t).state ≠ .disabled := by
    rw [endHunt_engine]
    exact enabled
  have shutLive : (shut.engine t).state ≠ .disabled := by rwa [shutKeeps.treeState]
  have still : (ended.huntKept t).map (·.entry.dir) = s.endingKept t := endHunt_huntKept ..
  have endedRoom : ended.huntRoom t (s.endingKept t) = s.huntRoom t (s.endingKept t) := endHunt_huntRoom ..
  have offered := offer_huntOffered (s := ended) (x := ⟨.laserShut k, .huntShut serial test⟩) rfl rfl endedLive
  obtain ⟨hold, held, isolated⟩ := offerShut_effect (k := k) (serial := serial) (test := test) endedLive
  have shutRoom := offered.huntRoom
  rw [still] at offered shutRoom isolated
  rw [endedRoom] at shutRoom isolated
  obtain ⟨releaseOffered, -, released, frame⟩ := offerRelease_effect shutLive
  have room : 1 ≤ shut.huntRoom t ((shut.huntKept t).map (·.entry.dir)) ↔ 2 ≤ s.huntRoom t (s.endingKept t) := by
    rw [shutRoom, List.length_singleton]
    omega
  have state : ((shut.offerRelease t).record k).state = (shut.record k).state := by
    split at released
    · rw [released]
      split <;> rfl
    · rw [State.record, released]
      rfl
  have observed := observe_log_congr (s := s) (v := ended) rfl rfl
    (.of .huntIsolated t (some k) serial (some .hunt) test)
  have log : (shut.offerRelease t).log = shut.log := (congrArg State.log frame :)
  have overflow : (shut.offerRelease t).overflow = shut.overflow := (congrArg State.overflow frame :)
  exact {
    ends := (endHunt_ends.offers shutKeeps).offers releaseKeeps
    offered := endHunt_huntOffered_iff.mp (offered.trans releaseOffered)
    freed := offerRelease_frees shutLive room (by rw [hold, endHunt_hunt]; rfl)
      (fun j => by rw [(held j).1, endHunt_record]) fun j => by rw [(held j).2, endHunt_isRecordOf]
    isolated := by
      split at isolated
      · rename_i taken
        rw [if_pos taken]
        obtain ⟨isolatedState, isolatedLog, isolatedOverflow⟩ := isolated
        rw [endHunt_record] at isolatedState
        exact ⟨state.trans isolatedState, log.trans (isolatedLog.trans observed.1),
          overflow.trans (isolatedOverflow.trans observed.2)⟩
      · rename_i full
        rw [if_neg full]
        obtain ⟨sameState, sameLog, sameOverflow⟩ := isolated
        rw [endHunt_record] at sameState
        exact ⟨state.trans sameState, log.trans sameLog, overflow.trans sameOverflow⟩ }

theorem State.OnlyHunt.endIsolated : s.OnlyHunt t (s.endIsolated t k serial test) :=
  (State.OnlyHunt.endHunt.trans (State.OfferKeeps.offer rfl).toOnlyHunt).trans (State.OfferKeeps.offer rfl).toOnlyHunt

end

/-! ### The count of suspects (R153, R154, R157) -/

section
variable {s u : State} {t : Tree} {test : FrameNo} {lo hi low m : Nat}

/-- From `s` to `u` a round over the suspects from `lo` has begun, with those up to `m` to be held (R154, R155). -/
structure State.BeginsRound (t : Tree) (lo m : Nat) (s u : State) : Prop where
  round : (u.hunt t).round = min 255 ((s.hunt t).round + 1)
  offered : s.HuntOffered u t ((s.huntKept t).map (·.entry.dir)) (roundDirectives (s.hunt t).hold lo m)
  roundDirs : (u.hunt t).roundDirs =
    roundProgress (roundDirectives (s.hunt t).hold lo m) (s.huntRoom t ((s.huntKept t).map (·.entry.dir)))
  pendingTest : (u.hunt t).pendingTest = if roundDirectives (s.hunt t).hold lo m = [] then .atOnce else .absent

/-- What a count of suspects of tree `t` from `lo` to `hi` makes of its hunt, `low` being the low end after it (R153). -/
structure State.Counts (t : Tree) (test : FrameNo) (lo hi low : Nat) (s u : State) : Prop where
  none : s.suspectsIn t lo hi = [] → s.EndsUnresolved t test u
  one : ∀ k, s.suspectsIn t lo hi = [k] →
    (u.hunt t).state = .verifying ∧ (u.hunt t).suspects = some (low, hi) ∧ (u.hunt t).count = 1 ∧
      (u.hunt t).verified = some (k, (s.record k).serial) ∧ s.BeginsRound t low k u
  more : 2 ≤ (s.suspectsIn t lo hi).length →
    ∀ m, (s.suspectsIn t lo hi)[((s.suspectsIn t lo hi).length + 1) / 2 - 1]? = some m →
      (u.hunt t).state = .splitting ∧ (u.hunt t).suspects = some (low, hi) ∧
        (u.hunt t).count = (s.suspectsIn t lo hi).length ∧ s.BeginsRound t low m u

theorem suspect_iff (x : RecState) : x.suspect = true ↔ x ∈ [RecState.announced, .active, .parked, .suspended, .rogue] := by
  cases x <;> decide

/-- The suspects of a tree in a range are the records that R153 names, in ascending tag order. -/
theorem suspectsIn_eq (s : State) (t : Tree) (lo hi : Nat) : s.suspectsIn t lo hi =
    (List.range' 1 256).filter fun k =>
      decide ((s.record k).state ∈ [RecState.announced, .active, .parked, .suspended, .rogue] ∧
        (s.record k).tree = some t ∧ lo ≤ k ∧ k ≤ hi) := by
  rw [State.suspectsIn, numbersWhere_eq s.records _ .vacant]
  refine List.filter_congr fun k _ => ?_
  rw [Bool.eq_iff_iff, decide_eq_true_iff, ← suspect_iff]
  simp only [Bool.and_eq_true, beq_iff_eq, decide_eq_true_iff, and_assoc]
  exact .rfl

/-- The hunt as a count finds one suspect (R157). -/
def Hunt.toVerifying (h : Hunt) (low hi k : Nat) (serial : Option Serial) : Hunt :=
  { h with state := .verifying, suspects := some (low, hi), count := 1, verified := some (k, serial) }

/-- The hunt as a count finds more suspects (R154). -/
def Hunt.toSplitting (h : Hunt) (low hi count : Nat) : Hunt :=
  { h with state := .splitting, suspects := some (low, hi), count := count }

/-- The hunt as a count turns it to VERIFYING or SPLITTING and its round begins. -/
theorem beginRound_modHunt {f : Hunt → Hunt} (enabled : (s.engine t).state ≠ .disabled)
    (round : (f (s.hunt t)).round = (s.hunt t).round) (hold : (f (s.hunt t)).hold = (s.hunt t).hold) :
    let u := (s.modHunt t f).beginRound t lo m
    s.BeginsRound t lo m u ∧ (u.hunt t).state = (f (s.hunt t)).state ∧ (u.hunt t).suspects = (f (s.hunt t)).suspects ∧
      (u.hunt t).count = (f (s.hunt t)).count ∧ (u.hunt t).verified = (f (s.hunt t)).verified := by
  intro u
  obtain ⟨offered, hunt⟩ := beginRound_effect (s := s.modHunt t f) (lo := lo) (m := m) enabled
  rw [modHunt_hunt_self, hold] at offered hunt
  rw [Hunt.beginning, round] at hunt
  exact ⟨{
    round := congrArg Hunt.round hunt
    offered := offered
    roundDirs := congrArg Hunt.roundDirs hunt
    pendingTest := congrArg Hunt.pendingTest hunt },
    (congrArg Hunt.state hunt :), (congrArg Hunt.suspects hunt :), (congrArg Hunt.count hunt :),
    (congrArg Hunt.verified hunt :)⟩

theorem State.EndsUnresolved.of_modHunt {f : Hunt → Hunt} (h : (s.modHunt t f).EndsUnresolved t test u)
    (hold : (f (s.hunt t)).hold = (s.hunt t).hold) : s.EndsUnresolved t test u := by
  have freed := h.freed
  rw [State.Frees, modHunt_hunt_self, hold] at freed
  obtain ⟨ends, told, offered, -⟩ := h
  exact {
    ends := ends.of_start rfl rfl
    told := told
    offered := offered
    freed := freed }

theorem countSuspects_of_none {first : Bool} (found : s.suspectsIn t lo hi = []) :
    s.countSuspects t lo hi first test = (s.modHunt t fun h => { h with count := 0 }).endUnresolved t test := by
  simp only [State.countSuspects, found]

theorem countSuspects_of_one {first : Bool} {k : Nat} (found : s.suspectsIn t lo hi = [k]) :
    s.countSuspects t lo hi first test =
      (s.modHunt t (·.toVerifying (if first then k else lo) hi k (s.record k).serial)).beginRound t
        (if first then k else lo) k := by
  simp only [State.countSuspects, found]
  rfl

theorem countSuspects_of_more {first : Bool} {k j : Nat} {rest : List Nat} (found : s.suspectsIn t lo hi = k :: j :: rest)
    (middle : (k :: j :: rest)[((k :: j :: rest).length + 1) / 2 - 1]? = some m) :
    s.countSuspects t lo hi first test =
      (s.modHunt t (·.toSplitting (if first then k else lo) hi (k :: j :: rest).length)).beginRound t
        (if first then k else lo) m := by
  simp only [State.countSuspects, found, List.getD_eq_getElem?_getD, middle]
  rfl

/-- A count by how many suspects it finds (R153, R154, R157). -/
theorem countSuspects_counts (first : Bool) (enabled : (s.engine t).state ≠ .disabled)
    (start : (if first then (s.suspectsIn t lo hi).head?.getD 1 else lo) = low) :
    s.Counts t test lo hi low (s.countSuspects t lo hi first test) := by
  rcases found : s.suspectsIn t lo hi with _ | ⟨k, _ | ⟨j, rest⟩⟩
  · have ends := endUnresolved_ends (s := s.modHunt t fun h => { h with count := 0 }) (t := t) (test := test) enabled
    rw [countSuspects_of_none found]
    exact {
      none := fun _ => ends.of_modHunt rfl
      one := by simp [found]
      more := by simp [found] }
  · have lowest : (if first then k else lo) = low := by rwa [found] at start
    obtain ⟨begins, state, suspects, count, verified⟩ := beginRound_modHunt (s := s) (lo := low) (m := k)
      (f := (·.toVerifying low hi k (s.record k).serial)) enabled rfl rfl
    rw [countSuspects_of_one found, lowest]
    exact {
      none := by simp [found]
      one := by
        intro i same
        obtain rfl : k = i := by simpa [found] using same
        exact ⟨state, suspects, count, verified, begins⟩
      more := by simp [found] }
  · have lowest : (if first then k else lo) = low := by rwa [found] at start
    exact {
      none := by simp [found]
      one := by simp [found]
      more := by
        intro _ m middle
        rw [found] at middle
        obtain ⟨begins, state, suspects, count, -⟩ := beginRound_modHunt (s := s) (lo := low) (m := m)
          (f := (·.toSplitting low hi (k :: j :: rest).length)) enabled rfl rfl
        rw [found, countSuspects_of_more found middle, lowest]
        exact ⟨state, suspects, count, begins⟩ }

theorem State.OnlyHunt.countSuspects (first : Bool) : s.OnlyHunt t (s.countSuspects t lo hi first test) := by
  unfold State.countSuspects
  dsimp only
  split
  · exact (State.OnlyHunt.modHunt _).trans .endUnresolved
  · split <;> exact (State.OnlyHunt.modHunt _).trans .beginRound

end

/-! ### The verdict of a test (R151, R152, R156, R158) -/

section
variable {s : State} {t : Tree} {test : FrameNo} {lit : Bool}

theorem State.OnlyHunt.takeVerdict : s.OnlyHunt t (s.takeVerdict t test lit) := by
  unfold State.takeVerdict
  split
  · exact .refl t s
  · unfold State.confirmingVerdict
    split
    · exact { others := (State.OnlyHunt.endHunt (s := s) (outcome := .cleared)).others }
    · split
      · exact .countSuspects true
      · exact .modHunt _
  · unfold State.splitVerdict
    dsimp only
    split <;> exact .countSuspects false
  · unfold State.verifyVerdict
    split
    · split
      · exact .endUnresolved
      · exact .endIsolated
    · exact .endUnresolved

end

section
variable {s : State} {t : Tree} {test : FrameNo}

theorem takeVerdict_of_confirming (state : (s.hunt t).state = .confirming) :
    s.takeVerdict t test false = s.endCleared t test ∧
      ((s.hunt t).firstLit = false → s.takeVerdict t test true = s.modHunt t fun h => { h with firstLit := true }) ∧
      ((s.hunt t).firstLit = true → s.takeVerdict t test true = s.countSuspects t 1 256 true test) := by
  simp only [State.takeVerdict, state, State.confirmingVerdict]
  refine ⟨rfl, fun first => ?_, fun second => ?_⟩
  · rw [first]
    rfl
  · rw [second]
    rfl

theorem takeVerdict_of_splitting {lo hi a m : Nat} (state : (s.hunt t).state = .splitting)
    (suspects : (s.hunt t).suspects = some (lo, hi)) (hold : (s.hunt t).hold = some (a, m)) :
    s.takeVerdict t test false = s.countSuspects t lo m false test ∧
      s.takeVerdict t test true = s.countSuspects t (m + 1) hi false test := by
  simp only [State.takeVerdict, state, State.splitVerdict, suspects, hold]
  exact ⟨rfl, rfl⟩

theorem takeVerdict_of_verifying {k : Nat} {serial : Option Serial} (state : (s.hunt t).state = .verifying)
    (verified : (s.hunt t).verified = some (k, serial)) :
    s.takeVerdict t test false = s.endIsolated t k serial test ∧ s.takeVerdict t test true = s.endUnresolved t test := by
  simp only [State.takeVerdict, state, State.verifyVerdict, verified]
  exact ⟨rfl, rfl⟩

/-- DARK_WINDOW_END takes the oldest window end of its tree (R151). -/
theorem exec_darkWindowEnd_eq {before after : List DarkEnd} (live : s.OutOfReset)
    (darkEnds : s.mail.darkEnds = before ++ ⟨t, test⟩ :: after) (first : ∀ x ∈ before, x.tree ≠ t) :
    exec (.darkWindowEnd t) s =
      .next (({ s with mail := { s.mail with darkEnds := before ++ after } } : State).darkEnd t test) := by
  have found : takeFirst s.mail.darkEnds (fun r => r.tree == t) = some (⟨t, test⟩, before ++ after) := by
    rw [darkEnds]
    exact takeFirst_split (beq_self_eq_true t) fun x hx => beq_eq_false_iff_ne.mpr (first x hx)
  show Machine.live s _ = _
  rw [live_out _ _ live, found]
  rfl

theorem modHunt_modHunt (f g : Hunt → Hunt) : (s.modHunt t f).modHunt t g = s.modHunt t fun h => g (f h) := by
  simp [State.modHunt, State.hunt]

/-- A hunt without a test whose window has ended (R151). -/
def Hunt.untested (h : Hunt) (test : FrameNo) : Hunt := { h with tests := h.tests.filter fun y => y.frame != test }

theorem darkEnd_of_none (none : (s.hunt t).tests.find? (fun x => x.frame == test) = none) : s.darkEnd t test = s := by
  rw [State.darkEnd, none]

theorem darkEnd_of_test {lit : Bool} (found : (s.hunt t).tests.find? (fun x => x.frame == test) = some ⟨test, lit⟩) :
    s.darkEnd t test = (s.modHunt t (·.untested test)).takeVerdict t test lit := by
  rw [State.darkEnd, found]
  rfl

end

/-- Settles O57: the verdict by the hunt state; each count by how many suspects it finds, each ending by its directives. -/
theorem aDarkTestVerdictDrivesTheHunt : Obligations.ADarkTestVerdictDrivesTheHunt := by
  intro t f before after s live darkEnds first enabled h taken verdict suspects wanted ended room freed unresolved begun
    counted
  have taking := exec_darkWindowEnd_eq live darkEnds first
  refine ⟨fun none => ?_, fun lit found => ?_⟩
  · rw [taking, darkEnd_of_none (by exact none)]
  · let w := taken.modHunt t (·.untested f)
    have own : w.hunt t = h.untested f := modHunt_hunt_self taken t (·.untested f)
    have endedOf {u : State} {outcome : HuntOutcome} {cut : Bool} (e : w.EndsHunt t outcome cut u) : ended u outcome :=
      ⟨e.state, e.suspects, e.tests, e.outcome, by rw [e.light]; rfl, by rw [e.light]; rfl, e.latched⟩
    have freedOf {u : State} {place : Nat} (e : w.Frees t place u) : freed u place := by
      rw [State.Frees, own] at e
      exact e
    have unresolvedOf {u : State} (e : w.EndsUnresolved t f u) : unresolved u :=
      ⟨endedOf e.ends, e.ends.cutPending, e.told, e.offered, freedOf e.freed⟩
    have begunOf {u : State} {lo m : Nat} (e : w.BeginsRound t lo m u) : begun u (wanted lo m) := by
      obtain ⟨round, offered, roundDirs, pendingTest⟩ := e
      rw [own] at round offered roundDirs pendingTest
      exact ⟨round, offered, roundDirs, pendingTest⟩
    have countedOf {u : State} {lo hi low : Nat} (e : w.Counts t f lo hi low u) : counted u lo hi low := by
      have same : w.suspectsIn t lo hi = suspects lo hi := suspectsIn_eq ..
      obtain ⟨none, one, more⟩ := e
      rw [same] at none one more
      refine ⟨fun empty => unresolvedOf (none empty), fun k single => ?_, fun many m middle => ?_⟩
      · obtain ⟨state, range, count, verified, begins⟩ := one k single
        exact ⟨state, range, count, verified, begunOf begins⟩
      · obtain ⟨state, range, count, begins⟩ := more many m middle
        exact ⟨state, range, count, begunOf begins⟩
    have only : taken.OnlyHunt t (w.takeVerdict t f lit) := (State.OnlyHunt.modHunt _).trans .takeVerdict
    have live : (w.engine t).state ≠ .disabled := enabled
    have inState {x : HuntState} (state : h.state = x) : (w.hunt t).state = x := by rwa [own]
    refine ⟨w.takeVerdict t f lit, ?_, only.others, only.links, ?_, ?_, ?_, ?_, ?_⟩
    · rw [taking, darkEnd_of_test (by exact found)]
    · rintro state rfl
      have ends := endCleared_ends (s := w) (t := t) (test := f)
      rw [(takeVerdict_of_confirming (inState state)).1]
      exact ⟨endedOf ends, rfl, by rw [ends.cutPending, own]; rfl, endCleared_huntOffered (s := w)⟩
    · rintro state rfl firstLit
      rw [(takeVerdict_of_confirming (inState state)).2.1 (by rwa [own]), modHunt_modHunt]
      rfl
    · rintro state rfl firstLit
      rw [(takeVerdict_of_confirming (inState state)).2.2 (by rwa [own])]
      refine countedOf (countSuspects_counts true live ?_)
      rw [if_pos rfl, suspectsIn_eq]
      rfl
    · intro lo hi a m state range hold
      obtain ⟨dark, isLit⟩ := takeVerdict_of_splitting (s := w) (test := f) (inState state) (by rwa [own]) (by rwa [own])
      constructor
      · rintro rfl
        rw [dark]
        exact countedOf (countSuspects_counts false live rfl)
      · rintro rfl
        rw [isLit]
        exact countedOf (countSuspects_counts false live rfl)
    · intro k serial state verified
      obtain ⟨dark, isLit⟩ := takeVerdict_of_verifying (s := w) (test := f) (inState state) (by rwa [own])
      constructor
      · rintro rfl
        rw [isLit]
        exact unresolvedOf (endUnresolved_ends live)
      · rintro rfl
        rw [dark]
        obtain ⟨ends, offered, released, isolated⟩ := endIsolated_ends (s := w) (k := k) (serial := serial) (test := f) live
        refine ⟨endedOf ends, by rw [ends.cutPending, own]; rfl, offered, freedOf released, ?_⟩
        have entered := observe_log_congr (s := s) (v := w) rfl rfl (.of .huntIsolated t (some k) serial (some .hunt) f)
        split at isolated
        · rename_i place
          obtain ⟨rogue, log, overflow⟩ := isolated
          rw [if_pos (by exact place)]
          exact ⟨rogue, log.trans entered.1, overflow.trans entered.2⟩
        · rename_i full
          rw [if_neg (by exact full)]
          exact isolated

end Sys2Proof.Machine

/-! ## The tallies and the counters of a record in their ranges (R171, spec/03 3.1) -/

namespace Sys2Proof.Machine

/-! ### What is written of a set or a record keeps its range -/

/-- Both sets of a tag within their 48 bits (R171). -/
def Tally.Fits (x : Tally) : Prop := x.live.Fits ∧ x.closed.set.Fits

section
variable {x : TallySet} (amount : Nat)

theorem TallySet.zero_fits : TallySet.zero.Fits := by decide

theorem TallySet.Fits.addUp (h : x.Fits) : (x.addUp amount).Fits := ⟨addTally_le .., h.2⟩

theorem TallySet.Fits.addDown (h : x.Fits) : (x.addDown amount).Fits := by
  obtain ⟨up, _, rest⟩ := h
  exact ⟨up, addTally_le .., rest⟩

theorem TallySet.Fits.addGranted (h : x.Fits) : (x.addGranted amount).Fits := by
  obtain ⟨up, down, _, rest⟩ := h
  exact ⟨up, down, addTally_le .., rest⟩

theorem TallySet.Fits.addWithheld (h : x.Fits) : (x.addWithheld amount).Fits := by
  obtain ⟨up, down, granted, _, overFrames⟩ := h
  exact ⟨up, down, granted, addTally_le .., overFrames⟩

theorem TallySet.Fits.addOver (h : x.Fits) : (x.addOver amount).Fits := by
  obtain ⟨up, down, granted, withheld, _⟩ := h
  exact ⟨up, down, granted, withheld, addTally_le ..⟩

theorem TallySet.Fits.addDispatch (h : x.Fits) (r : DispatchReport) : (x.addDispatch r).Fits := by
  unfold TallySet.addDispatch
  split
  · exact h.addWithheld 1
  · split
    · exact (h.addGranted r.grains).addOver 1
    · exact h.addGranted r.grains

theorem Tally.reset_fits : Tally.reset.Fits := ⟨TallySet.zero_fits, TallySet.zero_fits⟩

/-- A close moves a live set that fits into the closed set (R178). -/
theorem Tally.Fits.close {y : Tally} (h : y.Fits) (period : Nat) (frame : FrameNo) : (y.close period frame).Fits :=
  ⟨TallySet.zero_fits, h.1⟩

end

section
variable {r : DropRecord} (payload : Nat)

theorem DropRecord.vacant_ranged : DropRecord.vacant.Ranged := by decide

theorem DropRecord.Ranged.enter (h : r.Ranged) (new : RecState) : (r.enter new).Ranged := by
  obtain ⟨outstanding, missRun, strikes, cleanRun, attempts⟩ := h
  cases new with
  | vacant => exact DropRecord.vacant_ranged
  | active => exact ⟨outstanding, Nat.zero_le _, strikes, cleanRun, attempts⟩
  | announced => exact ⟨outstanding, missRun, strikes, cleanRun, Nat.zero_le _⟩
  | expected | ranging | parked | suspended | rogue | retired => exact ⟨outstanding, missRun, strikes, cleanRun, attempts⟩

theorem DropRecord.Ranged.valid (h : r.Ranged) (backlog : Nat) : (r.valid backlog payload).Ranged := by
  obtain ⟨outstanding, _, rest⟩ := h
  exact ⟨(Nat.sub_le ..).trans outstanding, Nat.zero_le _, rest⟩

theorem DropRecord.Ranged.miss (h : r.Ranged) : (r.miss payload).Ranged := by
  obtain ⟨outstanding, _, rest⟩ := h
  exact ⟨(Nat.sub_le ..).trans outstanding, Nat.min_le_left .., rest⟩

theorem DropRecord.Ranged.grant (h : r.Ranged) : (r.grant payload).Ranged := ⟨Nat.min_le_left .., h.2⟩

theorem DropRecord.Ranged.strike (h : r.Ranged) : r.strike.Ranged := by
  obtain ⟨outstanding, missRun, _, _, attempts⟩ := h
  exact ⟨outstanding, missRun, Nat.min_le_left .., Nat.zero_le _, attempts⟩

theorem DropRecord.Ranged.clean (h : r.Ranged) : r.clean.Ranged := by
  obtain ⟨outstanding, missRun, strikes, _, attempts⟩ := h
  unfold DropRecord.clean
  split
  · exact ⟨outstanding, missRun, strikes, le_refl 1024, attempts⟩
  · rename_i below
    refine ⟨outstanding, missRun, ?_, not_le.mp below, attempts⟩
    split
    · exact Nat.zero_le _
    · exact strikes

theorem DropRecord.Ranged.atDisable (h : r.Ranged) : r.atDisable.Ranged := ⟨Nat.zero_le _, h.2⟩

end

/-! ### Moves that keep the ranges -/

/-- What the ranges are about: the tally sets and the records. -/
def State.usage (s : State) : Vector Tally 256 × Vector DropRecord 256 := (s.tallies, s.records)

/-- The tallies and the counters of one tag in their ranges. -/
def State.InRange (s : State) (k : Nat) : Prop := (s.tally k).Fits ∧ (s.record k).Ranged

/-- From one usage to another, no tag whose tallies and counters are in range leaves it. -/
structure KeepsRange (x y : Vector Tally 256 × Vector DropRecord 256) : Prop where
  inRange : ∀ k, (readAt x.1 k .reset).Fits ∧ (readAt x.2 k .vacant).Ranged →
    (readAt y.1 k .reset).Fits ∧ (readAt y.2 k .vacant).Ranged

/-- What is in range in one state is in range in another, tag by tag. -/
def State.RangeTo (s u : State) : Prop := KeepsRange s.usage u.usage

theorem inRange_iff (s : State) : (∀ k, s.InRange k) ↔ s.TalliesInv ∧ s.RecordsInv :=
  forall_and

section
variable {s u v : State}

theorem State.RangeTo.of_inRange (h : ∀ k, s.InRange k → u.InRange k) : s.RangeTo u := ⟨h⟩

theorem State.RangeTo.inRange (h : s.RangeTo u) {k : Nat} : s.InRange k → u.InRange k := KeepsRange.inRange h k

theorem State.RangeTo.refl (s : State) : s.RangeTo s := ⟨fun _ h => h⟩

theorem State.RangeTo.trans (h : s.RangeTo u) (h' : u.RangeTo v) : s.RangeTo v := ⟨fun _ own => h'.inRange (h.inRange own)⟩

/-- Records and tally sets that stay as they were. -/
theorem State.RangeTo.of_same (same : u.usage = s.usage) : s.RangeTo u := by
  rw [State.RangeTo, same]
  exact State.RangeTo.refl s

theorem State.RangeTo.then_same (h : s.RangeTo u) (same : v.usage = u.usage) : s.RangeTo v := h.trans (.of_same same)

theorem State.RangeTo.foldl {α : Type} {f : State → α → State} (each : ∀ (s : State) x, s.RangeTo (f s x)) (l : List α) :
    ∀ s : State, s.RangeTo (l.foldl f s) := by
  induction l with
  | nil => exact .refl
  | cons x l ih => exact fun s => (each s x).trans (ih _)

theorem State.RangeTo.modRecord {k : Nat} {f : DropRecord → DropRecord} (keeps : ∀ r : DropRecord, r.Ranged → (f r).Ranged) :
    s.RangeTo (s.modRecord k f) := by
  refine .of_inRange fun j h => ⟨h.1, ?_⟩
  rw [modRecord_record]
  split
  · rename_i own
    exact keeps _ (own.1 ▸ h.2)
  · exact h.2

theorem State.RangeTo.modRecords {f : Nat → DropRecord → DropRecord}
    (keeps : ∀ k (r : DropRecord), r.Ranged → (f k r).Ranged) : s.RangeTo (s.modRecords f) := by
  refine .of_inRange fun k h => ⟨h.1, ?_⟩
  rw [modRecords_record]
  split
  · exact keeps _ _ h.2
  · exact DropRecord.vacant_ranged

theorem State.RangeTo.modTally {k : Nat} {f : Tally → Tally} (keeps : ∀ x : Tally, x.Fits → (f x).Fits) :
    s.RangeTo (s.modTally k f) := by
  refine .of_inRange fun j h => ⟨?_, h.2⟩
  rw [modTally_tally]
  split
  · rename_i own
    exact keeps _ (own.1 ▸ h.1)
  · exact h.1

theorem State.RangeTo.modLive {k : Nat} {f : TallySet → TallySet} (keeps : ∀ x : TallySet, x.Fits → (f x).Fits) :
    s.RangeTo (s.modLive k f) := .modTally fun _ h => ⟨keeps _ h.1, h.2⟩

theorem State.OnlyJudges.rangeTo (h : s.OnlyJudges u) : s.RangeTo u := .of_same (by rw [h.rest]; rfl)

theorem State.OnlyReceives.rangeTo {t : Tree} (h : s.OnlyReceives t u) : s.RangeTo u :=
  .of_same (by rw [h.rest]; rfl)

theorem State.EndsPlans.rangeTo (h : s.EndsPlans u) : s.RangeTo u := .of_same (by rw [h.rest]; rfl)

end

/-! ### State changes of a record and offers -/

section
variable (s : State) (t : Tree) (k : Nat)

theorem State.RangeTo.observe (o : Observation) : s.RangeTo (s.observe o) := State.OnlyJudges.rangeTo (.observe o)

theorem State.RangeTo.keep (x : LaneEntry) : s.RangeTo (s.keep t x) := by
  obtain ⟨kept, hunts, h⟩ := keep_shape s t x
  rw [h]
  exact .of_same rfl

theorem State.RangeTo.evalOver : s.RangeTo (s.evalOver k) := by
  have written : s.RangeTo (s.modRecord k fun r => { r with isOver := s.overNow k }) := .modRecord fun _ h => h
  unfold State.evalOver
  dsimp only
  split
  · exact written.then_same rfl
  · exact written

theorem State.RangeTo.setHeld (first last : Nat) (held : Bool) : s.RangeTo (s.setHeld t first last held) := by
  refine .modRecords fun k r h => ?_
  split <;> exact h

/-- The entry into VACANT takes the reset values of the tally sets (R170). -/
theorem State.RangeTo.enterState (new : RecState) : s.RangeTo (s.enterState t k new) := by
  cases new with
  | vacant => exact (State.RangeTo.modTally (s := s) (k := k) (f := fun _ => .reset) fun _ _ => Tally.reset_fits).then_same rfl
  | active | announced | retired | expected | ranging | parked | suspended | rogue => exact .of_same rfl

theorem State.RangeTo.changeState (new : RecState) (byRequest : Bool) : s.RangeTo (s.changeState k new byRequest) := by
  by_cases same : (s.record k).state = new
  · rw [← same, changeState_same]
    exact .refl s
  · obtain ⟨loads, enrols, kept, left⟩ := leaving_shape s k new
    have leaving : s.RangeTo (s.leaving k new) := by
      rw [left]
      exact .of_same rfl
    rw [changeState_eq byRequest same]
    exact ((leaving.trans (.modRecord fun _ h => h.enter new)).trans (.enterState ..)).then_same rfl

theorem State.RangeTo.offerDepart (origin : Origin) : s.RangeTo (s.offerDepart t k origin) := by
  obtain ⟨engines, kept, hunts, h⟩ := offerDepart_shape s t k origin
  rw [h]
  exact .of_same rfl

theorem State.RangeTo.suspendFrom (before : RecState) : s.RangeTo (s.suspendFrom k before) := by
  unfold State.suspendFrom
  split
  · exact (State.RangeTo.changeState ..).trans (.offerDepart ..)
  · exact .refl s

theorem State.RangeTo.writeRogue : s.RangeTo (s.writeRogue t k) := by
  unfold State.writeRogue
  split
  · exact .refl s
  · exact (State.RangeTo.changeState s k .rogue false).then_same rfl

theorem State.RangeTo.admission (delay : Nat) : s.RangeTo (s.admission t k delay) := by
  unfold State.admission
  split
  · exact (State.RangeTo.modRecord (s := s) (k := k) (f := fun r => { r with delay := delay }) fun _ h => h).trans
      (.changeState ..)
  · exact .refl s

/-- The strikes and the clean run of a restored record begin again (R63). -/
theorem State.RangeTo.restoreAccepted : s.RangeTo (s.restoreAccepted t k) := by
  unfold State.restoreAccepted
  split
  · refine ((State.RangeTo.changeState s k .suspended true).trans (.modRecord ?_)).trans (.offerDepart ..)
    rintro r ⟨outstanding, missRun, -, -, attempts⟩
    exact ⟨outstanding, missRun, Nat.zero_le _, Nat.zero_le _, attempts⟩
  · exact .refl s

theorem State.RangeTo.onAccept (x : LaneEntry) : s.RangeTo (s.onAccept t x) := by
  unfold State.onAccept
  split
  case h_1 serial k delay _ _ =>
    dsimp only
    split
    · exact .modRecord (s := s.modTracker k _) fun _ h => h
    · exact .of_same rfl
  case h_2 k delay _ _ => exact .admission (s.modTracker k _) t k delay
  case h_3 k delay _ _ =>
    dsimp only
    split
    · exact .modRecord (s := s.modTracker k _) fun _ h => h
    · exact .of_same rfl
  case h_4 => exact (State.RangeTo.restoreAccepted ..).then_same rfl
  case h_5 =>
    dsimp only
    split
    · exact .refl s
    · exact (State.RangeTo.writeRogue ..).trans (.observe ..)
  case h_6 => exact (State.RangeTo.writeRogue ..).trans (.observe ..)
  case h_7 | h_8 | h_9 => exact (State.RangeTo.setHeld ..).then_same rfl
  case h_10 => exact .refl s

theorem State.RangeTo.acceptEntry (x : LaneEntry) : s.RangeTo (s.acceptEntry t x) :=
  .onAccept (s.modEngine t (·.push x)) t x

theorem State.RangeTo.offer (x : LaneEntry) : s.RangeTo (s.offer t x) := by
  rcases offer_cases s t x with ⟨_, h⟩ | ⟨_, h⟩ | ⟨_, h⟩ <;> rw [h]
  · exact .acceptEntry ..
  · exact .keep ..
  · exact .refl s

end

/-! ### Hunts started, ended and judged -/

section
variable (s : State) (t : Tree)

theorem State.RangeTo.abandonRanging : s.RangeTo (s.abandonRanging t) := by
  unfold State.abandonRanging
  split
  · split
    · exact .changeState ..
    · exact .refl s
  · exact .refl s

theorem State.RangeTo.startHunt : s.RangeTo (s.startHunt t) := .abandonRanging ((s.modHunt t _).emptyHistory t) t

theorem State.RangeTo.endHunt (outcome : HuntOutcome) : s.RangeTo (s.endHunt t outcome) := .of_same rfl

theorem State.RangeTo.beginRound (lo m : Nat) : s.RangeTo (s.beginRound t lo m) :=
  .foldl (fun s d => .offer s t ⟨d, .huntRound⟩) _ (s.modHunt t _)

theorem State.RangeTo.offerRelease : s.RangeTo (s.offerRelease t) := .offer ..

theorem State.RangeTo.endUnresolved (test : FrameNo) : s.RangeTo (s.endUnresolved t test) :=
  (State.RangeTo.endHunt s t .unresolved).trans (.offerRelease (((s.endHunt t .unresolved).modHunt t _).tellLight ..) t)

theorem State.RangeTo.endIsolated (k : Nat) (serial : Option Serial) (test : FrameNo) :
    s.RangeTo (s.endIsolated t k serial test) :=
  ((State.RangeTo.endHunt s t .isolated).trans (.offer ..)).trans (.offerRelease ..)

theorem State.RangeTo.countSuspects (lo hi : Nat) (isFirst : Bool) (test : FrameNo) :
    s.RangeTo (s.countSuspects t lo hi isFirst test) := by
  unfold State.countSuspects
  dsimp only
  split
  · exact .endUnresolved (s.modHunt t _) t test
  · split
    · exact .beginRound (s.modHunt t _) t ..
    · exact .beginRound (s.modHunt t _) t ..

theorem State.RangeTo.takeVerdict (test : FrameNo) (lit : Bool) : s.RangeTo (s.takeVerdict t test lit) := by
  unfold State.takeVerdict
  split
  · exact .refl s
  · unfold State.confirmingVerdict
    split
    · exact .of_same rfl
    · split
      · exact .countSuspects ..
      · exact .of_same rfl
  · unfold State.splitVerdict
    dsimp only
    split <;> exact .countSuspects ..
  · unfold State.verifyVerdict
    split
    · split
      · exact .endUnresolved ..
      · exact .endIsolated ..
    · exact .endUnresolved ..

theorem State.RangeTo.darkEnd (frame : FrameNo) : s.RangeTo (s.darkEnd t frame) := by
  unfold State.darkEnd
  split
  · exact .refl s
  · exact .takeVerdict (s.modHunt t _) t ..

theorem State.RangeTo.cutAsserted : s.RangeTo (s.cutAsserted t) := by
  unfold State.cutAsserted
  split
  · exact .refl s
  · split
    · exact .of_same rfl
    · dsimp only
      split
      · exact .of_same rfl
      · exact ((State.RangeTo.endHunt (s.modHunt t _) t .external).trans (.offerRelease ..)).then_same rfl
  · exact .of_same rfl

theorem State.RangeTo.takeCutReport {u : State} {asserted : Bool} (h : s.takeCutReport t asserted = some u) :
    s.RangeTo u := by
  unfold State.takeCutReport at h
  split at h
  · split at h <;> cases h
    exact .of_same rfl
  · cases h

end

/-! ### Arrivals, compiles and inputs -/

section
variable (s : State) (t : Tree)

theorem State.RangeTo.slotOutcome (frame : FrameNo) (offset : Nat) (b : Burst) (h : Judged) (payload : List Byte) :
    s.RangeTo (s.slotOutcome t frame offset b h payload) := by
  unfold State.slotOutcome
  split
  · exact .of_same rfl
  · split
    · unfold State.validBurst
      dsimp only
      split <;> exact .of_same rfl
    · exact .of_same rfl

/-- A good header of the window's home writes its backlog, which is no counter (R37). -/
theorem State.RangeTo.rangingCapture (a : Awaited) (offset tag expected : Nat) (h : Judged) :
    s.RangeTo (s.rangingCapture t a offset tag expected h) := by
  unfold State.rangingCapture
  split
  · exact .refl s
  · dsimp only
    split
    · exact .of_same rfl
    · refine State.RangeTo.trans (u := ite _ _ _) ?_ (.of_same rfl)
      split
      · exact .modRecord (s := s.modAwaited t _ _) fun _ h => h
      · exact .of_same rfl

theorem State.RangeTo.discoveryCapture (frame : FrameNo) (offset : Nat) (h : Judged) :
    s.RangeTo (s.discoveryCapture t frame offset h) := by
  unfold State.discoveryCapture
  dsimp only
  split
  · exact .of_same rfl
  · exact .of_same rfl
  · split <;> exact .of_same rfl

theorem State.RangeTo.resolve (frame : FrameNo) (offset : Nat) (h : Judged) (payload : List Byte) :
    s.RangeTo (s.resolve t frame offset h payload) := by
  unfold State.resolve
  split
  · exact .of_same rfl
  · split
    · split
      · exact .of_same rfl
      · exact .slotOutcome (s.modAwaited t _ _) ..
    · split
      · exact .of_same rfl
      · exact .refl s
      · exact .rangingCapture ..
      · exact .discoveryCapture ..

theorem State.RangeTo.capture (phase : Fin 8) : s.RangeTo (s.capture t phase) := by
  unfold State.capture
  dsimp only
  exact (State.RangeTo.foldl (fun s r => (State.OnlyReceives.cutReception r).rangeTo) _ (s.modEngine t _)).then_same rfl

theorem State.RangeTo.packetArrival (k : Nat) (octets : List Byte) : s.RangeTo (s.packetArrival k octets) := by
  unfold State.packetArrival
  dsimp only
  split
  · exact .refl s
  · split <;> exact .of_same rfl

theorem State.RangeTo.readNext : s.RangeTo (s.readNext t) := by
  unfold State.readNext
  split
  · exact .refl s
  · split <;> exact .of_same rfl

theorem State.RangeTo.endCompile : s.RangeTo (s.endCompile t) := by
  unfold State.endCompile
  split
  · exact .refl s
  · split <;> exact .of_same rfl

theorem State.RangeTo.startCompile (m : FrameNo) : s.RangeTo (s.startCompile t m) := by
  unfold State.startCompile
  dsimp only
  split
  · exact .of_same rfl
  · split
    · exact .of_same rfl
    · split
      · exact .of_same rfl
      · split
        · rename_i k _
          exact (State.RangeTo.changeState s k .ranging false).then_same rfl
        · exact .of_same rfl

theorem State.RangeTo.pulse : s.RangeTo (s.pulse t) := by
  unfold State.pulse
  split <;> exact .of_same rfl

theorem State.RangeTo.filterInputs (light cutIn : Bool) : s.RangeTo (s.filterInputs t light cutIn) := by
  unfold State.filterInputs
  dsimp only
  split <;> exact .of_same rfl

end

/-! ### Reports -/

section
variable (s : State)

theorem State.RangeTo.takeLight (r : LightReport) : s.RangeTo (s.takeLight r) := by
  unfold State.takeLight
  split
  · exact (State.OnlyJudges.markStray _).rangeTo.trans (.observe ..)
  · exact (State.OnlyJudges.chargedEvent ..).rangeTo
  · exact .observe ..
  · exact .observe ..

theorem State.RangeTo.takeStrike (r : StrikeReport) : s.RangeTo (s.takeStrike r) := by
  unfold State.takeStrike
  split
  · have struck : s.RangeTo (s.modRecord r.tag (·.strike)) := .modRecord fun _ h => h.strike
    dsimp only
    split
    · exact struck.trans (.offer ..)
    · exact struck
  · exact .refl s

theorem State.RangeTo.takeClean (r : CleanReport) :
    s.RangeTo (if s.isRecordOf r.tree r.tag then s.modRecord r.tag (·.clean) else s) := by
  split
  · exact .modRecord fun _ h => h.clean
  · exact .refl s

theorem State.RangeTo.suspendByTracker (k : Nat) : s.RangeTo (s.suspendByTracker k) := by
  unfold State.suspendByTracker
  split
  · exact (State.RangeTo.suspendFrom ..).then_same rfl
  · exact .refl s

theorem State.RangeTo.correct (t : Tree) (k : Nat) (estimate : Int) : s.RangeTo (s.correct t k estimate) := by
  unfold State.correct
  dsimp only
  split
  · exact .offer ..
  · exact .suspendByTracker ..

theorem State.RangeTo.takeSample (r : SampleReport) : s.RangeTo (s.takeSample r) := by
  unfold State.takeSample
  split
  · exact .refl s
  · split
    · exact .refl s
    · split
      · exact .refl s
      · split
        · exact .suspendByTracker (s.modTracker r.tag _) r.tag
        · unfold State.keepSample
          dsimp only
          split
          · exact .of_same rfl
          · split
            · exact .correct (s.modTracker r.tag _) ..
            · exact .of_same rfl

theorem State.RangeTo.takeChange (r : ChangeReport) : s.RangeTo (s.takeChange r) := by
  unfold State.takeChange
  split <;> exact .of_same rfl

theorem State.RangeTo.takeAllChanges : s.RangeTo s.takeAllChanges :=
  .foldl (fun s r => .takeChange s r) _ (s.modMail fun m => { m with changes := [] })

theorem State.RangeTo.takeValid (r : ValidReport) : s.RangeTo (s.takeValid r) := by
  unfold State.takeValid
  split
  · exact .modRecord fun _ h => h.valid ..
  · exact .refl s

theorem State.RangeTo.takeMiss (r : MissReport) : s.RangeTo (s.takeMiss r) := by
  unfold State.takeMiss
  split
  · have missed : s.RangeTo (s.modRecord r.tag (·.miss r.payload)) := .modRecord fun _ h => h.miss _
    dsimp only
    split
    · exact missed.trans (.suspendFrom ..)
    · exact missed
  · exact .refl s

theorem State.RangeTo.takeUp (r : UpReport) : s.RangeTo (s.takeUp r) := by
  unfold State.takeUp
  split
  · have counted : s.RangeTo (s.modLive r.tag fun x =>
        { x.addUp r.octets with clamped := (x.addUp r.octets).clamped || r.clamped }) :=
      .modLive fun _ h => h.addUp r.octets
    exact counted.trans (.evalOver ..)
  · exact .refl s

theorem State.RangeTo.takeDown (r : DownReport) : s.RangeTo (s.takeDown r) := by
  unfold State.takeDown
  split
  · exact .modLive fun _ h => h.addDown r.octets
  · exact .refl s

theorem State.RangeTo.takeDispatch (r : DispatchReport) : s.RangeTo (s.takeDispatch r) := by
  unfold State.takeDispatch
  split
  · exact .modLive fun _ h => h.addDispatch r
  · exact .refl s

theorem State.RangeTo.takeReport (r : LinkReport) : s.RangeTo (s.takeReport r) := by
  unfold State.takeReport
  split <;> exact .of_same rfl

theorem State.RangeTo.retryOne (t : Tree) (p : Producer) : s.RangeTo (s.retryOne t p) := by
  unfold State.retryOne
  split
  · exact .refl s
  · rename_i i _
    split
    · exact .refl s
    · dsimp only
      split
      · exact .of_same rfl
      · split
        · exact .of_same rfl
        · exact .acceptEntry { s with kept := s.kept.eraseIdx i } t _

theorem State.RangeTo.retry (t : Tree) (p : Producer) : s.RangeTo (s.retry t p) := by
  unfold State.retry
  dsimp only
  refine .trans ?_ (.foldl (fun s _ => .retryOne s t p) _ _)
  split
  · exact .takeAllChanges s
  · exact .refl s

end

/-! ### Enrolment and ranging -/

section
variable (s : State) (t : Tree)

theorem State.RangeTo.enterStranger (frame : FrameNo) (serial : Serial) (reason : StrangerReason) (delta : Int) :
    s.RangeTo (s.enterStranger t frame serial reason delta) := by
  unfold State.enterStranger
  dsimp only
  split
  · exact .of_same rfl
  · split <;> exact .of_same rfl

/-- A record is created with every counter at 0 (R57, R58). -/
theorem State.RangeTo.newRecord (k : Nat) (state : RecState) (serial : Serial) (profile : Nat) (byRequest : Bool) :
    s.RangeTo (s.newRecord t k state serial profile byRequest) := by
  have filled : (s.modMail (·.release k)).RangeTo
      ((s.modMail (·.release k)).modRecord k (·.filled state serial t profile byRequest)) :=
    .modRecord fun _ _ => DropRecord.vacant_ranged
  exact (filled.trans (.enterState ..)).then_same rfl

theorem State.RangeTo.takeAgainst (k : Nat) (serial : Serial) (delay : Nat) : s.RangeTo (s.takeAgainst t k serial delay) := by
  have waiting : s.RangeTo (s.modRecord k fun r => { r with offer := .waiting }) := .modRecord fun _ h => h
  refine State.RangeTo.trans (u := s.produceOffer t k serial delay) ?_ (.of_same rfl)
  unfold State.produceOffer
  dsimp only
  split
  · exact waiting.then_same rfl
  · exact waiting.trans (.offer ..)

theorem State.RangeTo.announceKnown (frame : FrameNo) (k : Nat) (serial : Serial) (delay : Nat) :
    s.RangeTo (s.announceKnown t frame k serial delay) := by
  have announced : s.RangeTo ((s.changeState k .announced false).takeAgainst t k serial delay) :=
    (State.RangeTo.changeState ..).trans (.takeAgainst ..)
  unfold State.announceKnown
  split
  case h_1 => exact .of_same rfl
  case h_8 | h_9 => exact .refl s
  all_goals exact announced

theorem State.RangeTo.announceUnknown (frame : FrameNo) (serial : Serial) (delta : Int) (delay : Nat) :
    s.RangeTo (s.announceUnknown t frame serial delta delay) := by
  unfold State.announceUnknown
  split
  · split
    · exact (State.RangeTo.newRecord ..).trans (.takeAgainst ..)
    · exact .enterStranger ..
    · exact .enterStranger ..
  · exact .enterStranger ..
  · exact .enterStranger ..

theorem State.RangeTo.announcement (frame : FrameNo) (offset : Nat) (serial : Serial) (stagger : Nat) :
    s.RangeTo (s.announcement t frame offset serial stagger) := by
  unfold State.announcement
  dsimp only
  split
  · exact .enterStranger ..
  · split
    · exact .announceUnknown ..
    · split
      · exact .announceKnown ..
      · exact .of_same rfl

theorem State.RangeTo.takeDiscovery (frame : FrameNo) (body : DiscoveryBody) : s.RangeTo (s.takeDiscovery t frame body) := by
  unfold State.takeDiscovery
  split
  · exact .announcement (s.modEnrol t _) ..
  all_goals exact .of_same rfl

theorem State.RangeTo.takeDiscoveryMsg {m : DiscoveryMsg} {u : State} (h : s.takeDiscoveryMsg t = some (m, u)) :
    s.RangeTo u := by
  unfold State.takeDiscoveryMsg at h
  obtain ⟨x, -, hx⟩ := Option.map_eq_some_iff.mp h
  cases hx
  exact .of_same rfl

theorem State.RangeTo.rangingFailed (k : Nat) : s.RangeTo (s.rangingFailed t k) := by
  have failed : (s.modEnrol t fun e => { e with attempt := none }).RangeTo
      ((s.modEnrol t fun e => { e with attempt := none }).modRecord k fun r =>
        { r with rangeAttempts := min 3 (r.rangeAttempts + 1) }) := by
    refine .modRecord ?_
    rintro r ⟨outstanding, missRun, strikes, cleanRun, -⟩
    exact ⟨outstanding, missRun, strikes, cleanRun, Nat.min_le_left ..⟩
  unfold State.rangingFailed
  dsimp only
  split
  · exact failed.trans (.suspendFrom ..)
  · exact failed

theorem State.RangeTo.takeRanging (m : RangingMsg) : s.RangeTo (s.takeRanging t m) := by
  unfold State.takeRanging
  split
  · split
    · split
      · unfold State.rangingAccepted
        dsimp only
        split
        · exact .offer (s.modEnrol t _) ..
        · exact .rangingFailed ..
      · exact .rangingFailed ..
    · exact .rangingFailed ..
    · exact .refl s
  · exact .refl s

end

/-! ### The frame boundary -/

section
variable (s : State) (t : Tree)

theorem State.RangeTo.atBoundary : s.RangeTo s.atBoundary := by
  refine .of_inRange fun k h => ?_
  have tallies : s.atBoundary.tallies = s.tallies := by rw [atBoundary_rest]
  unfold State.InRange State.tally
  rw [atBoundary_record, tallies]
  exact h

/-- A disable clears the outstanding grants of the records of its tree (R6). -/
theorem State.RangeTo.disableTree : s.RangeTo (s.disableTree t) := by
  refine .of_inRange fun k h => ?_
  have tallies : (s.disableTree t).tallies = s.tallies := by rw [(State.RunsFor.disableTree (s := s) (i := t)).keeps.rest]
  unfold State.InRange State.tally
  rw [disableTree_record, tallies]
  refine ⟨h.1, ?_⟩
  split
  · exact h.2.atDisable
  · exact h.2

theorem State.RangeTo.changeTree : s.RangeTo (s.changeTree t).1 := by
  unfold State.changeTree
  dsimp only
  split
  · exact .disableTree ..
  · split
    · obtain ⟨links, cutIns, e⟩ := enableTree_shape s t
      rw [e]
      exact .of_same rfl
    · split
      · exact (State.RangeTo.abandonRanging ((s.modEngine t _).modHunt t _) t).then_same rfl
      · split <;> exact .of_same rfl

theorem State.RangeTo.dispatch : s.RangeTo (s.dispatch t) := by
  have granted (u : State) (b : Burst) : u.RangeTo (u.grantEntry t b) := by
    unfold State.grantEntry
    split
    · exact .modRecord fun _ h => h.grant _
    · exact .refl u
  exact (State.RangeTo.foldl granted _ (s.modEngine t _)).then_same rfl

/-- A placement writes marks alone (R15, R62, R76). -/
theorem State.RangeTo.placed (x : LaneEntry) : s.RangeTo (s.placed t x) := by
  unfold State.placed
  split
  · rename_i k _ _ _
    dsimp only
    split
    · exact .modRecord (s := s.modTracker k _) fun _ h => h
    · exact .of_same rfl
  · exact .of_same rfl
  · exact .modRecord fun _ h => h
  · exact .of_same rfl
  · exact .refl s

theorem State.RangeTo.fillPlace (i : Fin 4) : s.RangeTo (s.fillPlace t i) := by
  unfold State.fillPlace
  dsimp only
  split
  · split
    · exact .placed (s.modEngine t _) t _
    · exact .placed (s.modEngine t _) t _
    · exact .of_same rfl
  · exact .refl s

theorem State.RangeTo.promotionScan : s.RangeTo (s.promotionScan t) := by
  have promote (u : State) (k : Nat) : u.RangeTo (u.promote k) := by
    unfold State.promote
    split
    · exact .changeState ..
    · exact .refl u
  unfold State.promotionScan
  split
  · exact .foldl promote _ (s.modLoad t _)
  · exact .refl s

theorem State.RangeTo.sendFrame : s.RangeTo (s.sendFrame t) := .of_same rfl

theorem State.RangeTo.fillPlaces : s.RangeTo (s.fillPlaces t) := .foldl (fun s i => .fillPlace s t i) _ s

theorem State.RangeTo.scanned : s.RangeTo (s.scanned t) :=
  (((State.RangeTo.dispatch ..).trans (.fillPlaces ..)).trans (.sendFrame ..)).trans (.promotionScan ..)

theorem State.RangeTo.runTree (enabled : Bool) : s.RangeTo (s.runTree t enabled) := by
  have countUp (u : State) : u.RangeTo (u.modEnrol t (·.countUp)) := .of_same rfl
  have due (u : State) : u.RangeTo (u.makeDue t) := .of_same rfl
  have forgotten : s.RangeTo (s.modEngine t (·.forgetAnnounce s.frame)) := .of_same rfl
  have counted (u : State) : u.RangeTo (u.counted t enabled) := by
    unfold State.counted
    split
    · exact .scanned u t
    · exact (State.RangeTo.scanned u t).trans (countUp _)
  rw [runTree_eq]
  exact ((forgotten.trans (counted _)).trans (.startCompile ..)).trans (due _)

theorem State.RangeTo.boundary : s.RangeTo s.boundary := by
  have turn (u : State) (i : Tree) : u.RangeTo (u.boundaryTree i) := by
    rw [boundaryTree_eq]
    split
    · exact .changeTree ..
    · exact (State.RangeTo.changeTree u i).trans (.runTree ..)
  rw [boundary_eq]
  exact (State.RangeTo.atBoundary s).trans (.foldl turn _ _)

end

/-! ### Requests -/

section
variable {s : State} {l : LinkId}

theorem State.RangeTo.transaction {next : State} (h : s.RangeTo next) : s.RangeTo (s.transaction l next) := by
  unfold State.transaction
  split
  · exact .refl s
  · split
    · exact .of_same rfl
    · exact h

theorem State.RangeTo.write {r : Request} {serve : State → State} (served : ∀ u, State.RangeTo u (serve u)) :
    s.RangeTo (s.write l r serve) := by
  refine .transaction ?_
  split
  · exact .of_same rfl
  · exact (State.RangeTo.of_same (u := s.modLink l _) rfl).trans (served _)

theorem State.RangeTo.request {i : Instr} {cls : RequestClass} {serve : State → State}
    (served : ∀ u, State.RangeTo u (serve u)) : s.RangeTo (s.request l i cls serve) := by
  refine .write fun u => ?_
  unfold State.checkRole
  split
  · exact served u
  · exact .of_same rfl

theorem State.RangeTo.withTree {tree : Nat} {serve : Tree → State} (served : ∀ t, s.RangeTo (serve t)) :
    s.RangeTo (s.withTree l tree serve) := by
  unfold State.withTree
  split
  · exact served _
  · exact .of_same rfl

theorem State.RangeTo.withTag {tag : Nat} {serve : Nat → State} (served : ∀ k, s.RangeTo (serve k)) :
    s.RangeTo (s.withTag l tag serve) := by
  unfold State.withTag
  split
  · exact served _
  · exact .of_same rfl

theorem State.RangeTo.needRecord {k : Nat} {serve : State} (served : s.RangeTo serve) : s.RangeTo (s.needRecord l k serve) := by
  unfold State.needRecord
  split
  · exact .of_same rfl
  · exact served

theorem State.RangeTo.withProfile {n : Nat} {serve : State} (served : s.RangeTo serve) :
    s.RangeTo (s.withProfile l n serve) := by
  unfold State.withProfile
  split
  · exact served
  · exact .of_same rfl

variable (s l) (t : Tree) (k : Nat)

theorem State.RangeTo.answer (status : Status) (data : ResponseData) : s.RangeTo (s.answer l status data) := .of_same rfl

/-! ### What serves each request -/

theorem State.RangeTo.serveEnable : s.RangeTo (s.serveEnable l t) := by
  unfold State.serveEnable
  split <;> exact .of_same rfl

theorem State.RangeTo.serveDisable : s.RangeTo (s.serveDisable l t) := by
  unfold State.serveDisable
  split <;> exact .of_same rfl

theorem State.RangeTo.serveSetTree (v : TreeValues) : s.RangeTo (s.serveSetTree l t v) := by
  have written (p : TreeParams) : s.RangeTo (s.writeParams t p) := by
    unfold State.writeParams
    dsimp only
    split <;> exact .of_same rfl
  unfold State.serveSetTree
  dsimp only
  split
  · exact .of_same rfl
  · split
    · exact .of_same rfl
    · split
      · exact .of_same rfl
      · exact (written _).then_same rfl

theorem State.RangeTo.serveResume : s.RangeTo (s.serveResume l t) := by
  unfold State.serveResume
  dsimp only
  repeat' split
  all_goals exact .of_same rfl

theorem State.RangeTo.serveProvision (serial : Serial) (n : Nat) : s.RangeTo (s.serveProvision l serial t n) := by
  unfold State.serveProvision
  split
  · exact .of_same rfl
  · split
    · exact .of_same rfl
    · exact .of_same rfl
    · exact (State.RangeTo.newRecord s t _ .expected serial n true).then_same rfl

theorem State.RangeTo.writeProfileOf (n : Nat) : s.RangeTo (s.writeProfileOf k n) := by
  have written : s.RangeTo (s.modRecord k fun r => { r with profile := n, provisioned := true }) := .modRecord fun _ h => h
  exact written.trans (.evalOver ..)

theorem State.RangeTo.serveAssign (n : Nat) : s.RangeTo (s.serveAssign l k n) := by
  have written (f : Load → Load) : s.RangeTo ((s.modLoad (s.record k).treeNo f).writeProfileOf k n) :=
    .writeProfileOf (s.modLoad (s.record k).treeNo f) k n
  unfold State.serveAssign
  dsimp only
  split
  · exact .of_same rfl
  · split
    · split
      · exact (written _).then_same rfl
      · exact .of_same rfl
    · exact (written _).then_same rfl
  · exact (written _).then_same rfl
  all_goals exact (State.RangeTo.writeProfileOf s k n).then_same rfl

theorem State.RangeTo.serveRetire : s.RangeTo (s.serveRetire l k) := by
  have ended : s.RangeTo (s.endRestore k) := by
    obtain ⟨links, kept, h⟩ := endRestore_shape s k
    rw [h]
    exact .of_same rfl
  have withdrawn (new : RecState) : s.RangeTo (s.withdraw k new) := by
    unfold State.withdraw
    dsimp only
    split
    · exact (ended.trans (.changeState ..)).trans (.offerDepart ..)
    · exact ended.trans (.changeState ..)
  unfold State.serveRetire
  split
  · exact .of_same rfl
  · exact (withdrawn _).then_same rfl

theorem State.RangeTo.serveRerange : s.RangeTo (s.serveRerange l k) := by
  unfold State.serveRerange
  split
  · have announced : s.RangeTo ((s.changeState k .announced true).modRecord k fun r => { r with offer := .none }) :=
      (State.RangeTo.changeState s k .announced true).trans (.modRecord fun _ h => h)
    exact announced.then_same rfl
  · exact .of_same rfl

theorem State.RangeTo.serveRestore : s.RangeTo (s.serveRestore l k) := by
  unfold State.serveRestore
  dsimp only
  split
  · exact .of_same rfl
  · exact .offer ..

theorem State.RangeTo.serveSetProfile (n : Nat) (v : ProfileValues) : s.RangeTo (s.serveSetProfile l n v) := by
  have loads (p : Profile) : s.RangeTo (s.reprofiled n p) := by
    obtain ⟨_, _, h⟩ := reprofiled_shape s n p
    rw [h]
    exact .of_same rfl
  unfold State.serveSetProfile
  split
  · exact .of_same rfl
  · dsimp only
    split
    · exact .of_same rfl
    · exact ((loads _).trans (.foldl (fun s k => .evalOver s k) _ _)).then_same rfl

theorem State.RangeTo.serveFind (serial : Serial) : s.RangeTo (s.serveFind l serial) := by
  unfold State.serveFind
  split <;> exact .of_same rfl

theorem State.RangeTo.serveSetEnrolment (mode : Nat) : s.RangeTo (s.serveSetEnrolment l t mode) := by
  unfold State.serveSetEnrolment
  split <;> exact .of_same rfl

theorem State.RangeTo.serveDismiss (index : Nat) : s.RangeTo (s.serveDismiss l index) := by
  unfold State.serveDismiss
  split
  · exact .of_same rfl
  · split <;> exact .of_same rfl

theorem State.RangeTo.serveReadObservation (index : Nat) : s.RangeTo (s.serveReadObservation l index) := by
  unfold State.serveReadObservation
  split
  · exact .of_same rfl
  · split <;> exact .of_same rfl

theorem State.RangeTo.serveClearObservation (index : Nat) : s.RangeTo (s.serveClearObservation l index) := by
  unfold State.serveClearObservation
  split
  · exact .of_same rfl
  · split <;> exact .of_same rfl

theorem State.RangeTo.serveHunt : s.RangeTo (s.serveHunt l t) := by
  unfold State.serveHunt
  split
  · exact (State.RangeTo.startHunt s t).then_same rfl
  · exact .of_same rfl

theorem State.RangeTo.serveAbort : s.RangeTo (s.serveAbort l t) := by
  unfold State.serveAbort
  dsimp only
  split
  · exact .of_same rfl
  · exact ((State.RangeTo.endHunt s t .aborted).trans (.offerRelease ..)).then_same rfl

theorem State.RangeTo.serveMask (mask : MaskValues) : s.RangeTo (s.serveMask l mask) := by
  unfold State.serveMask
  split <;> exact .of_same rfl

/-- A RETIRED record steps to VACANT where its usage is settled (R45). -/
theorem State.RangeTo.stepToVacant : s.RangeTo
    (if (s.record k).state = .retired ∧ s.settled k = true then s.changeState k .vacant true else s) := by
  split
  · exact .changeState ..
  · exact .refl s

theorem State.RangeTo.closeRecord : s.RangeTo (s.closeRecord k) :=
  ((State.RangeTo.modTally (s := s) (k := k) fun _ h => h.close s.period s.frame).trans (.evalOver ..)).trans
    (.stepToVacant ((s.modTally k (·.close s.period s.frame)).evalOver k) k)

theorem State.RangeTo.serveClose : s.RangeTo (s.serveClose l) := by
  unfold State.serveClose
  split
  · exact (State.RangeTo.foldl (fun s k => .closeRecord s k) s.occupied s).then_same rfl
  · exact .of_same rfl

theorem State.RangeTo.serveCollect : s.RangeTo (s.serveCollect l k) := by
  unfold State.serveCollect
  dsimp only
  split
  · exact .of_same rfl
  · have collected : s.RangeTo (s.modTally k fun x => { x with closed := { x.closed with collected := true } }) :=
      .modTally fun _ h => h
    exact (collected.trans (.stepToVacant ..)).trans (.answer (s.collectSet k) l .ok _)

end

/-! ### Every command -/

/-- Every request, by what serves it. -/
theorem State.RangeTo.requestStep (s : State) (i : Instr) : s.RangeTo (requestStep i s) := by
  cases i with
  | enableTree => exact .request fun u => .withTree fun t => .serveEnable ..
  | disableTree => exact .request fun u => .withTree fun t => .serveDisable ..
  | setTree => exact .request fun u => .withTree fun t => .serveSetTree ..
  | resumeTree => exact .request fun u => .withTree fun t => .serveResume ..
  | setEnrolment => exact .request fun u => .withTree fun t => .serveSetEnrolment ..
  | hunt => exact .request fun u => .withTree fun t => .serveHunt ..
  | abortHunt => exact .request fun u => .withTree fun t => .serveAbort ..
  | readTree | readPlan | readEnrolment | readLight | readHunt => exact .request fun u => .withTree fun t => .answer ..
  | provision => exact .request fun u => .withTree fun t => .withProfile (.serveProvision ..)
  | assignProfile => exact .request fun u => .withTag fun k => .withProfile (.needRecord (.serveAssign ..))
  | retire => exact .request fun u => .withTag fun k => .needRecord (.serveRetire ..)
  | rerange => exact .request fun u => .withTag fun k => .needRecord (.serveRerange ..)
  | restore => exact .request fun u => .withTag fun k => .needRecord (.serveRestore ..)
  | collect => exact .request fun u => .withTag fun k => .needRecord (.serveCollect ..)
  | readRecord | readTracking | readLive => exact .request fun u => .withTag fun k => .needRecord (.answer ..)
  | setProfile => exact .request fun u => .withProfile (.serveSetProfile ..)
  | readProfile => exact .request fun u => .withProfile (.answer ..)
  | findSerial => exact .request fun u => .serveFind ..
  | dismissStranger => exact .request fun u => .serveDismiss ..
  | readObservation => exact .request fun u => .serveReadObservation ..
  | clearObservation => exact .request fun u => .serveClearObservation ..
  | closePeriod => exact .request fun u => .serveClose ..
  | setAttentionMask => exact .request fun u => .serveMask ..
  | clearOverflow | readAttention => exact .request fun u => .of_same rfl
  | readStranger | readLogStatus | readPeriod | readLinks => exact .request fun u => .answer ..
  | _ => exact .refl s

theorem State.RangeTo.writeOctets (s : State) (l : LinkId) (octets : List Byte) : s.RangeTo (s.writeOctets l octets) := by
  unfold State.writeOctets
  split
  · exact .transaction (.refl s)
  · split
    · exact .requestStep ..
    · split
      · exact .write fun u => .of_same rfl
      · exact .write fun u => .of_same rfl

theorem State.RangeTo.of_live {s next u : State} (e : live s next = .next u) (h : s.RangeTo next) : s.RangeTo u := by
  rcases live_cases e with rfl | rfl
  · exact .refl u
  · exact h

/-- A reset leaves every tally and every counter at 0. -/
theorem State.RangeTo.resetWith (s : State) (roles : Vector Role 3) (selected : Vector Bool 3) (freeCount : Nat)
    (pending : List Instr) : s.RangeTo (State.resetWith roles selected freeCount pending) := by
  refine .of_inRange fun k _ => ?_
  have tally : (State.resetWith roles selected freeCount pending).tally k = .reset := by
    simp [State.resetWith, State.tally, readAt_replicate]
  have record : (State.resetWith roles selected freeCount pending).record k = .vacant := by
    simp [State.resetWith, State.record, readAt_replicate]
  rw [State.InRange, tally, record]
  exact ⟨Tally.reset_fits, DropRecord.vacant_ranged⟩

/-- Every command that is no request. -/
theorem State.RangeTo.of_exec {s u : State} (i : Instr) (noRequest : i.requestSource = none) (e : exec i s = .next u) :
    s.RangeTo u := by
  cases i with
  | powerOnReset | resetN =>
    cases e
    exact .resetWith s (s.links.map (·.role)) (Vector.replicate 3 false) s.freeCount s.pending
  | release straps selected =>
    cases e
    split
    · exact .resetWith s (straps.map Straps.role) selected s.freeCount s.pending
    · exact .refl s
  | frameBoundary => exact .of_live e (.boundary s)
  | compileReadRecord => exact .of_live e (.readNext ..)
  | compileEnd => exact .of_live e (.endCompile ..)
  | offerDelivered | departureClears => exact .of_live e (.modRecord fun _ h => h)
  | settleMarkSettled => exact .of_live e (.of_same rfl)
  | rxResetPulse t offset => exact .of_live e (.pulse (s.advance offset) t)
  | inputSample t sample light cutIn =>
    exact .of_live e ((State.RangeTo.filterInputs (s.advance (32 * sample)) t light cutIn).trans
      State.OnlyJudges.deliverLight.rangeTo)
  | cutInAssertion =>
    refine .of_live e ?_
    split
    · rename_i taken
      exact (State.RangeTo.takeCutReport _ _ taken).trans (.cutAsserted ..)
    · exact .refl s
  | cutInDeassertion t =>
    refine .of_live e ?_
    cases taken : s.takeCutReport t false with
    | none => exact .refl s
    | some v => exact .takeCutReport _ _ taken
  | autoHuntTrigger =>
    refine .of_live e ?_
    split
    · exact .refl s
    · dsimp only
      split
      · exact .startHunt (s.modMail _) _
      · exact .of_same rfl
  | lockCapture t offset =>
    refine .of_live e ?_
    split
    · exact .of_same rfl
    · exact .capture (s.advance offset) ..
  | headerReceipt t =>
    refine .of_live e ?_
    split
    · exact .refl s
    · exact .resolve (s.modEngine t _) ..
  | announcePayloadEnd =>
    refine .of_live e ?_
    split
    · exact .refl s
    · exact .of_same rfl
  | planLeavesList t offset => exact .of_live e (State.EndsPlans.leavePlan (s.advance offset) t).rangeTo
  | validBurstReport =>
    refine .of_live e ?_
    split
    · exact .refl s
    · exact .takeValid (s.modMail _) _
  | missReport =>
    refine .of_live e ?_
    split
    · exact .refl s
    · exact .takeMiss (s.modMail _) _
  | delaySample =>
    refine .of_live e ?_
    split
    · exact .refl s
    · exact .takeSample (s.modMail _) _
  | stateChangeReport =>
    refine .of_live e ?_
    split
    · exact .refl s
    · exact .takeChange (s.modMail _) _
  | lightWatchReport =>
    refine .of_live e ?_
    split
    · exact .refl s
    · exact .takeLight (s.modMail _) _
  | strike =>
    refine .of_live e ?_
    split
    · exact .refl s
    · exact .takeStrike (s.modMail _) _
  | cleanRun =>
    refine .of_live e ?_
    split
    · exact .refl s
    · exact .takeClean (s.modMail _) _
  | discoveryReport =>
    refine .of_live e ?_
    split
    · exact .refl s
    · rename_i taken
      split
      · exact .refl s
      · exact (State.RangeTo.takeDiscoveryMsg _ _ taken).trans (.takeDiscovery ..)
  | discoveryWindowEnd =>
    refine .of_live e ?_
    split
    · exact .refl s
    · rename_i taken
      split
      · exact (State.RangeTo.takeDiscoveryMsg _ _ taken).then_same rfl
      · exact .refl s
  | rangingAttemptReport =>
    refine .of_live e ?_
    split
    · exact .refl s
    · exact .takeRanging (s.modMail _) _ _
  | darkWindowEnd =>
    refine .of_live e ?_
    split
    · exact .refl s
    · exact .darkEnd (s.modMail _) _ _
  | directiveRetry => exact .of_live e (.retry ..)
  | downstreamPacketArrival => exact .of_live e (.packetArrival ..)
  | tallyUpOctets =>
    refine .of_live e ?_
    split
    · exact .refl s
    · exact .takeUp (s.modMail _) _
  | tallyDownOctets =>
    refine .of_live e ?_
    split
    · exact .refl s
    · exact .takeDown (s.modMail _) _
  | tallyDispatch =>
    refine .of_live e ?_
    split
    · exact .refl s
    · exact .takeDispatch (s.modMail _) _
  | attentionLatch =>
    refine .of_live e ?_
    split
    · exact .refl s
    · exact .takeReport (s.modMail _) _
  | writeDiscarded =>
    refine .of_live e (.transaction ?_)
    split <;> exact .of_same rfl
  | readTransaction => exact .of_live e (.transaction (.of_same rfl))
  | disregardedTransaction =>
    refine .of_live e ?_
    split
    · exact .refl s
    · exact .transaction (.of_same rfl)
  | malformedRequest => exact .of_live e (.writeOctets ..)
  | _ => cases noRequest

/-- What one step can do to the ranges. -/
theorem State.RangeTo.of_step_eq {s u : State} (e : step s = .next u) : s.RangeTo u := by
  unfold step at e
  split at e
  · cases e
    exact .refl _
  · rename_i c rest _
    have queue : s.RangeTo { s with pending := rest } := .of_same rfl
    by_cases request : c.requestSource = none
    · exact queue.trans (.of_exec c request e)
    · rw [exec_eq_requestStep c _ request] at e
      exact queue.trans (.of_live e (.requestStep ..))

/-- Settles O6: every addition to a tally and every rise of a counter stops at its maximum, and all else that a step does to
them lowers or clears them. -/
theorem everyStepKeepsTalliesAndCountersInRange : Obligations.EveryStepKeepsTalliesAndCountersInRange := by
  intro s u tallies records e
  rw [← inRange_iff]
  exact fun k => (State.RangeTo.of_step_eq e).inRange ((inRange_iff s).mpr ⟨tallies, records⟩ k)

end Sys2Proof.Machine

/-! ## Reads of the tallies, the period and the links (R184, R185, R193, R200) -/

namespace Sys2Proof.Machine

/-! ### One equation for each read, on a link that serves it -/

section
variable {s : State} {l : LinkId} {seq : Nat}

theorem exec_readLive_eq {k : Nat} (h : s.Serves l .read) (known : (s.record k).state ≠ .vacant) :
    exec (.readLive l seq k) s = .next (s.served l 31 seq .ok (.live (s.liveView k))) := by
  show live s _ = _
  rw [live_out _ _ h.1.1, State.reqReadLive, request_serves _ _ _ _ _ h, withTag_mem _ _ _ _ (record_tag_range known),
    State.needRecord, asked_record, if_neg known, asked_answer]
  rfl

theorem exec_readPeriod_eq (h : s.Serves l .read) :
    exec (.readPeriod l seq) s = .next (s.served l 32 seq .ok (.period s.periodView)) := by
  show live s _ = _
  rw [live_out _ _ h.1.1, State.reqReadPeriod, request_serves _ _ _ _ _ h, asked_answer]
  rfl

/-- READ_LINKS sees its own request in the slot of its link (R200). -/
theorem exec_readLinks_eq (h : s.Serves l .read) :
    exec (.readLinks l seq) s =
      .next (s.served l 35 seq .ok (.links ((s.asked l (.readLinks l seq)).links.toList.map Link.view))) := by
  show live s _ = _
  rw [live_out _ _ h.1.1, State.reqReadLinks, request_serves _ _ _ _ _ h, asked_answer]
  rfl

end

/-! ### The items of the reads -/

theorem uncollectedTags_eq (s : State) :
    s.uncollectedTags = (List.range' 1 256).filter fun k => !(s.tally k).closed.collected :=
  numbersWhere_eq _ _ Tally.reset

theorem retiredTags_eq (s : State) : (numbersWhere s.records fun _ r => r.state == .retired) =
    (List.range' 1 256).filter fun k => (s.record k).state == .retired :=
  numbersWhere_eq _ _ DropRecord.vacant

/-- A close would be taken while no closed set is uncollected (R178, R185). -/
theorem wouldTake_eq (s : State) : s.uncollectedTags.isEmpty = decide (s.uncollectedTags = []) := by
  rw [Bool.eq_iff_iff, List.isEmpty_iff, decide_eq_true_iff]

theorem links_toList_eq (s : State) : s.links.toList = [0, 1, 2].map fun l : LinkId => s.link l := by
  apply List.ext_getElem
  · simp
  · intro i h1 h2
    have hi : i < 3 := by simpa using h1
    match i, hi with
    | 0, _ | 1, _ | 2, _ => simp [State.link]

/-- What READ_LINKS returns of a link by its slots and flags: which codes wait for a boundary, and which for a lane (R193,
R200). -/
theorem view_eq (x : Link) : x.view =
    { role := x.role
      state := x.state
      served := x.request.map fun r => (r.code, r.seq, decide (r.code = 1 ∨ r.code = 2), decide (r.code = 10))
      shown := [x.flags.observation.shown, x.flags.roster.shown, x.flags.tree.shown, x.flags.stranger.shown,
        x.flags.allowance.shown]
      attn := x.attn } := by
  have waits (code : Nat) : waitsBoundary code = decide (code = 1 ∨ code = 2) := (Bool.decide_or ..).symm
  simp only [Link.view, waits]
  rfl

theorem asked_link_other {s : State} {l m : LinkId} (i : Instr) (other : m ≠ l) : (s.asked l i).link m = s.link m := by
  rw [asked_eq, modLink_link, if_neg other]

/-- Settles O60: each read by the equation of its step, and its lists by the tags and links they go through. -/
theorem readsOfTalliesAndLinksChangeNothing : Obligations.ReadsOfTalliesAndLinksChangeNothing := by
  refine fun l seq s h => ⟨fun k known => exec_readLive_eq h known, ?_, ?_⟩
  · rw [exec_readPeriod_eq h, State.periodView, wouldTake_eq, uncollectedTags_eq, retiredTags_eq]
  · rw [exec_readLinks_eq h, links_toList_eq, List.map_map]
    refine congrArg (fun views => Host.Outcome.next (s.served l 35 seq .ok (.links views))) (List.map_congr_left fun m _ => ?_)
    by_cases own : m = l
    · subst own
      simp only [Function.comp_apply, asked_link, view_eq, if_pos]
      rfl
    · simp only [Function.comp_apply, asked_link_other _ own, view_eq, if_neg own]

end Sys2Proof.Machine

/-! ## CLOSE_PERIOD and COLLECT (R36, R45, R170, R176, R178, R179, R181, R182) -/

namespace Sys2Proof.Machine

/-! ### Reports discarded for several tags (R36, R45) -/

/-- The reports of the tree engines that are still on their way, but for those of the tags that are gone. -/
def Mail.releaseAll (m : Mail) (gone : Nat → Bool) : Mail :=
  { m with
    valids := m.valids.filter fun x => !gone x.tag
    misses := m.misses.filter fun x => !gone x.tag
    samples := m.samples.filter fun x => !gone x.tag
    ups := m.ups.filter fun x => !gone x.tag
    downs := m.downs.filter fun x => !gone x.tag
    dispatches := m.dispatches.filter fun x => !gone x.tag
    cleans := m.cleans.filter fun x => !gone x.tag }

theorem releaseAll_none (m : Mail) : (m.releaseAll fun _ => false) = m := by
  simp [Mail.releaseAll]

theorem releaseAll_releaseAll (m : Mail) (first second : Nat → Bool) :
    (m.releaseAll first).releaseAll second = m.releaseAll fun k => first k || second k := by
  simp [Mail.releaseAll, List.filter_filter, Bool.and_comm]

/-- What becomes of the reports in flight as records become VACANT: those for their tags are gone, and changes are
reported (R36, R42, R45). -/
def Mail.ReleasesTo (m : Mail) (gone : Nat → Bool) (m' : Mail) : Prop :=
  m' = { m.releaseAll gone with changes := m'.changes, attention := m'.attention }

theorem Mail.ReleasesTo.refl (m : Mail) : m.ReleasesTo (fun _ => false) m := by
  rw [Mail.ReleasesTo, releaseAll_none]

theorem Mail.ReleasesTo.trans {m m' m'' : Mail} {first second : Nat → Bool} (h : m.ReleasesTo first m')
    (h' : m'.ReleasesTo second m'') : m.ReleasesTo (fun k => first k || second k) m'' := by
  rw [Mail.ReleasesTo, ← releaseAll_releaseAll, h', h]
  rfl

/-- What stays on its way, report by report. -/
theorem Mail.ReleasesTo.filters {m m' : Mail} {gone stays : Nat → Bool} (h : m.ReleasesTo gone m')
    (others : ∀ k, stays k = !gone k) :
    m'.valids = m.valids.filter (fun x => stays x.tag) ∧ m'.misses = m.misses.filter (fun x => stays x.tag) ∧
    m'.samples = m.samples.filter (fun x => stays x.tag) ∧ m'.ups = m.ups.filter (fun x => stays x.tag) ∧
    m'.downs = m.downs.filter (fun x => stays x.tag) ∧ m'.cleans = m.cleans.filter (fun x => stays x.tag) ∧
    m'.dispatches = m.dispatches.filter (fun x => stays x.tag) := by
  obtain rfl : stays = fun k => !gone k := funext others
  rw [h]
  exact ⟨rfl, rfl, rfl, rfl, rfl, rfl, rfl⟩

/-! ### What a record's sets and its step to VACANT are written in -/

/-- Nothing but what is kept of records, their sets and the reports about them has changed (R36, R45, R178). -/
def State.OnlyVacates (s u : State) : Prop :=
  u = { s with
    records := u.records, trackers := u.trackers, tallies := u.tallies, kept := u.kept, mail := u.mail }

theorem State.OnlyVacates.trans {s u v : State} (h : s.OnlyVacates u) (h' : u.OnlyVacates v) : s.OnlyVacates v := by
  rw [State.OnlyVacates, h', h]

/-! ### A RETIRED record that becomes VACANT (R45) -/

section
variable (s : State) (k j : Nat)

/-- The step from RETIRED to VACANT, which a request has caused (R42, R43, R45). -/
def State.vacated : State :=
  ((s.modRecord k (·.enter .vacant)).enterState (s.record k).treeNo k .vacant).reportChange k .retired .vacant true

variable {s k} in
/-- A RETIRED record gives up no load, no queue and no kept directive of its suspension. -/
theorem changeState_of_retired (retired : (s.record k).state = .retired) : s.changeState k .vacant true = s.vacated k := by
  have active : s.leaveActive k .vacant = s := if_neg (by simp [retired])
  have queue : s.leaveQueue k .vacant = s := if_neg (by simp [retired])
  have suspended : s.leaveSuspended k = s := if_neg (by simp [retired])
  rw [changeState_eq true (by simp [retired]), State.leaving, active, queue, suspended, retired]
  rfl

theorem vacated_records : (s.vacated k).records = (s.modRecord k (·.enter .vacant)).records := rfl

theorem vacated_tallies : (s.vacated k).tallies = (s.modTally k fun _ => .reset).tallies := rfl

theorem vacated_record : (s.vacated k).record j =
    if j = k ∧ 1 ≤ k ∧ k ≤ 256 then (s.record k).enter .vacant else s.record j := by
  rw [State.record, vacated_records]
  exact modRecord_record s k j (·.enter .vacant)

theorem vacated_tally : (s.vacated k).tally j = if j = k ∧ 1 ≤ k ∧ k ≤ 256 then .reset else s.tally j := by
  rw [State.tally, vacated_tallies]
  exact modTally_tally s k j fun _ => .reset

theorem vacated_mail : s.mail.ReleasesTo (· == k) (s.vacated k).mail := rfl

theorem enterState_vacant_only (t : Tree) : s.OnlyVacates (s.enterState t k .vacant) := rfl

theorem vacated_only : s.OnlyVacates (s.vacated k) := by
  have emptied : s.OnlyVacates (s.modRecord k (·.enter .vacant)) := rfl
  have reported (u : State) : u.OnlyVacates (u.reportChange k .retired .vacant true) := rfl
  exact (emptied.trans (enterState_vacant_only ..)).trans (reported _)

end

/-! ### One record at a close (R178, R179) -/

theorem isZero_eq (x : TallySet) :
    x.isZero = decide (x.up = 0 ∧ x.down = 0 ∧ x.granted = 0 ∧ x.withheld = 0 ∧ x.overFrames = 0) := by
  rw [Bool.eq_iff_iff, decide_eq_true_iff]
  simp [TallySet.isZero, and_assoc]

/-- No usage reaches an allowance that is none, so that a zero live set clears the over flag (R176). -/
theorem evalOver_of_zero {s : State} {k : Nat} (zero : (s.tally k).live.up = 0) :
    s.evalOver k = s.modRecord k fun r => { r with isOver := false } := by
  have flag : s.overNow k = false := by
    rw [overNow_eq, State.overWith, zero, decide_eq_false_iff_not]
    omega
  rw [evalOver_eq, flag]
  simp [allowanceReports, State.modMail, State.modRecord]

section
variable (s : State) (k j : Nat)

/-- A RETIRED record with nothing to collect once its live set is closed (R45, R178). -/
def State.vacates : Bool := (s.record k).state == .retired && (s.tally k).live.isZero

/-- A record after a close (R178, R179). -/
def State.closedRecord : DropRecord :=
  if s.vacates k then (s.record k).enter .vacant else { s.record k with isOver := false }

/-- The sets of a record after a close (R170, R178). -/
def State.closedTally : Tally := if s.vacates k then .reset else (s.tally k).close s.period s.frame

/-- A live set moved into the closed set, the over flag clear. -/
def State.setClosed : State :=
  (s.modTally k (·.close s.period s.frame)).modRecord k fun r => { r with isOver := false }

theorem setClosed_record : (s.setClosed k).record j =
    if j = k ∧ 1 ≤ k ∧ k ≤ 256 then { s.record k with isOver := false } else s.record j := modRecord_record ..

theorem setClosed_tally : (s.setClosed k).tally j =
    if j = k ∧ 1 ≤ k ∧ k ≤ 256 then (s.tally k).close s.period s.frame else s.tally j := modTally_tally ..

theorem setClosed_only : s.OnlyVacates (s.setClosed k) := rfl

theorem vacates_iff : s.vacates k = true ↔ (s.record k).state = .retired ∧ (s.tally k).live.up = 0 ∧
    (s.tally k).live.down = 0 ∧ (s.tally k).live.granted = 0 ∧ (s.tally k).live.withheld = 0 ∧
    (s.tally k).live.overFrames = 0 := by
  rw [State.vacates, Bool.and_eq_true, beq_iff_eq, isZero_eq, decide_eq_true_iff]

variable {s k}

theorem closeRecord_eq (tag : 1 ≤ k ∧ k ≤ 256) :
    s.closeRecord k = if s.vacates k then (s.setClosed k).vacated k else s.setClosed k := by
  have tally : (s.modTally k (·.close s.period s.frame)).tally k = (s.tally k).close s.period s.frame := by
    rw [modTally_tally, if_pos ⟨rfl, tag⟩]
  have closed : (s.modTally k (·.close s.period s.frame)).evalOver k = s.setClosed k :=
    evalOver_of_zero (by rw [tally]; rfl)
  have state : ((s.setClosed k).record k).state = (s.record k).state := by
    rw [setClosed_record]
    split <;> rfl
  have settled : (s.setClosed k).settled k = (s.tally k).live.isZero := by
    rw [State.settled, setClosed_tally, if_pos ⟨rfl, tag⟩]
    rfl
  unfold State.closeRecord State.vacates
  rw [closed]
  dsimp only
  rw [state, settled]
  by_cases retired : (s.record k).state = .retired
  · rw [changeState_of_retired (state.trans retired), retired]
    simp
  · simp [retired]

theorem closeRecord_record (tag : 1 ≤ k ∧ k ≤ 256) (j : Nat) :
    (s.closeRecord k).record j = if j = k then s.closedRecord k else s.record j := by
  rw [closeRecord_eq tag, State.closedRecord]
  by_cases own : j = k <;> cases s.vacates k <;> simp [vacated_record, setClosed_record, own, tag]
  rfl

theorem closeRecord_tally (tag : 1 ≤ k ∧ k ≤ 256) (j : Nat) :
    (s.closeRecord k).tally j = if j = k then s.closedTally k else s.tally j := by
  rw [closeRecord_eq tag, State.closedTally]
  by_cases own : j = k <;> cases s.vacates k <;> simp [vacated_tally, setClosed_tally, own, tag]

theorem closeRecord_mail (tag : 1 ≤ k ∧ k ≤ 256) :
    s.mail.ReleasesTo (fun j => j == k && s.vacates k) (s.closeRecord k).mail := by
  rw [closeRecord_eq tag]
  cases s.vacates k with
  | false =>
    simp only [Bool.and_false]
    exact .refl s.mail
  | true =>
    simp only [Bool.and_true]
    exact vacated_mail (s.setClosed k) k

theorem closeRecord_only (tag : 1 ≤ k ∧ k ≤ 256) : s.OnlyVacates (s.closeRecord k) := by
  rw [closeRecord_eq tag]
  cases s.vacates k with
  | false => exact setClosed_only s k
  | true => exact (setClosed_only s k).trans (vacated_only _ k)

end

/-! ### The records of a close, one after the other -/

/-- The records `ks` are closed from `s` to `u` (R178, R179). -/
structure State.Closes (s : State) (ks : List Nat) (u : State) : Prop where
  record : ∀ j, u.record j = if j ∈ ks then s.closedRecord j else s.record j
  tally : ∀ j, u.tally j = if j ∈ ks then s.closedTally j else s.tally j
  mail : s.mail.ReleasesTo (fun j => ks.contains j && s.vacates j) u.mail
  only : s.OnlyVacates u

theorem State.Closes.nil (s : State) : s.Closes [] s where
  record _ := rfl
  tally _ := rfl
  mail := .refl s.mail
  only := rfl

/-- A close of one record leaves the others to be closed as they would have been. -/
theorem State.Closes.cons {s u : State} {k : Nat} {ks : List Nat} (tag : 1 ≤ k ∧ k ≤ 256) (fresh : k ∉ ks)
    (h : (s.closeRecord k).Closes ks u) : s.Closes (k :: ks) u := by
  have record {j : Nat} (other : j ≠ k) : (s.closeRecord k).record j = s.record j := by
    rw [closeRecord_record tag, if_neg other]
  have tally {j : Nat} (other : j ≠ k) : (s.closeRecord k).tally j = s.tally j := by
    rw [closeRecord_tally tag, if_neg other]
  have vacates {j : Nat} (other : j ≠ k) : (s.closeRecord k).vacates j = s.vacates j := by
    rw [State.vacates, record other, tally other]
    rfl
  have times : (s.closeRecord k).period = s.period ∧ (s.closeRecord k).frame = s.frame := by
    rw [closeRecord_only tag]
    exact ⟨rfl, rfl⟩
  refine ⟨fun j => ?_, fun j => ?_, ?_, (closeRecord_only tag).trans h.only⟩
  · rw [h.record]
    by_cases own : j = k
    · subst own
      rw [if_neg fresh, if_pos List.mem_cons_self, closeRecord_record tag, if_pos rfl]
    · rw [State.closedRecord, vacates own, record own]
      simp [own, State.closedRecord]
  · rw [h.tally]
    by_cases own : j = k
    · subst own
      rw [if_neg fresh, if_pos List.mem_cons_self, closeRecord_tally tag, if_pos rfl]
    · rw [State.closedTally, vacates own, tally own, times.1, times.2]
      simp [own, State.closedTally]
  · have gone : (fun j => j == k && s.vacates k || ks.contains j && (s.closeRecord k).vacates j) =
        fun j => (k :: ks).contains j && s.vacates j := by
      funext j
      by_cases own : j = k
      · subst own
        simp [fresh]
      · simp [own, vacates own]
    exact gone ▸ (closeRecord_mail tag).trans h.mail

theorem closeRecords_closes (ks : List Nat) : ∀ s : State, ks.Nodup → (∀ k ∈ ks, 1 ≤ k ∧ k ≤ 256) →
    s.Closes ks (ks.foldl (fun s k => s.closeRecord k) s) := by
  induction ks with
  | nil => exact fun s _ _ => .nil s
  | cons k ks ih =>
    intro s nodup tags
    obtain ⟨fresh, nodup⟩ := List.nodup_cons.mp nodup
    exact .cons (tags k List.mem_cons_self) fresh (ih _ nodup fun j hj => tags j (List.mem_cons_of_mem k hj))

section
variable {s u : State} {k : Nat}

theorem mem_occupied_iff (s : State) (k : Nat) : k ∈ s.occupied ↔ (s.record k).state ≠ .vacant := by
  rw [State.occupied, mem_numbersWhere _ _ _ DropRecord.vacant, bne_iff_ne]
  exact ⟨fun h => h.2, fun h => ⟨record_tag_range (s := s) h, h⟩⟩

theorem closeOccupied_closes (s : State) : s.Closes s.occupied (s.occupied.foldl (fun s k => s.closeRecord k) s) :=
  closeRecords_closes _ s (numbersWhere_nodup ..) fun k hk => record_tag_range (s := s) ((mem_occupied_iff s k).mp hk)

theorem occupied_of_vacates (h : s.vacates k = true) : k ∈ s.occupied := by
  rw [mem_occupied_iff, ((vacates_iff s k).mp h).1]
  nofun

end

/-! ### CLOSE_PERIOD (R178, R179) -/

theorem State.OnlyVacates.answer {s u : State} (h : s.OnlyVacates u) (l : LinkId) (status : Status) (data : ResponseData) :
    (s.answer l status data).OnlyVacates (u.answer l status data) := by
  rw [State.OnlyVacates, h]
  rfl

section
variable (s : State) (k : Nat)

theorem closeAll_record : s.closeAll.record k = if k ∈ s.occupied then s.closedRecord k else s.record k :=
  (closeOccupied_closes s).record k

theorem closeAll_tally : s.closeAll.tally k = if k ∈ s.occupied then s.closedTally k else s.tally k :=
  (closeOccupied_closes s).tally k

theorem closeAll_mail : s.mail.ReleasesTo s.vacates s.closeAll.mail := by
  have gone : (fun j => s.occupied.contains j && s.vacates j) = s.vacates := by
    funext j
    cases vacates : s.vacates j with
    | false => rw [Bool.and_false]
    | true => simpa using occupied_of_vacates vacates
  exact gone ▸ (closeOccupied_closes s).mail

theorem closeAll_only :
    State.OnlyVacates { s with period := (s.period + 1) % 65536, lastClose := some s.frame } s.closeAll := by
  rw [State.OnlyVacates, State.closeAll, (closeOccupied_closes s).only]

theorem closeAll_vacant (h : (s.record k).state = .vacant) :
    s.closeAll.tally k = s.tally k ∧ s.closeAll.record k = s.record k := by
  have absent : k ∉ s.occupied := by simpa [mem_occupied_iff] using h
  rw [closeAll_tally, closeAll_record, if_neg absent, if_neg absent]
  exact ⟨rfl, rfl⟩

theorem closeAll_stays (known : (s.record k).state ≠ .vacant) (stays : s.vacates k = false) :
    s.closeAll.tally k = (s.tally k).close s.period s.frame ∧
      s.closeAll.record k = { s.record k with isOver := false } := by
  have occupied := (mem_occupied_iff s k).mpr known
  rw [closeAll_tally, closeAll_record, if_pos occupied, if_pos occupied, State.closedTally, State.closedRecord, stays]
  exact ⟨rfl, rfl⟩

theorem closeAll_vacates (h : s.vacates k = true) :
    s.closeAll.tally k = .reset ∧ s.closeAll.record k = (s.record k).enter .vacant := by
  have occupied := occupied_of_vacates h
  rw [closeAll_tally, closeAll_record, if_pos occupied, if_pos occupied, State.closedTally, State.closedRecord, if_pos h,
    if_pos h]
  exact ⟨rfl, rfl⟩

end

/-- The tags made VACANT by a close (R178). -/
def State.closeVacated (s : State) : List Nat := s.occupied.filter fun k => (s.closeAll.record k).state == .vacant

theorem mem_closeVacated_iff (s : State) (k : Nat) : k ∈ s.closeVacated ↔ s.vacates k = true := by
  rw [State.closeVacated, List.mem_filter, beq_iff_eq]
  constructor
  · rintro ⟨occupied, vacant⟩
    have known := (mem_occupied_iff s k).mp occupied
    by_contra stays
    rw [(closeAll_stays s k known (Bool.eq_false_iff.mpr stays)).2] at vacant
    exact known vacant
  · intro gone
    rw [(closeAll_vacates s k gone).2]
    exact ⟨occupied_of_vacates gone, rfl⟩

/-- The response to a close (R178). -/
def State.closeData (s : State) : ResponseData :=
  .closed s.period s.closeAll.period s.frame s.closeAll.uncollectedTags.length s.closeVacated

theorem closeData_eq (s : State) : s.closeData = .closed s.period s.closeAll.period s.frame
    ((List.range' 1 256).filter fun k => !(s.closeAll.tally k).closed.collected).length s.closeVacated := by
  rw [State.closeData, uncollectedTags_eq]

section
variable {s : State} {l : LinkId} {seq : Nat}

theorem exec_closePeriod_eq (h : s.Serves l .tally) :
    exec (.closePeriod l seq) s = .next ((s.asked l (.closePeriod l seq)).serveClose l) := by
  show live s _ = _
  rw [live_out _ _ h.1.1, State.reqClosePeriod, request_serves _ _ _ _ _ h]

/-- CLOSE_PERIOD while a closed set is uncollected (R178). -/
theorem closePeriod_refused (h : s.Serves l .tally) {lowest : Nat} {rest : List Nat}
    (waiting : s.uncollectedTags = lowest :: rest) :
    exec (.closePeriod l seq) s =
      .next (s.served l 29 seq .uncollected (.uncollected (rest.length + 1) lowest)) := by
  have asked : (s.asked l (.closePeriod l seq)).uncollectedTags = lowest :: rest := waiting
  rw [exec_closePeriod_eq h, State.serveClose, asked]
  exact congrArg Host.Outcome.next (asked_answer ..)

/-- CLOSE_PERIOD while every closed set is collected (R178). -/
theorem closePeriod_taken (h : s.Serves l .tally) (collected : s.uncollectedTags = []) :
    exec (.closePeriod l seq) s = .next ((s.asked l (.closePeriod l seq)).closeAll.answer l .ok
      (s.asked l (.closePeriod l seq)).closeData) := by
  have asked : (s.asked l (.closePeriod l seq)).uncollectedTags = [] := collected
  rw [exec_closePeriod_eq h, State.serveClose, asked]
  rfl

end

/-! ### COLLECT (R181, R182) -/

section
variable (s : State) (k : Nat)

/-- A closed set marked collected, its contents kept (R181). -/
def State.markCollected : State := s.modTally k fun x => { x with closed := { x.closed with collected := true } }

theorem markCollected_tally : (s.markCollected k).tally k =
    if 1 ≤ k ∧ k ≤ 256 then { s.tally k with closed := { (s.tally k).closed with collected := true } } else s.tally k := by
  rw [State.markCollected, modTally_tally]
  simp

theorem markCollected_only : s.OnlyVacates (s.markCollected k) := rfl

variable {s k}

theorem collectSet_eq (tag : 1 ≤ k ∧ k ≤ 256) :
    s.collectSet k = if s.vacates k then (s.markCollected k).vacated k else s.markCollected k := by
  have settled : (s.markCollected k).settled k = (s.tally k).live.isZero := by
    rw [State.settled, markCollected_tally, if_pos tag]
    exact Bool.and_true _
  have marked : s.collectSet k = if (s.record k).state = .retired ∧ (s.markCollected k).settled k = true then
      (s.markCollected k).changeState k .vacant true else s.markCollected k := rfl
  rw [marked, settled, State.vacates]
  by_cases retired : (s.record k).state = .retired
  · rw [changeState_of_retired (s := s.markCollected k) retired, retired]
    simp
  · simp [retired]

end

section
variable {s : State} {l : LinkId} {seq k : Nat}

theorem exec_collect_eq (h : s.Serves l .tally) (known : (s.record k).state ≠ .vacant) :
    exec (.collect l seq k) s = .next ((s.asked l (.collect l seq k)).serveCollect l k) := by
  show live s _ = _
  rw [live_out _ _ h.1.1, State.reqCollect, request_serves _ _ _ _ _ h, withTag_mem _ _ _ _ (record_tag_range known),
    State.needRecord, asked_record, if_neg known]

/-- The response to a COLLECT that returns a set, by the state it leaves the record in (R181, R182). -/
def State.collectData (s : State) (k : Nat) (left : RecState) : ResponseData :=
  .collected ⟨(s.tally k).closed.set, (s.tally k).closed.period, (s.tally k).closed.closeFrame, k, (s.record k).tree,
    (s.record k).serial, (s.record k).state, left⟩

theorem collect_collected (h : s.Serves l .tally) (known : (s.record k).state ≠ .vacant)
    (collected : (s.tally k).closed.collected = true) :
    exec (.collect l seq k) s =
      .next (s.served l 30 seq .noData (.closedInfo (s.tally k).closed.period (s.tally k).closed.closeFrame)) := by
  rw [exec_collect_eq h known, State.serveCollect]
  dsimp only
  rw [asked_tally, if_pos collected, asked_answer]
  rfl

theorem collect_uncollected (h : s.Serves l .tally) (known : (s.record k).state ≠ .vacant)
    (uncollected : (s.tally k).closed.collected = false) :
    exec (.collect l seq k) s = .next (((s.asked l (.collect l seq k)).collectSet k).answer l .ok
      (s.collectData k (((s.asked l (.collect l seq k)).collectSet k).record k).state)) := by
  rw [exec_collect_eq h known, State.serveCollect]
  dsimp only
  rw [asked_tally, if_neg (by simp [uncollected])]
  rfl

theorem collect_stays (h : s.Serves l .tally) (known : (s.record k).state ≠ .vacant)
    (uncollected : (s.tally k).closed.collected = false) (stays : s.vacates k = false) :
    exec (.collect l seq k) s =
      .next ((s.served l 30 seq .ok (s.collectData k (s.record k).state)).markCollected k) := by
  have marked : (s.asked l (.collect l seq k)).collectSet k = (s.asked l (.collect l seq k)).markCollected k := by
    rw [collectSet_eq (record_tag_range known)]
    exact if_neg (Bool.eq_false_iff.mp stays)
  have answered := asked_answer s l (.collect l seq k) .ok (s.collectData k (s.record k).state)
  rw [collect_uncollected h known uncollected, marked]
  exact congrArg (fun u : State => Host.Outcome.next (u.markCollected k)) answered

theorem collect_leaves (h : s.Serves l .tally) (known : (s.record k).state ≠ .vacant)
    (uncollected : (s.tally k).closed.collected = false) (vacates : s.vacates k = true) :
    exec (.collect l seq k) s = .next ((((s.asked l (.collect l seq k)).markCollected k).vacated k).answer l .ok
      (s.collectData k .vacant)) := by
  have left : (s.asked l (.collect l seq k)).collectSet k = ((s.asked l (.collect l seq k)).markCollected k).vacated k := by
    rw [collectSet_eq (record_tag_range known)]
    exact if_pos vacates
  have vacant : ((((s.asked l (.collect l seq k)).markCollected k).vacated k).record k).state = .vacant := by
    rw [vacated_record, if_pos ⟨rfl, record_tag_range known⟩]
    rfl
  rw [collect_uncollected h known uncollected, left, vacant]

end

/-! ### O45 -/

section
variable {s : State} {l : LinkId} {seq k : Nat}

theorem not_vacates_eq (s : State) (k : Nat) :
    decide (¬ ((s.record k).state = .retired ∧ (s.tally k).live.up = 0 ∧ (s.tally k).live.down = 0 ∧
      (s.tally k).live.granted = 0 ∧ (s.tally k).live.withheld = 0 ∧ (s.tally k).live.overFrames = 0)) =
      !s.vacates k := by
  rw [Bool.eq_iff_iff, decide_eq_true_iff, ← vacates_iff, Bool.not_eq_true, Bool.not_eq_true']

/-- A COLLECT that makes its record VACANT, block by block (R36, R45, R181). -/
theorem vacated_markCollected (tag : 1 ≤ k ∧ k ≤ 256) :
    ((s.markCollected k).vacated k).record k = (s.record k).enter .vacant ∧
    ((s.markCollected k).vacated k).tally k = .reset ∧
    (∀ j, j ≠ k → ((s.markCollected k).vacated k).record j = s.record j ∧
      ((s.markCollected k).vacated k).tally j = s.tally j) := by
  refine ⟨?_, ?_, fun j other => ⟨?_, ?_⟩⟩
  · rw [vacated_record, if_pos ⟨rfl, tag⟩]
    rfl
  · rw [vacated_tally, if_pos ⟨rfl, tag⟩]
  · rw [vacated_record, if_neg fun both => other both.1]
    rfl
  · rw [vacated_tally, if_neg fun both => other both.1, State.markCollected, modTally_tally, if_neg fun both => other both.1]

theorem closeAll_link (s : State) (m : LinkId) : s.closeAll.link m = s.link m := by
  rw [closeAll_only]
  rfl

/-- The link that asked for a close, and the others (R178, R191). -/
theorem closeAll_answer_link (s : State) (l m : LinkId) (i : Instr) (data : ResponseData) :
    ((s.asked l i).closeAll.answer l .ok data).link m =
      if m = l then (s.link l).served i.requestCode (BitVec.ofNat 8 i.requestSeq) .ok data else s.link m := by
  rw [State.answer, modLink_link, closeAll_link, closeAll_link, asked_link, answered_asked]
  split
  · rfl
  · exact asked_link_other i ‹_›

theorem closeAll_answer_only (s : State) (l : LinkId) (i : Instr) (data : ResponseData) :
    (s.asked l i).closeAll.answer l .ok data = { s with
      records := (s.asked l i).closeAll.records
      trackers := (s.asked l i).closeAll.trackers
      tallies := (s.asked l i).closeAll.tallies
      kept := (s.asked l i).closeAll.kept
      period := (s.asked l i).closeAll.period
      lastClose := (s.asked l i).closeAll.lastClose
      links := ((s.asked l i).closeAll.answer l .ok data).links
      mail := (s.asked l i).closeAll.mail } := by
  rw [closeAll_only]
  rfl

end

/-- Settles O45: a close goes through the records that are not VACANT one after the other, none changing what the close of
another does, and a COLLECT is the mark of one closed set with the step to VACANT where its record leaves. -/
theorem closedSetsAreMadeOnceAndCollectedOnce : Obligations.ClosedSetsAreMadeOnceAndCollectedOnce := by
  refine ⟨fun l seq s h => ⟨fun lowest rest waiting => ?_, fun collected => ?_⟩, fun l seq k s h known =>
    ⟨collect_collected h known, fun uncollected stays => ?_, fun uncollected leaves => ?_⟩⟩
  · exact closePeriod_refused h ((uncollectedTags_eq s).trans waiting)
  · have vacates := vacates_iff (s.asked l (.closePeriod l seq))
    have reply := (closeAll_answer_link s l l (.closePeriod l seq) (s.asked l (.closePeriod l seq)).closeData).trans
      ((if_pos rfl).trans (congrArg _ (closeData_eq _)))
    refine ⟨_, closePeriod_taken h ((uncollectedTags_eq s).trans collected), fun k known stays => ?_, fun k vacated => ?_,
      fun k vacant => closeAll_vacant (s.asked l _) k vacant, rfl, rfl,
      ⟨(s.asked l (.closePeriod l seq)).closeVacated, fun k => ?_, reply⟩, fun m other => ?_, ?_,
      closeAll_answer_only ..⟩
    · have occupied := Bool.eq_false_iff.mpr fun gone => stays ((vacates k).mp gone)
      obtain ⟨tally, record⟩ := closeAll_stays (s.asked l (.closePeriod l seq)) k known occupied
      rw [Tally.close, isZero_eq] at tally
      exact ⟨tally, record⟩
    · obtain ⟨tally, record⟩ := closeAll_vacates (s.asked l (.closePeriod l seq)) k ((vacates k).mpr vacated)
      exact ⟨congrArg DropRecord.state record, (congrArg DropRecord.departed record).trans rfl, tally⟩
    · exact (mem_closeVacated_iff _ k).trans (vacates k)
    · exact (closeAll_answer_link ..).trans (if_neg other)
    · exact (closeAll_mail (s.asked l (.closePeriod l seq))).filters (not_vacates_eq s)
  · exact collect_stays h known uncollected (Bool.eq_false_iff.mpr fun vacates => stays ((vacates_iff s k).mp vacates))
  · obtain ⟨record, tally, others⟩ := vacated_markCollected (s := s.asked l (.collect l seq k)) (record_tag_range known)
    refine ⟨_, collect_leaves h known uncollected ((vacates_iff s k).mpr leaves), record, tally, others, rfl, ?_⟩
    have only := (((markCollected_only (s.asked l (.collect l seq k)) k).trans (vacated_only _ k)).answer l .ok
      (s.collectData k .vacant))
    rwa [asked_answer] at only

end Sys2Proof.Machine

/-! ## The links are sound at every step (R186 to R188, R192, R195)

A link is written by its own transactions, by the answer to its request and by the latching of its flags; every other
operation leaves the three links as they are. -/

namespace Sys2Proof.Machine

/-! ### Operations that leave the links as they are -/

section
variable (s : State) (t : Tree)

@[simp] theorem observe_links (o : Observation) : (s.observe o).links = s.links := by
  obtain ⟨_, _, _, h⟩ := observe_shape s o
  rw [h]

@[simp] theorem keep_links (x : LaneEntry) : (s.keep t x).links = s.links := by
  obtain ⟨_, _, h⟩ := keep_shape s t x
  rw [h]

@[simp] theorem evalOver_links (k : Nat) : (s.evalOver k).links = s.links := by
  obtain ⟨_, _, h⟩ := evalOver_shape s k
  rw [h]

@[simp] theorem newRecord_links (k : Nat) (state : RecState) (serial : Serial) (profile : Nat) (byRequest : Bool) :
    (s.newRecord t k state serial profile byRequest).links = s.links := by
  obtain ⟨_, _, _, _, _, _, _, h⟩ := newRecord_shape s t k state serial profile byRequest
  rw [h]

@[simp] theorem offerDepart_links (k : Nat) (origin : Origin) : (s.offerDepart t k origin).links = s.links := by
  obtain ⟨_, _, _, h⟩ := offerDepart_shape s t k origin
  rw [h]

@[simp] theorem suspendFrom_links (k : Nat) (before : RecState) : (s.suspendFrom k before).links = s.links := by
  unfold State.suspendFrom
  split <;> simp

@[simp] theorem writeRogue_links (k : Nat) : (s.writeRogue t k).links = s.links := by
  obtain ⟨_, _, _, _, _, _, _, _, h⟩ := writeRogue_shape s t k
  rw [h]

@[simp] theorem admission_links (k delay : Nat) : (s.admission t k delay).links = s.links := by
  unfold State.admission
  split <;> simp

@[simp] theorem restoreAccepted_links (k : Nat) : (s.restoreAccepted t k).links = s.links := by
  unfold State.restoreAccepted
  split <;> simp

theorem State.OnlyJudges.links {s u : State} (h : s.OnlyJudges u) : u.links = s.links := by rw [h.rest]

theorem State.OnlyReceives.links {t : Tree} {s u : State} (h : s.OnlyReceives t u) : u.links = s.links := by rw [h.rest]

theorem State.EndsPlans.links {s u : State} (h : s.EndsPlans u) : u.links = s.links := by rw [h.rest]

/-! ### Arrivals, compiles and inputs -/

theorem slotOutcome_links (frame : FrameNo) (offset : Nat) (b : Burst) (h : Judged) (payload : List Byte) :
    (s.slotOutcome t frame offset b h payload).links = s.links := by
  unfold State.slotOutcome
  split
  · rfl
  · split
    · unfold State.validBurst
      dsimp only
      split <;> rfl
    · rfl

theorem rangingCapture_links (a : Awaited) (offset tag expected : Nat) (h : Judged) :
    (s.rangingCapture t a offset tag expected h).links = s.links := by
  unfold State.rangingCapture
  split
  · rfl
  · dsimp only
    split
    · rfl
    · show (ite _ _ _ : State).links = s.links
      split <;> rfl

theorem discoveryCapture_links (frame : FrameNo) (offset : Nat) (h : Judged) :
    (s.discoveryCapture t frame offset h).links = s.links := by
  unfold State.discoveryCapture
  dsimp only
  split
  · rfl
  · rfl
  · split <;> rfl

theorem resolve_links (frame : FrameNo) (offset : Nat) (h : Judged) (payload : List Byte) :
    (s.resolve t frame offset h payload).links = s.links := by
  unfold State.resolve
  split
  · rfl
  · split
    · split
      · rfl
      · exact slotOutcome_links (s.modAwaited t _ _) ..
    · split
      · rfl
      · rfl
      · exact rangingCapture_links ..
      · exact discoveryCapture_links ..

theorem capture_links (phase : Fin 8) : (s.capture t phase).links = s.links := by
  have cut (l : List Reception) : ∀ u : State, (l.foldl (fun u r => u.cutReception t r) u).links = u.links := by
    induction l with
    | nil => exact fun _ => rfl
    | cons r rest ih =>
      intro u
      exact (ih _).trans (State.OnlyReceives.cutReception r).links
  exact cut _ _

theorem packetArrival_links (k : Nat) (octets : List Byte) : (s.packetArrival k octets).links = s.links := by
  unfold State.packetArrival
  dsimp only
  split
  · rfl
  · split <;> rfl

theorem readNext_links : (s.readNext t).links = s.links := by
  unfold State.readNext
  split
  · rfl
  · split <;> rfl

theorem endCompile_links : (s.endCompile t).links = s.links := by
  unfold State.endCompile
  split
  · rfl
  · split <;> rfl

theorem pulse_links : (s.pulse t).links = s.links := by
  unfold State.pulse
  split <;> rfl

theorem filterInputs_links (light cutIn : Bool) : (s.filterInputs t light cutIn).links = s.links := by
  unfold State.filterInputs
  dsimp only
  split <;> rfl

/-! ### Hunts -/

@[simp] theorem darkEnd_links (frame : FrameNo) : (s.darkEnd t frame).links = s.links := by
  unfold State.darkEnd
  split
  · rfl
  · exact State.OnlyHunt.takeVerdict.links

theorem offerRelease_links : (s.offerRelease t).links = s.links :=
  (State.OfferKeeps.offer (x := ⟨.laserRelease 1 256, .huntRelease⟩) rfl).links

theorem cutAsserted_links : (s.cutAsserted t).links = s.links := by
  unfold State.cutAsserted
  split
  · rfl
  · split
    · rfl
    · dsimp only
      split
      · rfl
      · exact offerRelease_links (State.endHunt _ t .external) t
  · rfl

theorem takeCutReport_links {s u : State} {t : Tree} {asserted : Bool} (h : s.takeCutReport t asserted = some u) :
    u.links = s.links := by
  unfold State.takeCutReport at h
  split at h
  · split at h <;> cases h
    rfl
  · cases h

/-! ### Reports -/

@[simp] theorem takeLight_links (r : LightReport) : (s.takeLight r).links = s.links := by
  unfold State.takeLight
  split
  · exact (observe_links ..).trans (State.OnlyJudges.markStray _).links
  · exact (State.OnlyJudges.chargedEvent ..).links
  · exact observe_links ..
  · exact observe_links ..

@[simp] theorem takeClean_links (r : CleanReport) :
    (if s.isRecordOf r.tree r.tag then s.modRecord r.tag (·.clean) else s).links = s.links := by
  split <;> rfl

@[simp] theorem suspendByTracker_links (k : Nat) : (s.suspendByTracker k).links = s.links := by
  unfold State.suspendByTracker
  split
  · exact suspendFrom_links s k .active
  · rfl

@[simp] theorem takeChange_links (r : ChangeReport) : (s.takeChange r).links = s.links := by
  unfold State.takeChange
  split <;> rfl

theorem takeAllChanges_links : s.takeAllChanges.links = s.links := by
  have each (l : List ChangeReport) : ∀ u : State, (l.foldl (fun u r => u.takeChange r) u).links = u.links := by
    induction l with
    | nil => exact fun _ => rfl
    | cons r rest ih => exact fun u => (ih _).trans (takeChange_links u r)
  exact each _ _

@[simp] theorem takeValid_links (r : ValidReport) : (s.takeValid r).links = s.links := by
  unfold State.takeValid
  split <;> rfl

@[simp] theorem takeMiss_links (r : MissReport) : (s.takeMiss r).links = s.links := by
  unfold State.takeMiss
  split
  · dsimp only
    split <;> simp
  · rfl

@[simp] theorem takeUp_links (r : UpReport) : (s.takeUp r).links = s.links := by
  unfold State.takeUp
  split
  · exact evalOver_links (s.modLive r.tag _) r.tag
  · rfl

@[simp] theorem takeDown_links (r : DownReport) : (s.takeDown r).links = s.links := by
  unfold State.takeDown
  split <;> rfl

@[simp] theorem takeDispatch_links (r : DispatchReport) : (s.takeDispatch r).links = s.links := by
  unfold State.takeDispatch
  split <;> rfl

@[simp] theorem enterStranger_links (frame : FrameNo) (serial : Serial) (reason : StrangerReason) (delta : Int) :
    (s.enterStranger t frame serial reason delta).links = s.links := by
  unfold State.enterStranger
  dsimp only
  split
  · rfl
  · split <;> rfl

theorem takeDiscoveryMsg_links {s u : State} {t : Tree} {m : DiscoveryMsg} (h : s.takeDiscoveryMsg t = some (m, u)) :
    u.links = s.links := by
  unfold State.takeDiscoveryMsg at h
  obtain ⟨x, -, hx⟩ := Option.map_eq_some_iff.mp h
  cases hx
  rfl

theorem rangingFailed_links (k : Nat) : (s.rangingFailed t k).links = s.links := by
  unfold State.rangingFailed
  dsimp only
  split <;> simp

end

/-! ### What is written of a link keeps it sound -/

section
variable {x : Link}

/-- The request of a sound link answered (R192). -/
theorem Link.Sound.answered (h : x.Sound) (status : Status) (data : ResponseData) : (x.answered status data).Sound := by
  obtain ⟨busy, ready, off⟩ := h
  unfold Link.answered
  split
  · rename_i r request
    refine ⟨by simp, by simp, fun role => ?_⟩
    have waits : x.state = .busy := busy.mpr (by simp [request])
    simp [waits] at off
    exact absurd role off
  · exact ⟨busy, ready, off⟩

/-- A write taken as a request, on an active link (R188). -/
theorem Link.takeRequest_sound (active : x.role ≠ .off) (r : Request) : (x.takeRequest r).Sound :=
  ⟨by simp [Link.takeRequest], by simp [Link.takeRequest], fun off => absurd off active⟩

/-- No flag latched, and no event counted. -/
def Flags.Quiet (f : Flags) : Prop := ∀ y ∈ f.toList, y.latched = false ∧ y.count = 0

/-- Flags that are quiet where they were. -/
theorem Link.Sound.withFlags (h : x.Sound) {f : Flags} (quiet : x.flags.Quiet → f.Quiet) :
    ({ x with flags := f } : Link).Sound := by
  obtain ⟨busy, ready, off⟩ := h
  exact ⟨busy, ready, fun role => ⟨(off role).1, quiet (off role).2⟩⟩

theorem Flags.clear_quiet (f : Flags) : f.clear.Quiet := by
  simp [Flags.Quiet, Flags.clear, Flags.toList, Flag.clear]

/-- A mask latches no flag (R199). -/
theorem Flags.setMask_quiet {f g : Flags} {mask : MaskValues} (h : f.setMask mask = some g) (quiet : f.Quiet) :
    g.Quiet := by
  unfold Flags.setMask at h
  split at h <;> cases h
  simpa [Flags.Quiet, Flags.toList, Flag.setShown] using quiet

/-- An OFF link latches nothing (R195). -/
theorem Link.Sound.latch (h : x.Sound) (kind : FlagKind) : (x.latch kind).Sound := by
  by_cases off : x.role = .off
  · rwa [latch_off x kind off]
  · obtain ⟨busy, ready, -⟩ := h
    have active : x.active = true := (Link.active_iff x).mpr off
    rw [Link.latch, if_pos active]
    exact ⟨busy, ready, fun role => absurd role off⟩

theorem Link.reset_sound (role : Role) (straddling : Bool) : (Link.reset role straddling).Sound :=
  ⟨by simp [Link.reset], by simp [Link.reset], fun _ => by simp [Link.reset, Flags.reset, Flags.toList, Flag.reset]⟩

end

/-! ### Moves that keep the links sound -/

/-- From three links to three others, no sound link becomes unsound. -/
structure KeepsSound (x y : Vector Link 3) : Prop where
  sound : ∀ l : LinkId, x[l.val].Sound → y[l.val].Sound

/-- Each link that is sound in one state is sound in another. -/
def State.LinksTo (s u : State) : Prop := KeepsSound s.links u.links

section
variable {s u v : State} {t : Tree} {l : LinkId}

theorem State.LinksTo.of_link (h : ∀ l, (s.link l).Sound → (u.link l).Sound) : s.LinksTo u := ⟨h⟩

theorem State.LinksTo.sound (h : s.LinksTo u) : s.LinksInv → u.LinksInv := fun inv l => KeepsSound.sound h l (inv l)

theorem State.LinksTo.of_same (same : u.links = s.links) : s.LinksTo u := by
  rw [State.LinksTo, same]
  exact ⟨fun _ h => h⟩

theorem State.LinksTo.refl (s : State) : s.LinksTo s := .of_same rfl

theorem State.LinksTo.trans (h : s.LinksTo u) (h' : u.LinksTo v) : s.LinksTo v :=
  .of_link fun l own => KeepsSound.sound h' l (KeepsSound.sound h l own)

theorem State.LinksTo.then_same (h : s.LinksTo u) (same : v.links = u.links) : s.LinksTo v := h.trans (.of_same same)

theorem State.LinksTo.foldl {α : Type} {f : State → α → State} (each : ∀ (s : State) x, s.LinksTo (f s x))
    (l : List α) : ∀ s : State, s.LinksTo (l.foldl f s) := by
  induction l with
  | nil => exact .refl
  | cons x l ih => exact fun s => (each s x).trans (ih _)

theorem State.LinksTo.modLink {f : Link → Link} (keeps : (s.link l).Sound → (f (s.link l)).Sound) :
    s.LinksTo (s.modLink l f) := by
  refine .of_link fun m own => ?_
  rw [modLink_link]
  split
  · subst_vars
    exact keeps own
  · exact own

theorem State.LinksTo.answer (same : u.links = s.links) (l : LinkId) (status : Status) (data : ResponseData) :
    s.LinksTo (u.answer l status data) :=
  (State.LinksTo.of_same same).trans (.modLink fun h => h.answered status data)

/-! ### Offers and retries -/

/-- Of the directives accepted, that of a RESTORE alone writes a link: its request is answered (R63, R193). -/
theorem State.LinksTo.onAccept (x : LaneEntry) : s.LinksTo (s.onAccept t x) := by
  unfold State.onAccept
  split
  case h_4 => exact .answer (restoreAccepted_links ..) ..
  case h_1 | h_3 =>
    dsimp only
    split <;> exact .of_same rfl
  case h_5 =>
    dsimp only
    split <;> exact .of_same (by simp)
  all_goals exact .of_same (by simp [State.setHeld])

theorem State.LinksTo.acceptEntry (x : LaneEntry) : s.LinksTo (s.acceptEntry t x) :=
  State.LinksTo.onAccept (s := s.modEngine t (·.push x)) x

theorem State.LinksTo.offer (x : LaneEntry) : s.LinksTo (s.offer t x) := by
  rcases offer_cases s t x with ⟨_, h⟩ | ⟨_, h⟩ | ⟨_, h⟩ <;> rw [h]
  · exact .acceptEntry x
  · exact .of_same (keep_links ..)
  · exact .refl s

theorem State.LinksTo.takeStrike (r : StrikeReport) : s.LinksTo (s.takeStrike r) := by
  unfold State.takeStrike
  split
  · dsimp only
    split
    · exact State.LinksTo.offer (s := s.modRecord r.tag (·.strike)) _
    · exact .of_same rfl
  · exact .refl s

theorem State.LinksTo.keepSample (k : Nat) (delta : Int) : s.LinksTo (s.keepSample t k delta) := by
  have correct (w : State) (estimate : Int) : w.LinksTo (w.correct t k estimate) := by
    unfold State.correct
    dsimp only
    split
    · exact .offer _
    · exact .of_same (suspendByTracker_links ..)
  unfold State.keepSample
  dsimp only
  split
  · exact .of_same rfl
  · split
    · exact correct (s.modTracker k _) _
    · exact .of_same rfl

theorem State.LinksTo.takeSample (r : SampleReport) : s.LinksTo (s.takeSample r) := by
  unfold State.takeSample
  split
  · exact .refl s
  · split
    · exact .refl s
    · split
      · exact .refl s
      · split
        · exact .of_same (suspendByTracker_links (s.modTracker r.tag _) r.tag)
        · exact .keepSample ..

theorem State.LinksTo.retryOne (p : Producer) : s.LinksTo (s.retryOne t p) := by
  unfold State.retryOne
  split
  · exact .refl s
  · rename_i i _
    split
    · exact .refl s
    · dsimp only
      split
      · exact .of_same rfl
      · split
        · exact .of_same rfl
        · exact State.LinksTo.acceptEntry (s := { s with kept := s.kept.eraseIdx i }) _

theorem State.LinksTo.retry (p : Producer) : s.LinksTo (s.retry t p) := by
  unfold State.retry
  dsimp only
  refine .trans (.of_same ?_) (.foldl (fun _ _ => .retryOne p) _ _)
  split
  · exact takeAllChanges_links s
  · rfl

/-! ### Enrolment and ranging -/

theorem State.LinksTo.takeAgainst (k : Nat) (serial : Serial) (delay : Nat) :
    s.LinksTo (s.takeAgainst t k serial delay) := by
  refine State.LinksTo.then_same (u := s.produceOffer t k serial delay) ?_ rfl
  unfold State.produceOffer
  dsimp only
  split
  · exact .of_same rfl
  · exact State.LinksTo.offer (s := s.modRecord k fun r => { r with offer := .waiting }) _

theorem State.LinksTo.announceKnown (frame : FrameNo) (k : Nat) (serial : Serial) (delay : Nat) :
    s.LinksTo (s.announceKnown t frame k serial delay) := by
  have announced : s.LinksTo ((s.changeState k .announced false).takeAgainst t k serial delay) :=
    (State.LinksTo.of_same (changeState_links ..)).trans (.takeAgainst ..)
  unfold State.announceKnown
  split
  case h_1 => exact .of_same rfl
  case h_8 | h_9 => exact .refl s
  all_goals exact announced

theorem State.LinksTo.announceUnknown (frame : FrameNo) (serial : Serial) (delta : Int) (delay : Nat) :
    s.LinksTo (s.announceUnknown t frame serial delta delay) := by
  unfold State.announceUnknown
  split
  · split
    · exact (State.LinksTo.of_same (newRecord_links ..)).trans (.takeAgainst ..)
    · exact .of_same (by simp)
    · exact .of_same (by simp)
  · exact .of_same (by simp)
  · exact .of_same (by simp)

theorem State.LinksTo.announcement (frame : FrameNo) (offset : Nat) (serial : Serial) (stagger : Nat) :
    s.LinksTo (s.announcement t frame offset serial stagger) := by
  unfold State.announcement
  dsimp only
  split
  · exact .of_same (by simp)
  · split
    · exact .announceUnknown ..
    · split
      · exact .announceKnown ..
      · exact .of_same rfl

theorem State.LinksTo.takeDiscovery (frame : FrameNo) (body : DiscoveryBody) :
    s.LinksTo (s.takeDiscovery t frame body) := by
  unfold State.takeDiscovery
  split
  · exact State.LinksTo.announcement (s := s.modEnrol t _) ..
  all_goals exact .of_same rfl

theorem State.LinksTo.takeRanging (m : RangingMsg) : s.LinksTo (s.takeRanging t m) := by
  have failed : s.LinksTo (s.rangingFailed t m.rangeTag) := .of_same (rangingFailed_links ..)
  unfold State.takeRanging
  split
  · split
    · split
      · unfold State.rangingAccepted
        dsimp only
        split
        · exact State.LinksTo.offer (s := s.modEnrol t _) _
        · exact failed
      · exact failed
    · exact failed
    · exact .refl s
  · exact .refl s

/-! ### The frame boundary -/

/-- A change of a tree's state answers the links that waited for it (R193). -/
theorem State.LinksTo.changeTree (t : Tree) : s.LinksTo (s.changeTree t).1 := by
  by_cases disable : (s.engine t).disableWaiters = []
  · by_cases enable : (s.engine t).enableWaiters = []
    · rw [changeTree_of_none s t disable enable]
      split
      · exact .of_same (enterCut_links s t)
      · split
        · exact .of_same (leaveCut_links s t)
        · exact .refl s
    · rw [changeTree_of_enable s t disable enable]
      refine .of_link fun l own => ?_
      rw [enableTree_link]
      split
      · exact own.answered ..
      · exact own
  · rw [changeTree_of_disable s t disable]
    refine .of_link fun l own => ?_
    rw [disableTree_link]
    split
    · exact own.answered ..
    · split
      · exact own.answered ..
      · exact own

theorem State.LinksTo.boundary (s : State) : s.LinksTo s.boundary := by
  have start : s.atBoundary.links = s.links := by rw [atBoundary_rest]
  rw [boundary_eq]
  exact (State.LinksTo.of_same start).trans
    (.foldl (fun u i => (State.LinksTo.changeTree i).then_same (boundaryTree_links u i)) _ _)

/-! ### Transactions and requests -/

/-- A transaction that is taken is on an active link (R186). -/
theorem State.LinksTo.transaction {next : State} (h : (s.link l).role ≠ .off → s.LinksTo next) :
    s.LinksTo (s.transaction l next) := by
  unfold State.transaction
  split
  · exact .refl s
  · rename_i active
    split
    · exact .modLink fun own => own
    · exact h fun off => active ((Link.inactive_iff _).mpr off)

theorem State.LinksTo.write {r : Request} {serve : State → State} (served : ∀ u, State.LinksTo u (serve u)) :
    s.LinksTo (s.write l r serve) := by
  refine .transaction fun active => ?_
  split
  · exact .modLink fun own => own
  · exact (State.LinksTo.modLink fun _ => Link.takeRequest_sound active r).trans (served _)

theorem State.LinksTo.request {i : Instr} {cls : RequestClass} {serve : State → State}
    (served : ∀ u, State.LinksTo u (serve u)) : s.LinksTo (s.request l i cls serve) := by
  refine .write fun u => ?_
  unfold State.checkRole
  split
  · exact served u
  · exact .answer rfl ..

theorem State.LinksTo.withTree {tree : Nat} {serve : Tree → State} (served : ∀ t, s.LinksTo (serve t)) :
    s.LinksTo (s.withTree l tree serve) := by
  unfold State.withTree
  split
  · exact served _
  · exact .answer rfl ..

theorem State.LinksTo.withTag {tag : Nat} {serve : Nat → State} (served : ∀ k, s.LinksTo (serve k)) :
    s.LinksTo (s.withTag l tag serve) := by
  unfold State.withTag
  split
  · exact served _
  · exact .answer rfl ..

theorem State.LinksTo.needRecord {k : Nat} {serve : State} (served : s.LinksTo serve) :
    s.LinksTo (s.needRecord l k serve) := by
  unfold State.needRecord
  split
  · exact .answer rfl ..
  · exact served

theorem State.LinksTo.withProfile {n : Nat} {serve : State} (served : s.LinksTo serve) :
    s.LinksTo (s.withProfile l n serve) := by
  unfold State.withProfile
  split
  · exact served
  · exact .answer rfl ..

end

/-! ### What serves each request -/

section
variable (s : State) (l : LinkId) (t : Tree) (k : Nat)

theorem State.LinksTo.serveEnable : s.LinksTo (s.serveEnable l t) := by
  unfold State.serveEnable
  split
  · exact .of_same rfl
  · exact .answer rfl ..

theorem State.LinksTo.serveDisable : s.LinksTo (s.serveDisable l t) := by
  unfold State.serveDisable
  split
  · exact .answer rfl ..
  · exact .of_same rfl

theorem writeParams_links (p : TreeParams) : (s.writeParams t p).links = s.links := by
  unfold State.writeParams
  dsimp only
  split <;> rfl

theorem State.LinksTo.serveSetTree (v : TreeValues) : s.LinksTo (s.serveSetTree l t v) := by
  unfold State.serveSetTree
  dsimp only
  split
  · exact .answer rfl ..
  · split
    · exact .answer rfl ..
    · split
      · exact .answer rfl ..
      · exact .answer (writeParams_links ..) ..

theorem State.LinksTo.serveResume : s.LinksTo (s.serveResume l t) := by
  unfold State.serveResume
  dsimp only
  repeat' split
  all_goals exact .answer rfl ..

theorem State.LinksTo.serveProvision (serial : Serial) (n : Nat) : s.LinksTo (s.serveProvision l serial t n) := by
  unfold State.serveProvision
  split
  · exact .answer rfl ..
  · split
    · exact .answer rfl ..
    · exact .answer rfl ..
    · rename_i k _
      exact .answer (newRecord_links s t k .expected serial n true) ..

theorem writeProfileOf_links (n : Nat) : (s.writeProfileOf k n).links = s.links :=
  evalOver_links (s.modRecord k _) k

theorem State.LinksTo.serveAssign (n : Nat) : s.LinksTo (s.serveAssign l k n) := by
  have written (f : Load → Load) : ((s.modLoad (s.record k).treeNo f).writeProfileOf k n).links = s.links :=
    writeProfileOf_links ..
  unfold State.serveAssign
  dsimp only
  split
  · exact .answer rfl ..
  · split
    · split
      · exact .answer (written _) ..
      · exact .answer rfl ..
    · exact .answer (written _) ..
  · exact .answer (written _) ..
  all_goals exact .answer (writeProfileOf_links ..) ..

/-- A RESTORE that ends without acceptance is answered (R63). -/
theorem State.LinksTo.endRestore : s.LinksTo (s.endRestore k) :=
  .trans (u := s.dropKept (Kept.isRestore k)) (.of_same rfl) (.foldl (fun _ _ => .answer rfl ..) _ _)

theorem State.LinksTo.serveRetire : s.LinksTo (s.serveRetire l k) := by
  have withdrawn (new : RecState) : s.LinksTo (s.withdraw k new) := by
    unfold State.withdraw
    dsimp only
    split <;> exact (State.LinksTo.endRestore s k).then_same (by simp)
  unfold State.serveRetire
  split
  · exact .answer rfl ..
  · exact (withdrawn _).trans (.answer rfl ..)

theorem State.LinksTo.serveRerange : s.LinksTo (s.serveRerange l k) := by
  unfold State.serveRerange
  split
  · exact .answer (changeState_links ..) ..
  · exact .answer rfl ..

theorem State.LinksTo.serveRestore : s.LinksTo (s.serveRestore l k) := by
  unfold State.serveRestore
  dsimp only
  split
  · exact .answer rfl ..
  · exact .offer _

theorem State.LinksTo.serveSetProfile (n : Nat) (v : ProfileValues) : s.LinksTo (s.serveSetProfile l n v) := by
  have loads (p : Profile) : (s.reprofiled n p).links = s.links := by
    obtain ⟨_, _, h⟩ := reprofiled_shape s n p
    rw [h]
  unfold State.serveSetProfile
  split
  · exact .answer rfl ..
  · dsimp only
    split
    · exact .answer rfl ..
    · exact ((State.LinksTo.of_same (loads _)).trans (.foldl (fun _ _ => .of_same (evalOver_links ..)) _ _)).trans
        (.answer rfl ..)

theorem State.LinksTo.serveFind (serial : Serial) : s.LinksTo (s.serveFind l serial) := by
  unfold State.serveFind
  split <;> exact .answer rfl ..

theorem State.LinksTo.serveSetEnrolment (mode : Nat) : s.LinksTo (s.serveSetEnrolment l t mode) := by
  unfold State.serveSetEnrolment
  split <;> exact .answer rfl ..

theorem State.LinksTo.serveDismiss (index : Nat) : s.LinksTo (s.serveDismiss l index) := by
  unfold State.serveDismiss
  split
  · exact .answer rfl ..
  · split <;> exact .answer rfl ..

theorem State.LinksTo.serveReadObservation (index : Nat) : s.LinksTo (s.serveReadObservation l index) := by
  unfold State.serveReadObservation
  split
  · exact .answer rfl ..
  · split <;> exact .answer rfl ..

theorem State.LinksTo.serveClearObservation (index : Nat) : s.LinksTo (s.serveClearObservation l index) := by
  unfold State.serveClearObservation
  split
  · exact .answer rfl ..
  · split <;> exact .answer rfl ..

theorem State.LinksTo.serveHunt : s.LinksTo (s.serveHunt l t) := by
  unfold State.serveHunt
  split
  · exact .answer (startHunt_links s t) ..
  · exact .answer rfl ..

theorem State.LinksTo.serveAbort : s.LinksTo (s.serveAbort l t) := by
  unfold State.serveAbort
  dsimp only
  split
  · exact .answer rfl ..
  · exact .answer (offerRelease_links (s.endHunt t .aborted) t) ..

theorem State.LinksTo.serveAttention : s.LinksTo (s.serveAttention l) :=
  (State.LinksTo.modLink fun own => own.withFlags fun _ => Flags.clear_quiet _).trans (.answer rfl ..)

theorem State.LinksTo.serveMask (mask : MaskValues) : s.LinksTo (s.serveMask l mask) := by
  unfold State.serveMask
  split
  · rename_i masked
    exact (State.LinksTo.modLink fun own => own.withFlags (Flags.setMask_quiet masked)).trans (.answer rfl ..)
  · exact .answer rfl ..

theorem State.LinksTo.serveClose : s.LinksTo (s.serveClose l) := by
  have closed : s.LinksTo s.closeAll := .of_link fun m own => by rwa [closeAll_link]
  unfold State.serveClose
  split
  · exact closed.trans (.answer rfl ..)
  · exact .answer rfl ..

theorem collectSet_links : (s.collectSet k).links = s.links := by
  unfold State.collectSet
  dsimp only
  split <;> simp

theorem State.LinksTo.serveCollect : s.LinksTo (s.serveCollect l k) := by
  unfold State.serveCollect
  dsimp only
  split
  · exact .answer rfl ..
  · exact .answer (collectSet_links s k) ..

end

/-! ### Every command -/

/-- Every request, by what serves it. -/
theorem State.LinksTo.requestStep (s : State) (i : Instr) : s.LinksTo (requestStep i s) := by
  cases i with
  | enableTree => exact .request fun u => .withTree fun t => .serveEnable ..
  | disableTree => exact .request fun u => .withTree fun t => .serveDisable ..
  | setTree => exact .request fun u => .withTree fun t => .serveSetTree ..
  | resumeTree => exact .request fun u => .withTree fun t => .serveResume ..
  | setEnrolment => exact .request fun u => .withTree fun t => .serveSetEnrolment ..
  | hunt => exact .request fun u => .withTree fun t => .serveHunt ..
  | abortHunt => exact .request fun u => .withTree fun t => .serveAbort ..
  | readTree | readPlan | readEnrolment | readLight | readHunt =>
    exact .request fun u => .withTree fun t => .answer rfl ..
  | provision => exact .request fun u => .withTree fun t => .withProfile (.serveProvision ..)
  | assignProfile => exact .request fun u => .withTag fun k => .withProfile (.needRecord (.serveAssign ..))
  | retire => exact .request fun u => .withTag fun k => .needRecord (.serveRetire ..)
  | rerange => exact .request fun u => .withTag fun k => .needRecord (.serveRerange ..)
  | restore => exact .request fun u => .withTag fun k => .needRecord (.serveRestore ..)
  | collect => exact .request fun u => .withTag fun k => .needRecord (.serveCollect ..)
  | readRecord | readTracking | readLive => exact .request fun u => .withTag fun k => .needRecord (.answer rfl ..)
  | setProfile => exact .request fun u => .withProfile (.serveSetProfile ..)
  | readProfile => exact .request fun u => .withProfile (.answer rfl ..)
  | findSerial => exact .request fun u => .serveFind ..
  | dismissStranger => exact .request fun u => .serveDismiss ..
  | readObservation => exact .request fun u => .serveReadObservation ..
  | clearObservation => exact .request fun u => .serveClearObservation ..
  | closePeriod => exact .request fun u => .serveClose ..
  | readAttention => exact .request fun u => .serveAttention ..
  | setAttentionMask => exact .request fun u => .serveMask ..
  | clearOverflow | readStranger | readLogStatus | readPeriod | readLinks => exact .request fun u => .answer rfl ..
  | _ => exact .refl s

theorem State.LinksTo.writeOctets (s : State) (l : LinkId) (octets : List Byte) :
    s.LinksTo (s.writeOctets l octets) := by
  unfold State.writeOctets
  split
  · exact .transaction fun _ => .refl s
  · split
    · exact .requestStep ..
    · split
      · exact .write fun u => (State.LinksTo.answer rfl ..).then_same rfl
      · exact .write fun u => .answer rfl ..

theorem latchAll_link (s : State) (kind : FlagKind) (l : LinkId) :
    (s.latchAll kind).link l = (s.link l).latch kind := by simp [State.latchAll, State.link]

theorem State.LinksTo.takeReport (s : State) (r : LinkReport) : s.LinksTo (s.takeReport r) := by
  unfold State.takeReport
  split
  · exact .refl s
  · refine .of_link fun l own => ?_
    rw [latchAll_link]
    exact own.latch _

theorem State.LinksTo.of_live {s next u : State} (e : live s next = .next u) (h : s.LinksTo next) : s.LinksTo u := by
  rcases live_cases e with rfl | rfl
  · exact .refl u
  · exact h

theorem resetWith_link (roles : Vector Role 3) (selected : Vector Bool 3) (freeCount : Nat) (pending : List Instr)
    (l : LinkId) : (State.resetWith roles selected freeCount pending).link l = .reset roles[l.val] selected[l.val] := by
  fin_cases l <;> rfl

/-- A reset leaves every link sound, whatever its role. -/
theorem State.LinksTo.resetWith (s : State) (roles : Vector Role 3) (selected : Vector Bool 3) (freeCount : Nat)
    (pending : List Instr) : s.LinksTo (State.resetWith roles selected freeCount pending) :=
  .of_link fun l _ => resetWith_link roles selected freeCount pending l ▸ Link.reset_sound _ _

/-- Every command that is no request. -/
theorem State.LinksTo.of_exec {s u : State} (i : Instr) (noRequest : i.requestSource = none) (e : exec i s = .next u) :
    s.LinksTo u := by
  cases i with
  | powerOnReset | resetN =>
    cases e
    exact .resetWith s (s.links.map (·.role)) (Vector.replicate 3 false) s.freeCount s.pending
  | release straps selected =>
    cases e
    split
    · exact .resetWith s (straps.map Straps.role) selected s.freeCount s.pending
    · exact .refl s
  | frameBoundary => exact .of_live e (.boundary s)
  | compileReadRecord => exact .of_live e (.of_same (readNext_links ..))
  | compileEnd => exact .of_live e (.of_same (endCompile_links ..))
  | offerDelivered | departureClears | settleMarkSettled => exact .of_live e (.of_same rfl)
  | rxResetPulse t offset => exact .of_live e (.of_same (pulse_links (s.advance offset) t))
  | inputSample t sample light cutIn =>
    exact .of_live e ((State.LinksTo.of_same (filterInputs_links (s.advance (32 * sample)) t light cutIn)).then_same
      State.OnlyJudges.deliverLight.links)
  | cutInAssertion =>
    refine .of_live e ?_
    split
    · rename_i taken
      exact .of_same ((cutAsserted_links ..).trans (takeCutReport_links taken))
    · exact .refl s
  | cutInDeassertion t =>
    refine .of_live e ?_
    cases taken : s.takeCutReport t false with
    | none => exact .refl s
    | some v => exact .of_same (takeCutReport_links taken)
  | autoHuntTrigger =>
    refine .of_live e ?_
    split
    · exact .refl s
    · dsimp only
      split
      · exact .of_same (startHunt_links (s.modMail _) _)
      · exact .of_same rfl
  | lockCapture t offset =>
    refine .of_live e ?_
    split
    · exact .of_same rfl
    · exact .of_same (capture_links (s.advance offset) ..)
  | headerReceipt t =>
    refine .of_live e ?_
    split
    · exact .refl s
    · exact .of_same (resolve_links (s.modEngine t _) ..)
  | announcePayloadEnd =>
    refine .of_live e ?_
    split
    · exact .refl s
    · exact .of_same rfl
  | planLeavesList t offset => exact .of_live e (.of_same (State.EndsPlans.leavePlan (s.advance offset) t).links)
  | validBurstReport | missReport | stateChangeReport | lightWatchReport | cleanRun | darkWindowEnd
  | tallyUpOctets | tallyDownOctets | tallyDispatch =>
    refine .of_live e ?_
    split
    · exact .refl s
    · exact .of_same (by simp)
  | delaySample =>
    refine .of_live e ?_
    split
    · exact .refl s
    · exact State.LinksTo.takeSample (s := s.modMail _) _
  | strike =>
    refine .of_live e ?_
    split
    · exact .refl s
    · exact State.LinksTo.takeStrike (s := s.modMail _) _
  | discoveryReport =>
    refine .of_live e ?_
    split
    · exact .refl s
    · rename_i taken
      split
      · exact .refl s
      · exact (State.LinksTo.of_same (takeDiscoveryMsg_links taken)).trans (.takeDiscovery ..)
  | discoveryWindowEnd =>
    refine .of_live e ?_
    split
    · exact .refl s
    · rename_i taken
      split
      · exact (State.LinksTo.of_same (takeDiscoveryMsg_links taken)).then_same rfl
      · exact .refl s
  | rangingAttemptReport =>
    refine .of_live e ?_
    split
    · exact .refl s
    · exact State.LinksTo.takeRanging (s := s.modMail _) _
  | directiveRetry => exact .of_live e (.retry _)
  | downstreamPacketArrival => exact .of_live e (.of_same (packetArrival_links ..))
  | attentionLatch =>
    refine .of_live e ?_
    split
    · exact .refl s
    · exact .takeReport (s.modMail _) _
  | writeDiscarded =>
    refine .of_live e (.transaction fun _ => ?_)
    split
    · exact .modLink fun own => own
    · exact .refl s
  | readTransaction => exact .of_live e (.transaction fun _ => .modLink fun own => own)
  | disregardedTransaction =>
    refine .of_live e ?_
    split
    · exact .refl s
    · exact .transaction fun _ => .modLink fun own => own
  | malformedRequest => exact .of_live e (.writeOctets ..)
  | _ => cases noRequest

/-- Settles O5: a link is written by its transactions, by answers and by latching alone, and each leaves it sound. -/
theorem everyStepKeepsTheLinksSound : Obligations.EveryStepKeepsTheLinksSound := by
  intro s u sound e
  have moved : s.LinksTo u := by
    unfold step at e
    split at e
    · cases e
      exact .refl _
    · rename_i c rest _
      have queue : s.LinksTo { s with pending := rest } := .of_same rfl
      by_cases request : c.requestSource = none
      · exact queue.trans (.of_exec c request e)
      · rw [exec_eq_requestStep c _ request] at e
        exact queue.trans (.of_live e (.requestStep ..))
  exact moved.sound sound

end Sys2Proof.Machine

/-! ## Requests and written octets (R186, R188 to R191, R194, R201, R205, R206; log entries 7, 20, 29, 37) -/

namespace Sys2Proof.Machine

/-! ### What serves a request, where a number it names is refused -/

/-- The tree and the tag that a request names are in range (R191). -/
def NamesInRange (i : Instr) : Prop :=
  (∀ n, i.namedTree = some n → n < 4) ∧ ∀ k, i.namedTag = some k → 1 ≤ k ∧ k ≤ 256

/-- What serves a request refuses a tree or a tag out of range, then a profile above 15, then a VACANT tag (R191,
spec/03 3.7; log entry 29). -/
structure RefusesNumbers (i : Instr) (l : LinkId) (serve : State → State) : Prop where
  tree : ∀ n u, i.namedTree = some n → 4 ≤ n → serve u = u.answer l .badRequest .none
  tag : ∀ k u, i.namedTag = some k → ¬ (1 ≤ k ∧ k ≤ 256) → serve u = u.answer l .badRequest .none
  profile : ∀ p u, i.namedProfile = some p → NamesInRange i → 16 ≤ p → serve u = u.answer l .badRequest .none
  vacant : ∀ k u, i.namedTag = some k → 1 ≤ k ∧ k ≤ 256 → (∀ p, i.namedProfile = some p → p < 16) →
    (u.record k).state = .vacant → serve u = u.answer l .noRecord .none

theorem withProfile_lt (s : State) (l : LinkId) {p : Nat} (serve : State) (h : p < 16) :
    s.withProfile l p serve = serve := if_pos h

theorem withProfile_above (s : State) (l : LinkId) {p : Nat} (serve : State) (h : 16 ≤ p) :
    s.withProfile l p serve = s.answer l .badRequest .none := if_neg (not_lt.mpr h)

theorem needRecord_vacant (s : State) (l : LinkId) {k : Nat} (serve : State) (h : (s.record k).state = .vacant) :
    s.needRecord l k serve = s.answer l .noRecord .none := if_pos h

section
variable {i : Instr} {l : LinkId} {n k p : Nat}

theorem RefusesNumbers.of_none {serve : State → State} (tree : i.namedTree = none) (tag : i.namedTag = none)
    (profile : i.namedProfile = none) : RefusesNumbers i l serve := by
  constructor <;> simp [tree, tag, profile]

theorem RefusesNumbers.of_tree {f : State → Tree → State} (tree : i.namedTree = some n) (tag : i.namedTag = none)
    (profile : i.namedProfile = none) : RefusesNumbers i l fun u => u.withTree l n (f u) where
  tree m u named above := by
    obtain rfl : n = m := by simpa [tree] using named
    exact withTree_above u l n _ above
  tag := by simp [tag]
  profile := by simp [profile]
  vacant := by simp [tag]

theorem RefusesNumbers.of_tag {f : State → Nat → State} (tree : i.namedTree = none) (tag : i.namedTag = some k)
    (profile : i.namedProfile = none) :
    RefusesNumbers i l fun u => u.withTag l k fun j => u.needRecord l j (f u j) where
  tree := by simp [tree]
  tag j u named outside := by
    obtain rfl : k = j := by simpa [tag] using named
    exact withTag_outside u l k _ outside
  profile := by simp [profile]
  vacant j u named range _ vacant := by
    obtain rfl : k = j := by simpa [tag] using named
    exact (withTag_mem u l k _ range).trans (needRecord_vacant u l _ vacant)

theorem RefusesNumbers.of_profile {f : State → State} (tree : i.namedTree = none) (tag : i.namedTag = none)
    (profile : i.namedProfile = some p) : RefusesNumbers i l fun u => u.withProfile l p (f u) where
  tree := by simp [tree]
  tag := by simp [tag]
  profile q u named _ above := by
    obtain rfl : p = q := by simpa [profile] using named
    exact withProfile_above u l _ above
  vacant := by simp [tag]

/-- PROVISION looks at its tree, then at its profile (R57; log entry 29). -/
theorem RefusesNumbers.of_tree_profile {f : State → Tree → State} (tree : i.namedTree = some n)
    (tag : i.namedTag = none) (profile : i.namedProfile = some p) :
    RefusesNumbers i l fun u => u.withTree l n fun t => u.withProfile l p (f u t) where
  tree m u named above := by
    obtain rfl : n = m := by simpa [tree] using named
    exact withTree_above u l n _ above
  tag := by simp [tag]
  profile q u named range above := by
    obtain rfl : p = q := by simpa [profile] using named
    exact (withTree_lt u l n _ (range.1 n tree)).trans (withProfile_above u l _ above)
  vacant := by simp [tag]

/-- ASSIGN_PROFILE looks at its tag, then at its profile, then for a record (R59; log entry 29). -/
theorem RefusesNumbers.of_tag_profile {f : State → Nat → State} (tree : i.namedTree = none) (tag : i.namedTag = some k)
    (profile : i.namedProfile = some p) :
    RefusesNumbers i l fun u => u.withTag l k fun j => u.withProfile l p (u.needRecord l j (f u j)) where
  tree := by simp [tree]
  tag j u named outside := by
    obtain rfl : k = j := by simpa [tag] using named
    exact withTag_outside u l k _ outside
  profile q u named range above := by
    obtain rfl : p = q := by simpa [profile] using named
    exact (withTag_mem u l k _ (range.2 k tag)).trans (withProfile_above u l _ above)
  vacant j u named range small vacant := by
    obtain rfl : k = j := by simpa [tag] using named
    exact ((withTag_mem u l k _ range).trans (withProfile_lt u l _ (small p profile))).trans
      (needRecord_vacant u l _ vacant)

end

/-- Each request is written, checked for its class and served, and what serves it refuses the numbers it names (R188,
R191). -/
theorem requestStep_eq_request {i : Instr} {l : LinkId} {seq : Nat} (source : i.requestSource = some (l, seq)) :
    ∃ cls serve, i.requestClass = some cls ∧ RefusesNumbers i l serve ∧
      ∀ s, requestStep i s = s.request l i cls serve := by
  cases i with
  | enableTree | disableTree | setTree | readTree | readPlan | setEnrolment | readEnrolment | readLight | hunt
  | abortHunt | resumeTree | readHunt =>
    cases source
    simp only [requestStep]
    exact ⟨_, _, rfl, .of_tree rfl rfl rfl, fun _ => rfl⟩
  | retire | rerange | restore | readRecord | readTracking | collect | readLive =>
    cases source
    simp only [requestStep]
    exact ⟨_, _, rfl, .of_tag rfl rfl rfl, fun _ => rfl⟩
  | setProfile | readProfile =>
    cases source
    simp only [requestStep]
    exact ⟨_, _, rfl, .of_profile rfl rfl rfl, fun _ => rfl⟩
  | provision =>
    cases source
    simp only [requestStep]
    exact ⟨_, _, rfl, .of_tree_profile rfl rfl rfl, fun _ => rfl⟩
  | assignProfile =>
    cases source
    simp only [requestStep]
    exact ⟨_, _, rfl, .of_tag_profile rfl rfl rfl, fun _ => rfl⟩
  | findSerial | dismissStranger | readStranger | readLogStatus | readObservation | clearObservation | clearOverflow
  | closePeriod | readPeriod | readAttention | setAttentionMask | readLinks =>
    cases source
    simp only [requestStep]
    exact ⟨_, _, rfl, .of_none rfl rfl rfl, fun _ => rfl⟩
  | _ => cases source

section
variable {i : Instr} {l : LinkId} {seq : Nat} {cls : RequestClass} {s : State}

theorem requestSeq_of_source (source : i.requestSource = some (l, seq)) : i.requestSeq = seq := by
  simp [Instr.requestSeq, source]

theorem exec_request_eq_live (source : i.requestSource = some (l, seq)) (s : State) :
    exec i s = live s (requestStep i s) := exec_eq_requestStep i s (by simp [source])

/-- A request that its link takes and its role allows runs as what serves it. -/
theorem exec_request_serves (source : i.requestSource = some (l, seq)) (named : i.requestClass = some cls)
    (h : s.Serves l cls) : ∃ serve, RefusesNumbers i l serve ∧ exec i s = .next (serve (s.asked l i)) := by
  obtain ⟨cls', serve, named', refuses, step⟩ := requestStep_eq_request source
  obtain rfl : cls = cls' := by simpa [named] using named'
  exact ⟨serve, refuses, by rw [exec_request_eq_live source, live_out _ _ h.1.1, step, request_serves _ _ _ _ _ h]⟩

end

/-- Settles O10: the role is looked at before the request is served. -/
theorem aRequestOfAnotherRoleIsDenied : Obligations.ARequestOfAnotherRoleIsDenied := by
  intro i l seq cls s source named takes denied
  obtain ⟨cls', serve, named', -, step⟩ := requestStep_eq_request source
  obtain rfl : cls = cls' := by simpa [named] using named'
  rw [exec_request_eq_live source, live_out _ _ takes.1, step, request_denied _ _ _ _ _ takes denied,
    requestSeq_of_source source]

/-- Settles O12: each request looks at its tree or tag, then at its profile, then for a record. -/
theorem badNumbersAndVacantTagsAreRefused : Obligations.BadNumbersAndVacantTagsAreRefused := by
  constructor
  · intro i l seq cls s source named h bad
    obtain ⟨serve, refuses, run⟩ := exec_request_serves source named h
    have refused : serve (s.asked l i) = (s.asked l i).answer l .badRequest .none := by
      rcases bad with ⟨n, tree, above⟩ | ⟨k, tag, outside⟩ | ⟨trees, tags, p, profile, above⟩
      · exact refuses.tree n _ tree above
      · exact refuses.tag k _ tag (by omega)
      · exact refuses.profile p _ profile ⟨trees, tags⟩ above
    rw [run, refused, asked_answer, requestSeq_of_source source]
  · intro i l seq k cls s source named h tag low high small vacant
    obtain ⟨serve, refuses, run⟩ := exec_request_serves source named h
    rw [run, refuses.vacant k (s.asked l i) tag ⟨low, high⟩ small vacant, asked_answer, requestSeq_of_source source]

/-! ### The request that octets spell -/

/-- The request that a code and its parameters spell is one of the link and the sequence number they come
with (R205). -/
theorem parseParameters_source {l : LinkId} {code seq : Nat} {params : List Byte} {i : Instr}
    (h : parseParameters l code seq params = some i) : i.requestSource = some (l, seq) := by
  match code, h with
  | 18, h | 21, h | 24, h | 29, h | 32, h | 33, h | 35, h =>
    rcases params with _ | _ <;> cases h
    rfl
  | 1, h | 2, h | 4, h | 5, h | 14, h | 16, h
  | 17, h | 20, h | 22, h | 23, h | 25, h | 26, h | 27, h | 28, h =>
    rcases params with _ | ⟨_, _ | _⟩ <;> cases h
    rfl
  | 8, h | 9, h | 10, h | 12, h | 15, h | 19, h | 30, h | 31, h =>
    rcases params with _ | ⟨_, _ | ⟨_, _ | _⟩⟩ <;> cases h
    rfl
  | 7, h =>
    rcases params with _ | ⟨_, _ | ⟨_, _ | ⟨_, _ | _⟩⟩⟩ <;> cases h
    rfl
  | 34, h =>
    rcases params with _ | ⟨_, _ | ⟨_, _ | ⟨_, _ | ⟨_, _ | ⟨_, _ | _⟩⟩⟩⟩⟩ <;> cases h
    rfl
  | 13, h =>
    rcases params with _ | ⟨_, _ | ⟨_, _ | ⟨_, _ | ⟨_, _ | ⟨_, _ | ⟨_, _ | ⟨_, _ | ⟨_, _ | _⟩⟩⟩⟩⟩⟩⟩⟩ <;> cases h
    rfl
  | 6, h =>
    rcases params with
      _ | ⟨_, _ | ⟨_, _ | ⟨_, _ | ⟨_, _ | ⟨_, _ | ⟨_, _ | ⟨_, _ | ⟨_, _ | ⟨_, _ | ⟨_, _ | _⟩⟩⟩⟩⟩⟩⟩⟩⟩⟩ <;> cases h
    rfl
  | 3, h =>
    rcases params with _ | ⟨_, _ | ⟨_, _ | _⟩⟩
    · cases h
    · cases h
    · cases h
    · obtain ⟨_, -, rfl⟩ := Option.map_eq_some_iff.mp h
      rfl
  | 11, h =>
    rcases params with _ | ⟨_, _ | _⟩
    · cases h
    · cases h
    · obtain ⟨_, -, rfl⟩ := Option.map_eq_some_iff.mp h
      rfl
  | 0, h | n + 36, h => cases h

theorem parseRequest_source {l : LinkId} {octets : List Byte} {i : Instr} (h : parseRequest l octets = some i) :
    ∃ seq, i.requestSource = some (l, seq) := by
  unfold parseRequest at h
  split at h
  · split at h
    · exact ⟨_, parseParameters_source h⟩
    · cases h
  · cases h

/-- Octets that spell a request are served as it (R188). -/
theorem writeOctets_of_spelt {s : State} {l : LinkId} {octets : List Byte} {i : Instr}
    (spelt : parseRequest l octets = some i) : s.writeOctets l octets = requestStep i s := by
  cases octets with
  | nil => cases spelt
  | cons o rest => simp [State.writeOctets, spelt]

/-- A write transaction that carries an octet is a write, whatever it carries (R188). -/
theorem writeOctets_cons_eq_write (s : State) (l : LinkId) (o : Byte) (rest : List Byte) :
    ∃ r serve, s.writeOctets l (o :: rest) = s.write l r serve := by
  cases spelt : parseRequest l (o :: rest) with
  | some i =>
    obtain ⟨seq, source⟩ := parseRequest_source spelt
    obtain ⟨cls, serve, -, -, step⟩ := requestStep_eq_request source
    exact ⟨_, _, (writeOctets_of_spelt spelt).trans (step s)⟩
  | none =>
    cases rest with
    | nil => exact ⟨_, _, by simp only [State.writeOctets, spelt]; rfl⟩
    | cons seq rest => exact ⟨_, _, by simp only [State.writeOctets, spelt]; rfl⟩

theorem writeOctets_eq_transaction (s : State) (l : LinkId) (octets : List Byte) :
    ∃ next, s.writeOctets l octets = s.transaction l next := by
  cases octets with
  | nil => exact ⟨s, rfl⟩
  | cons o rest =>
    obtain ⟨r, serve, e⟩ := writeOctets_cons_eq_write s l o rest
    exact ⟨_, e⟩

/-! ### Links that take nothing -/

/-- The transactions of a link: its requests and the four that carry none (R205). -/
theorem transactionLink_cases {i : Instr} {l : LinkId} (link : i.transactionLink = some l) :
    (∃ seq, i.requestSource = some (l, seq)) ∨ i = .writeDiscarded l ∨ (∃ n, i = .readTransaction l n) ∨
      (∃ c, i = .disregardedTransaction l c) ∨ ∃ octets, i = .malformedRequest l octets := by
  unfold Instr.transactionLink at link
  split at link
  case h_1 => exact .inr (.inl (by cases link; rfl))
  case h_2 => exact .inr (.inr (.inl (by cases link; exact ⟨_, rfl⟩)))
  case h_3 => exact .inr (.inr (.inr (.inl (by cases link; exact ⟨_, rfl⟩))))
  case h_4 => exact .inr (.inr (.inr (.inr (by cases link; exact ⟨_, rfl⟩))))
  case h_5 =>
    obtain ⟨⟨m, seq⟩, source, rfl⟩ := Option.map_eq_some_iff.mp link
    exact .inl ⟨seq, source⟩

/-- Each transaction on a link runs as one, but for a stray one whose command octet is that of a write or a read
(R205). -/
theorem exec_eq_transaction {i : Instr} {l : LinkId} {s : State} (link : i.transactionLink = some l)
    (out : s.OutOfReset) (stray : ∀ c, i = .disregardedTransaction l c → c ≠ 16 ∧ c ≠ 32) :
    ∃ next, exec i s = .next (s.transaction l next) := by
  rcases transactionLink_cases link with ⟨seq, source⟩ | rfl | ⟨n, rfl⟩ | ⟨c, rfl⟩ | ⟨octets, rfl⟩
  · obtain ⟨cls, serve, -, -, step⟩ := requestStep_eq_request source
    exact ⟨_, by rw [exec_request_eq_live source, live_out _ _ out, step]; rfl⟩
  · exact ⟨_, live_out _ _ out⟩
  · exact ⟨_, live_out _ _ out⟩
  · exact ⟨_, (live_out _ _ out).trans (congrArg _ (if_neg (not_or.mpr (stray c rfl))))⟩
  · obtain ⟨next, e⟩ := writeOctets_eq_transaction s l octets
    exact ⟨next, (live_out _ _ out).trans (congrArg _ e)⟩

/-- Settles O11: every write reaches its link through one check of its state, and every transaction through one check of
its link. -/
theorem busyOffAndStraddlingLinksTakeNothing : Obligations.BusyOffAndStraddlingLinksTakeNothing := by
  refine ⟨fun i l s out hears busy write => ?_, fun l s out hears idle => ?_, fun i l s link out => ⟨fun off => ?_, ?_⟩⟩
  · rcases write with ⟨seq, source⟩ | rfl | ⟨o, rest, rfl⟩
    · obtain ⟨cls, serve, -, -, step⟩ := requestStep_eq_request source
      rw [exec_request_eq_live source, live_out _ _ out, step, request_busy _ _ _ _ _ hears busy]
      rfl
    · refine (live_out _ _ out).trans (congrArg _ ?_)
      rw [transaction_hears _ _ _ hears, if_pos busy]
      rfl
    · obtain ⟨r, serve, e⟩ := writeOctets_cons_eq_write s l o rest
      exact (live_out _ _ out).trans (congrArg _ (e.trans (write_busy _ _ _ _ hears busy)))
  · refine (live_out _ _ out).trans (congrArg _ ?_)
    rw [transaction_hears _ _ _ hears, if_neg idle]
  · by_cases stray : ∃ c, i = .disregardedTransaction l c ∧ (c = 16 ∨ c = 32)
    · obtain ⟨c, rfl, command⟩ := stray
      exact (live_out _ _ out).trans (congrArg _ (if_pos command))
    · obtain ⟨next, e⟩ := exec_eq_transaction link out fun c own => not_or.mp fun command => stray ⟨c, own, command⟩
      rw [e, transaction_off _ _ _ off]
  · intro active straddles stray
    obtain ⟨next, e⟩ := exec_eq_transaction link out stray
    rw [e, transaction_straddling _ _ _ active straddles]

/-! ### Request frames parse back (R205) -/

theorem natOctets_length (width n : Nat) : (natOctets width n).length = width := by
  induction width with
  | zero => rfl
  | succ width ih => simp [natOctets, ih]

/-- Octets are read as the number below their range (R202). -/
theorem foldl_natOctets (width n : Nat) : ∀ acc : Nat,
    (natOctets width n).foldl (fun acc o => acc * 256 + o.toNat) acc = acc * 256 ^ width + n % 256 ^ width := by
  induction width with
  | zero => exact fun acc => by simp [natOctets, Nat.mod_one]
  | succ width ih =>
    intro acc
    have parts : n % 256 ^ (width + 1) = n % 256 ^ width + 256 ^ width * (n / 256 ^ width % 256) := Nat.mod_mul
    rw [natOctets, List.foldl_cons, ih, BitVec.toNat_ofNat, parts, show 2 ^ 8 = 256 from rfl]
    generalize n / 256 ^ width % 256 = high
    ring

/-- A number that fits its octets is read back from them (R202). -/
theorem octetsNat_natOctets {width n : Nat} (fits : fitsOctets width n = true) : octetsNat (natOctets width n) = n := by
  have below : n < 256 ^ width := of_decide_eq_true fits
  simp [octetsNat, foldl_natOctets, Nat.mod_eq_of_lt below]

theorem natOctets_one {n : Nat} (fits : fitsOctets 1 n = true) : ∃ a : Byte, natOctets 1 n = [a] ∧ n = a.toNat :=
  ⟨_, rfl, by simpa [octetsNat, natOctets] using (octetsNat_natOctets fits).symm⟩

theorem natOctets_two {n : Nat} (fits : fitsOctets 2 n = true) :
    ∃ a b : Byte, natOctets 2 n = [a, b] ∧ n = octetsNat [a, b] := ⟨_, _, rfl, (octetsNat_natOctets fits).symm⟩

/-- The octets of a serial (R202). -/
theorem natOctets_serial (serial : Serial) : ∃ a b c d e f g h : Byte,
    natOctets 8 serial.toNat = [a, b, c, d, e, f, g, h] ∧
      serial = BitVec.ofNat 64 (octetsNat [a, b, c, d, e, f, g, h]) := by
  have fits : fitsOctets 8 serial.toNat = true := decide_eq_true serial.isLt
  have same : serial = BitVec.ofNat 64 serial.toNat := by simp
  exact ⟨_, _, _, _, _, _, _, _, rfl, same.trans (congrArg _ (octetsNat_natOctets fits).symm)⟩

theorem selectionOf_lt (values : List (Option Nat)) : selectionOf values < 2 ^ values.length := by
  induction values with
  | nil => exact Nat.one_pos
  | cons v rest ih =>
    rw [selectionOf, List.length_cons, pow_succ]
    split <;> omega

theorem selectedOctets_cons (width : Nat) (v : Option Nat) (rest : List (Option Nat)) :
    selectedOctets width (v :: rest) = (v.map (natOctets width)).getD [] ++ selectedOctets width rest := rfl

theorem selectedOctets_length_le (width : Nat) (values : List (Option Nat)) :
    (selectedOctets width values).length ≤ values.length * width := by
  induction values with
  | nil => exact Nat.zero_le _
  | cons v rest ih =>
    rw [selectedOctets_cons, List.length_append, List.length_cons, Nat.succ_mul]
    cases v with
    | none => simpa using ih.trans (Nat.le_add_right ..)
    | some n => simpa [natOctets_length, Nat.add_comm] using ih

/-- Named values are read back by their selection (R205). -/
theorem readSelected_selectedOctets (width : Nat) (values : List (Option Nat))
    (fits : values.all (optFits width) = true) :
    readSelected width values.length (selectionOf values) (selectedOctets width values) = some values := by
  induction values with
  | nil => rfl
  | cons v rest ih =>
    rw [List.all_cons, Bool.and_eq_true] at fits
    obtain ⟨own, others⟩ := fits
    rw [List.length_cons, readSelected, selectedOctets_cons, selectionOf]
    cases v with
    | none =>
      simp [ih others]
    | some n =>
      have odd : (1 + 2 * selectionOf rest) % 2 = 1 ∧ (1 + 2 * selectionOf rest) / 2 = selectionOf rest := by omega
      have read : octetsNat (natOctets width n) = n := octetsNat_natOctets own
      have length := natOctets_length width n
      simp [odd, ih others, length, read]

/-- A frame is parsed as its code, its sequence number and its parameters (R205). -/
theorem parseRequest_frame {l : LinkId} {code seq : Nat} {params : List Byte} (codeFits : fitsOctets 1 code = true)
    (seqFits : fitsOctets 1 seq = true) (length : fitsOctets 2 params.length = true) :
    parseRequest l (natOctets 1 code ++ (natOctets 1 seq ++ (natOctets 2 params.length ++ params))) =
      parseParameters l code seq params := by
  obtain ⟨c, codeOctets, rfl⟩ := natOctets_one codeFits
  obtain ⟨q, seqOctets, rfl⟩ := natOctets_one seqFits
  obtain ⟨l1, l0, lengthOctets, count⟩ := natOctets_two length
  rw [codeOctets, seqOctets, lengthOctets]
  exact if_pos count

/-- The parameters of a well-formed request, parsed by its code, give it back (R205). -/
theorem parseParameters_requestParameters {i : Instr} {l : LinkId} {seq : Nat} (wf : i.wellFormed = true)
    (source : i.requestSource = some (l, seq)) :
    fitsOctets 2 i.requestParameters.length = true ∧
      parseParameters l i.requestCode seq i.requestParameters = some i := by
  cases i with
  | enableTree _ _ n | disableTree _ _ n | readTree _ _ n | readPlan _ _ n | readEnrolment _ _ n | readLight _ _ n
  | hunt _ _ n | abortHunt _ _ n | resumeTree _ _ n | readHunt _ _ n | dismissStranger _ _ n | readObservation _ _ n
  | clearObservation _ _ n | readProfile _ _ n =>
    cases source
    simp only [Instr.wellFormed, Bool.and_eq_true] at wf
    obtain ⟨a, octets, rfl⟩ := natOctets_one wf.2
    simp only [Instr.requestParameters, octets]
    exact ⟨rfl, rfl⟩
  | retire _ _ k | rerange _ _ k | restore _ _ k | readRecord _ _ k | readTracking _ _ k | collect _ _ k
  | readLive _ _ k =>
    cases source
    simp only [Instr.wellFormed, Bool.and_eq_true] at wf
    obtain ⟨a, b, octets, rfl⟩ := natOctets_two wf.2
    simp only [Instr.requestParameters, octets]
    exact ⟨rfl, rfl⟩
  | readStranger | readLogStatus | clearOverflow | closePeriod | readPeriod | readAttention | readLinks =>
    cases source
    exact ⟨rfl, rfl⟩
  | setEnrolment _ _ t m =>
    cases source
    simp only [Instr.wellFormed, Bool.and_eq_true] at wf
    obtain ⟨⟨_, tree⟩, mode⟩ := wf
    obtain ⟨a, treeOctet, rfl⟩ := natOctets_one tree
    obtain ⟨b, modeOctet, rfl⟩ := natOctets_one mode
    simp only [Instr.requestParameters, treeOctet, modeOctet]
    exact ⟨rfl, rfl⟩
  | assignProfile _ _ k p =>
    cases source
    simp only [Instr.wellFormed, Bool.and_eq_true] at wf
    obtain ⟨⟨_, tag⟩, profile⟩ := wf
    obtain ⟨a, b, tagOctets, rfl⟩ := natOctets_two tag
    obtain ⟨c, profileOctet, rfl⟩ := natOctets_one profile
    simp only [Instr.requestParameters, tagOctets, profileOctet]
    exact ⟨rfl, rfl⟩
  | findSerial _ _ serial =>
    cases source
    obtain ⟨a, b, c, d, e, f, g, h, octets, rfl⟩ := natOctets_serial serial
    simp only [Instr.requestParameters, octets]
    exact ⟨rfl, rfl⟩
  | provision _ _ serial t p =>
    cases source
    simp only [Instr.wellFormed, Bool.and_eq_true] at wf
    obtain ⟨⟨_, tree⟩, profile⟩ := wf
    obtain ⟨a, b, c, d, e, f, g, h, serialOctets, rfl⟩ := natOctets_serial serial
    obtain ⟨x, treeOctet, rfl⟩ := natOctets_one tree
    obtain ⟨y, profileOctet, rfl⟩ := natOctets_one profile
    simp only [Instr.requestParameters, serialOctets, treeOctet, profileOctet]
    exact ⟨rfl, rfl⟩
  | setAttentionMask _ _ mask =>
    cases source
    simp only [Instr.wellFormed, MaskValues.toList, List.all_cons, List.all_nil, Bool.and_eq_true] at wf
    obtain ⟨_, observation, roster, tree, stranger, allowance, -⟩ := wf
    obtain ⟨v, w, x, y, z⟩ := mask
    obtain ⟨a, o1, rfl⟩ := natOctets_one observation
    obtain ⟨b, o2, rfl⟩ := natOctets_one roster
    obtain ⟨c, o3, rfl⟩ := natOctets_one tree
    obtain ⟨d, o4, rfl⟩ := natOctets_one stranger
    obtain ⟨e, o5, rfl⟩ := natOctets_one allowance
    simp only [Instr.requestParameters, MaskValues.toList, List.flatMap_cons, List.flatMap_nil, o1, o2, o3, o4, o5]
    exact ⟨rfl, rfl⟩
  | setTree _ _ t v =>
    cases source
    simp only [Instr.wellFormed, Bool.and_eq_true] at wf
    obtain ⟨⟨_, tree⟩, values⟩ := wf
    have selection : fitsOctets 2 (selectionOf v.toList) = true :=
      decide_eq_true ((selectionOf_lt v.toList).trans (by simp [TreeValues.toList]))
    have length := selectedOctets_length_le 4 v.toList
    have read := readSelected_selectedOctets 4 v.toList values
    obtain ⟨a, treeOctet, rfl⟩ := natOctets_one tree
    obtain ⟨b, c, selectionOctets, count⟩ := natOctets_two selection
    rw [count] at read
    simp only [Instr.requestParameters, treeOctet, selectionOctets]
    refine ⟨decide_eq_true ?_, ?_⟩
    · simp [TreeValues.toList] at length ⊢
      omega
    · exact congrArg (fun values => (values.bind TreeValues.ofList).map (Instr.setTree l seq a.toNat)) read
  | setProfile _ _ p v =>
    cases source
    simp only [Instr.wellFormed, Bool.and_eq_true] at wf
    obtain ⟨⟨_, profile⟩, values⟩ := wf
    have selection : fitsOctets 1 (selectionOf v.toList) = true :=
      decide_eq_true ((selectionOf_lt v.toList).trans (by simp [ProfileValues.toList]))
    have length := selectedOctets_length_le 2 v.toList
    have read := readSelected_selectedOctets 2 v.toList values
    obtain ⟨a, profileOctet, rfl⟩ := natOctets_one profile
    obtain ⟨b, selectionOctet, count⟩ := natOctets_one selection
    rw [count] at read
    simp only [Instr.requestParameters, profileOctet, selectionOctet]
    refine ⟨decide_eq_true ?_, ?_⟩
    · simp [ProfileValues.toList] at length ⊢
      omega
    · exact congrArg (fun values => (values.bind ProfileValues.ofList).map (Instr.setProfile l seq a.toNat)) read
  | _ => cases source

theorem requestCode_fits (i : Instr) : fitsOctets 1 i.requestCode = true := by cases i <;> rfl

theorem requestSeq_fits {i : Instr} {l : LinkId} {seq : Nat} (wf : i.wellFormed = true)
    (source : i.requestSource = some (l, seq)) : fitsOctets 1 seq = true := by
  cases i with
  | findSerial | readStranger | readLogStatus | clearOverflow | closePeriod | readPeriod | readAttention | readLinks =>
    cases source
    exact wf
  | setTree | provision | assignProfile | setProfile | setEnrolment =>
    cases source
    exact (Bool.and_eq_true_iff.mp (Bool.and_eq_true_iff.mp wf).1).1
  | enableTree | disableTree | readTree | readPlan | readEnrolment | readLight | hunt | abortHunt | resumeTree
  | readHunt | retire | rerange | restore | readRecord | readTracking | collect | readLive | readProfile
  | dismissStranger | readObservation | clearObservation | setAttentionMask =>
    cases source
    exact (Bool.and_eq_true_iff.mp wf).1
  | _ => cases source

/-- A well-formed request is what its frame spells (R205). -/
theorem parseRequest_requestFrame {i : Instr} {l : LinkId} {seq : Nat} (wf : i.wellFormed = true)
    (source : i.requestSource = some (l, seq)) : parseRequest l i.requestFrame = some i := by
  obtain ⟨length, parsed⟩ := parseParameters_requestParameters wf source
  rw [Instr.requestFrame, requestSeq_of_source source,
    parseRequest_frame (requestCode_fits i) (requestSeq_fits wf source) length, parsed]

/-! ### Written octets (R188, R191, R194; log entries 7 and 20) -/

/-- A write that its link takes is served on the link with the request in its slot (R188). -/
theorem write_takes {s : State} {l : LinkId} (r : Request) (serve : State → State) (h : s.Takes l) :
    s.write l r serve = serve (s.modLink l (·.takeRequest r)) := by
  obtain ⟨_, hears, idle⟩ := h
  rw [State.write, transaction_hears _ _ _ hears, if_neg idle]

/-- The answer to the request that a link has just taken (R192, R194). -/
theorem takeRequest_answer (s : State) (l : LinkId) (r : Request) (status : Status) (data : ResponseData) :
    (s.modLink l (·.takeRequest r)).answer l status data = s.served l r.code r.seq.toNat status data := by
  rw [State.answer, modLink_modLink, served_eq, BitVec.ofNat_toNat, BitVec.setWidth_eq]
  rfl

/-- Settles O13: octets are answered by what they spell, and a request's frame spells that request. -/
theorem writtenOctetsAreServedOrAnsweredBadRequest : Obligations.WrittenOctetsAreServedOrAnsweredBadRequest := by
  refine ⟨fun l s takes => ⟨fun code seq rest none => ?_, fun code => ?_, ?_⟩, fun i l seq s wf source => ?_⟩
  · have refused : s.writeOctets l (code :: seq :: rest) = s.refuseWrite l code seq rest := by
      simp only [State.writeOctets, none]
    refine (live_out _ _ takes.1).trans (congrArg _ (refused.trans ?_))
    rw [State.refuseWrite, write_takes _ _ takes, takeRequest_answer]
  · refine ⟨Config.sequenceOfCutShort s.freeCount, (live_out _ _ takes.1).trans (congrArg _ ?_)⟩
    show s.refuseCutShort l code = _
    rw [State.refuseCutShort, write_takes _ _ takes, takeRequest_answer]
    rfl
  · exact (live_out _ _ takes.1).trans (congrArg _ (transaction_hears _ _ _ takes.2.1))
  · rw [exec_request_eq_live source]
    exact congrArg (live s) (writeOctets_of_spelt (parseRequest_requestFrame wf source))

/-! ### Reads and stray transactions (R190, R205) -/

/-- Settles O14: both drive the data output of a link that hears them, and nothing else. -/
theorem readsAndStrayTransactionsOnlyDriveTheOutput : Obligations.ReadsAndStrayTransactionsOnlyDriveTheOutput := by
  constructor
  · intro l clocked s out hears
    refine (live_out _ _ out).trans (congrArg _ ?_)
    rw [transaction_hears _ _ _ hears]
    rfl
  · intro l command s out hears write read
    refine (live_out _ _ out).trans (congrArg _ ?_)
    rw [if_neg (by simp [write, read]), transaction_hears _ _ _ hears]

end Sys2Proof.Machine

/-! ## Attention (R42, R195, R197 to R199) -/

namespace Sys2Proof.Machine

/-! ### Flags by their kind -/

section
variable (f : Flags) (kind : FlagKind)

theorem Flags.exists_mem_iff (p : Flag → Prop) : (∃ x ∈ f.toList, p x) ↔ ∃ kind, p (f.get kind) := by
  constructor
  · rintro ⟨x, mem, own⟩
    simp only [Flags.toList, List.mem_cons, List.not_mem_nil, or_false] at mem
    rcases mem with rfl | rfl | rfl | rfl | rfl
    exacts [⟨.observation, own⟩, ⟨.roster, own⟩, ⟨.tree, own⟩, ⟨.stranger, own⟩, ⟨.allowance, own⟩]
  · rintro ⟨kind, own⟩
    exact ⟨f.get kind, by cases kind <;> simp [Flags.toList, Flags.get], own⟩

theorem Flags.latch_get (other : FlagKind) :
    (f.latch kind).get other = if other = kind then (f.get other).latch else f.get other := by
  cases kind <;> cases other <;> rfl

theorem Flags.clear_get : f.clear.get kind = (f.get kind).clear := by cases kind <;> rfl

theorem Flags.reset_get : Flags.reset.get kind = .reset := by cases kind <;> rfl

end

/-! ### ATTN (R197) -/

theorem Link.attn_iff (x : Link) : x.attn = true ↔
    x.role ≠ .off ∧ ∃ kind, (x.flags.get kind).latched = true ∧ (x.flags.get kind).shown = true := by
  rw [Link.attn, Bool.and_eq_true, Link.active_iff, List.any_eq_true,
    Flags.exists_mem_iff x.flags fun y => (y.latched && y.shown) = true]
  simp only [Bool.and_eq_true]

/-- A link with no flag latched does not assert its ATTN line. -/
theorem Link.attn_eq_false {x : Link} (quiet : ∀ kind, (x.flags.get kind).latched = false) : x.attn = false := by
  refine Bool.eq_false_iff.mpr fun attn => ?_
  obtain ⟨-, kind, latched, -⟩ := (Link.attn_iff x).mp attn
  exact Bool.false_ne_true ((quiet kind).symm.trans latched)

theorem Link.reset_quiet (role : Role) (straddling : Bool) : (Link.reset role straddling).attn = false ∧
    ∀ kind, ((Link.reset role straddling).flags.get kind).shown = false := by
  have flags (kind : FlagKind) : (Link.reset role straddling).flags.get kind = .reset := Flags.reset_get kind
  exact ⟨Link.attn_eq_false fun kind => by rw [flags]; rfl, fun kind => by rw [flags]; rfl⟩

theorem quiet_of_resetWith {t : State} {roles : Vector Role 3} {selected : Vector Bool 3} {freeCount : Nat}
    {pending : List Instr} (links : t.links = (State.resetWith roles selected freeCount pending).links) (l : LinkId) :
    (t.link l).attn = false ∧ ∀ kind, ((t.link l).flags.get kind).shown = false := by
  rw [link_congr links, resetWith_link]
  exact Link.reset_quiet ..

theorem fallIntoReset_links (s : State) : s.fallIntoReset.links =
    (State.resetWith (s.links.map (·.role)) (Vector.replicate 3 false) s.freeCount s.pending).links := rfl

/-- Settles O16: ATTN is computed from the role and the flags, and after reset no flag is latched or shown. -/
theorem attnFollowsTheLatchedAndShownFlags : Obligations.AttnFollowsTheLatchedAndShownFlags := by
  refine ⟨fun s l => Link.attn_iff _, fun s t c l reset run => ?_⟩
  rcases reset with rfl | rfl | ⟨held, straps, selected, rfl⟩
  · cases run
    exact quiet_of_resetWith (fallIntoReset_links s) l
  · cases run
    exact quiet_of_resetWith (fallIntoReset_links s) l
  · cases run
    have holds : (s.powerHeld || s.resetHeld) = true := by
      by_contra free
      exact held (by simpa using free)
    rw [if_pos holds]
    exact quiet_of_resetWith rfl l

/-! ### Latching (R42, R195) -/

theorem Link.latch_active {x : Link} (active : x.role ≠ .off) (kind : FlagKind) :
    x.latch kind = { x with flags := x.flags.latch kind } := if_pos ((Link.active_iff x).mpr active)

theorem LinkReport.latches_eq_some {r : LinkReport} {kind : FlagKind}
    (h : r = .event kind ∨ ∃ k before after byRequest, r = .change k before after byRequest ∧ kind = .roster ∧
      (byRequest = false ∨ (before = .retired ∧ after = .vacant))) : r.latches = some kind := by
  rcases h with rfl | ⟨k, before, after, byRequest, rfl, rfl, rfl | ⟨rfl, rfl⟩⟩
  · rfl
  · rfl
  · cases byRequest <;> rfl

theorem takeReport_of_latches {s : State} {r : LinkReport} {kind : FlagKind} (h : r.latches = some kind) :
    s.takeReport r = s.latchAll kind := by
  rw [State.takeReport, h]

theorem exec_attentionLatch_eq {s : State} {index : Nat} {r : LinkReport} (out : s.OutOfReset)
    (report : s.mail.attention[index]? = some r) : exec (.attentionLatch index) s =
      .next ((s.modMail fun m => { m with attention := m.attention.eraseIdx index }).takeReport r) := by
  refine (live_out _ _ out).trans ?_
  rw [takeNth_of_getElem? report]
  rfl

/-- Settles O15: a report is taken by the flag it latches, and a state change makes one report. -/
theorem aLatchingEventReachesEveryActiveLink : Obligations.ALatchingEventReachesEveryActiveLink := by
  refine ⟨fun index report s out found => ⟨fun kind latching => ?_, fun k before after change silent => ?_⟩,
    fun s k new byRequest other => changeState_attention byRequest other⟩
  · have latches := LinkReport.latches_eq_some latching
    refine ⟨_, exec_attentionLatch_eq out found, ?_, fun l => ?_⟩
    · rw [takeReport_of_latches latches]
      rfl
    · rw [takeReport_of_latches latches, latchAll_link, modMail_link]
      refine ⟨latch_off _ kind, fun active => ?_⟩
      rw [Link.latch_active active, Flags.latch_get, if_pos rfl]
      exact ⟨rfl, rfl, rfl, fun other ne => (Flags.latch_get ..).trans (if_neg ne), rfl⟩
  · have latches : report.latches = none := (latches_none_iff report).mpr ⟨k, before, after, change, silent⟩
    rw [exec_attentionLatch_eq out found, State.takeReport, latches]
    rfl

/-! ### READ_ATTENTION and SET_ATTENTION_MASK (R198, R199) -/

/-- The flags of a link written as its request is answered. -/
theorem asked_flags_answer (s : State) (l : LinkId) (i : Instr) (write : Flags → Flags) (status : Status)
    (data : ResponseData) :
    ((s.asked l i).modLink l fun x => { x with flags := write x.flags }).answer l status data =
      s.modLink l fun x =>
        { x.served i.requestCode (BitVec.ofNat 8 i.requestSeq) status data with flags := write x.flags } := by
  rw [asked_eq, modLink_modLink, State.answer, modLink_modLink]
  rfl

/-- A change of one link says what the link becomes. -/
theorem modLink_eq_set (s : State) (l : LinkId) (f : Link → Link) :
    s.modLink l f = { s with links := s.links.set l.val ((s.modLink l f).link l) } := by
  rw [modLink_link_self]
  rfl

theorem exec_readAttention_eq {s : State} {l : LinkId} {seq : Nat} (h : s.Serves l .read) :
    exec (.readAttention l seq) s = .next (s.modLink l fun x =>
      { x.served 33 (BitVec.ofNat 8 seq) .ok (.attention (s.link l).flags (s.link l).role) with
        flags := x.flags.clear }) := by
  refine (live_out _ _ h.1.1).trans (congrArg _ ?_)
  rw [State.reqReadAttention, request_serves _ _ _ _ _ h, State.serveAttention, asked_link]
  exact asked_flags_answer s l (.readAttention l seq) Flags.clear ..

/-- SET_ATTENTION_MASK by the flags that its mask leaves (R199). -/
theorem exec_setAttentionMask_eq {s : State} {l : LinkId} {seq : Nat} {mask : MaskValues} (h : s.Serves l .read) :
    exec (.setAttentionMask l seq mask) s = .next ((s.asked l (.setAttentionMask l seq mask)).serveMask l mask) := by
  refine (live_out _ _ h.1.1).trans (congrArg _ ?_)
  rw [State.reqSetAttentionMask, request_serves _ _ _ _ _ h]

theorem maskBit_eq_some {n : Nat} (h : n ≤ 1) : maskBit n = some (n == 1) := by
  interval_cases n <;> rfl

theorem le_one_of_maskBit {n : Nat} {shown : Bool} (h : maskBit n = some shown) : n ≤ 1 := by
  match n with
  | 0 | 1 => decide
  | n + 2 => cases h

/-- Flags with other settings, each latched and counted as it was (R199). -/
def Flags.withShown (f : Flags) (mask : MaskValues) : Flags :=
  ⟨f.observation.setShown (mask.observation == 1), f.roster.setShown (mask.roster == 1),
    f.tree.setShown (mask.tree == 1), f.stranger.setShown (mask.stranger == 1),
    f.allowance.setShown (mask.allowance == 1)⟩

/-- A mask of settings 1 and 0 is written whole (R199). -/
theorem Flags.setMask_eq_some (f : Flags) {mask : MaskValues} (settings : ∀ n ∈ mask.toList, n ≤ 1) :
    f.setMask mask = some (f.withShown mask) := by
  have bit (n : Nat) (mem : n ∈ mask.toList) : maskBit n = some (n == 1) := maskBit_eq_some (settings n mem)
  simp only [MaskValues.toList, List.forall_mem_cons] at bit
  obtain ⟨observation, roster, tree, stranger, allowance, -⟩ := bit
  simp only [Flags.setMask, observation, roster, tree, stranger, allowance]
  rfl

/-- A mask with any other setting is not written (R199). -/
theorem Flags.setMask_eq_none (f : Flags) {mask : MaskValues} (other : ∃ n ∈ mask.toList, 2 ≤ n) :
    f.setMask mask = none := by
  unfold Flags.setMask
  split
  · rename_i observation roster tree stranger allowance
    have settings : ∀ n ∈ mask.toList, n ≤ 1 := by
      simp [MaskValues.toList, le_one_of_maskBit observation, le_one_of_maskBit roster, le_one_of_maskBit tree,
        le_one_of_maskBit stranger, le_one_of_maskBit allowance]
    obtain ⟨n, mem, above⟩ := other
    exact absurd (settings n mem) (by omega)
  · rfl

theorem Flags.withShown_shown (f : Flags) (mask : MaskValues) :
    (f.withShown mask).toList.map (·.shown) = mask.toList.map fun n => n == 1 := rfl

theorem Flags.withShown_get (f : Flags) (mask : MaskValues) (kind : FlagKind) :
    ((f.withShown mask).get kind).latched = (f.get kind).latched ∧
      ((f.withShown mask).get kind).count = (f.get kind).count := by
  cases kind <;> exact ⟨rfl, rfl⟩

/-- Settles O17: a read clears what it returns, and a mask is written whole or not at all. -/
theorem attentionIsReadClearedAndMasked : Obligations.AttentionIsReadClearedAndMasked := by
  refine ⟨fun l seq s h => ?_, fun l seq mask s h => ⟨fun settings => ?_, fun other => ?_⟩⟩
  · refine ⟨_, exec_readAttention_eq h, modLink_eq_set .., ?_⟩
    rw [modLink_link_self]
    have cleared (kind : FlagKind) : (s.link l).flags.clear.get kind = ((s.link l).flags.get kind).clear :=
      Flags.clear_get ..
    exact ⟨rfl, cleared, Link.attn_eq_false fun kind => congrArg Flag.latched (cleared kind)⟩
  · have written : exec (.setAttentionMask l seq mask) s = .next (s.modLink l fun x =>
        { x.served 34 (BitVec.ofNat 8 seq) .ok (.mask (mask.toList.map fun n => n == 1)) with
          flags := (s.link l).flags.withShown mask }) := by
      have masked : ((s.asked l (.setAttentionMask l seq mask)).link l).flags.setMask mask =
          some ((s.link l).flags.withShown mask) := by
        rw [asked_link]
        exact Flags.setMask_eq_some _ settings
      rw [exec_setAttentionMask_eq h, State.serveMask, masked]
      exact congrArg _ (asked_flags_answer s l _ (fun _ => (s.link l).flags.withShown mask) ..)
    refine ⟨_, written, modLink_eq_set .., ?_⟩
    rw [modLink_link_self]
    exact ⟨rfl, Flags.withShown_shown .., fun kind => Flags.withShown_get ..⟩
  · have refused : ((s.asked l (.setAttentionMask l seq mask)).link l).flags.setMask mask = none :=
      Flags.setMask_eq_none _ other
    rw [exec_setAttentionMask_eq h, State.serveMask, refused]
    exact congrArg _ (asked_answer ..)

end Sys2Proof.Machine
